-- ==== Sys2Proof/Word.lean ====
section
/-! DEFINITION. The machine's words: bytes, 32-bit registers, 64-bit counters. -/

namespace Sys2Proof

/-- One byte (00 R7). -/
abbrev Byte := BitVec 8

/-- One 32-bit register word (00 R11). -/
abbrev Word := BitVec 32

/-- One 64-bit counter word (05 R202). -/
abbrev DWord := BitVec 64

/-- A string of bytes, first byte first. -/
abbrev Bytes := List (BitVec 8)

end Sys2Proof
end

