-- ==== Sys2Proof/Machine/Bits.lean ====
section
/-! DEFINITION. Bit fields, byte strings in either order, and the cyclic redundancy checks
built from them (00 R6, R7; 04 R157; 06 R210; 09 R348). -/

namespace Sys2Proof.Bits

/-- The `n` bits of `v` from bit `lo` up (00 R6: bit 0 is the least significant). -/
def field (v lo n : Nat) : Nat := v / 2 ^ lo % 2 ^ n

/-- Bit `i` of `v`. -/
def bit (v i : Nat) : Bool := v.testBit i

/-- A Bool as 0 or 1. -/
def b2n (b : Bool) : Nat := if b then 1 else 0

/-- A word from fields, each a value, its lowest bit and its width. -/
def pack (fs : List (Nat × Nat × Nat)) : Nat :=
  fs.foldl (fun acc f => acc ||| ((f.1 % 2 ^ f.2.2) <<< f.2.1)) 0

/-- `pack` as a 32-bit register word. -/
def word (fs : List (Nat × Nat × Nat)) : Word := BitVec.ofNat 32 (pack fs)

/-- `v` with its `n` bits from `lo` up replaced by `x`. -/
def setField (v lo n x : Nat) : Nat :=
  v - (field v lo n) * 2 ^ lo + (x % 2 ^ n) * 2 ^ lo

/-- `v` with bit `i` set to `b`. -/
def setBit (v i : Nat) (b : Bool) : Nat := setField v i 1 (b2n b)

/-- The bits of `v` from `n` values below, as a list of the positions that are one. -/
def ones (v n : Nat) : List Nat := (List.range n).filter (fun i => v.testBit i)

/-- How many of the low `n` bits of `v` are one. -/
def popCount (v n : Nat) : Nat := (ones v n).length

/-- The position of the lowest one among the low `n` bits. -/
def lowest (v n : Nat) : Option Nat := (List.range n).find? (fun i => v.testBit i)

/-- A mask from a predicate on positions below `n`. -/
def maskOf (n : Nat) (p : Nat → Bool) : Nat :=
  (List.range n).foldl (fun acc i => if p i then acc + 2 ^ i else acc) 0

/-- Big-endian reading of a byte string (00 R7). -/
def beNat (bs : Bytes) : Nat := bs.foldl (fun acc b => acc * 256 + b.toNat) 0

/-- Little-endian reading of a byte string. -/
def leNat (bs : Bytes) : Nat := beNat bs.reverse

/-- `v` as `n` bytes, least significant first. -/
def leBytes : Nat → Nat → Bytes
  | 0, _ => []
  | n + 1, v => BitVec.ofNat 8 v :: leBytes n (v / 256)

/-- `v` as `n` bytes, most significant first. -/
def beBytes (n v : Nat) : Bytes := (leBytes n v).reverse

/-- A byte string of zeros. -/
def zeros (n : Nat) : Bytes := List.replicate n 0

/-- `n` bytes of `bs` from offset `o`, short only when `bs` ends. -/
def slice (bs : Bytes) (o n : Nat) : Bytes := (bs.drop o).take n

/-- `n` bytes of `bs` from offset `o`, zero-extended when `bs` ends. -/
def sliceZ (bs : Bytes) (o n : Nat) : Bytes :=
  let t := slice bs o n
  t ++ zeros (n - t.length)

/-- The big-endian integer in `n` bytes at `o`. -/
def beAt (bs : Bytes) (o n : Nat) : Nat := beNat (sliceZ bs o n)

/-- The little-endian integer in `n` bytes at `o`. -/
def leAt (bs : Bytes) (o n : Nat) : Nat := leNat (sliceZ bs o n)

/-- `bs` with the bytes from `o` replaced by `v`. -/
def splice (bs : Bytes) (o : Nat) (v : Bytes) : Bytes :=
  bs.take o ++ v ++ bs.drop (o + v.length)

/-- `bs` padded with zeros to at least `n` bytes. -/
def padTo (bs : Bytes) (n : Nat) : Bytes := bs ++ zeros (n - bs.length)

/-- Byte-wise exclusive or, as long as the shorter. -/
def xorBytes (a b : Bytes) : Bytes := List.zipWith (fun x y => x ^^^ y) a b

/-- The bits of a byte, most significant first. -/
def msbBits (b : Byte) : List Bool := [7, 6, 5, 4, 3, 2, 1, 0].map (fun i => b.getLsbD i)

/-- The bits of a byte string, each byte most significant bit first. -/
def bitsOf (bs : Bytes) : List Bool := bs.flatMap msbBits

/-- The `n` bits of `v`, most significant first. -/
def natBits (n v : Nat) : List Bool := ((List.range n).map (fun i => v.testBit i)).reverse

/-- The number a list of bits spells, most significant first. -/
def ofBits (l : List Bool) : Nat := l.foldl (fun acc b => acc * 2 + b2n b) 0

/-- Bits gathered into bytes, most significant bit first; a last part byte is dropped. -/
def bytesOfBits : Nat → List Bool → Bytes
  | 0, _ => []
  | n + 1, l => BitVec.ofNat 8 (ofBits (l.take 8)) :: bytesOfBits n (l.drop 8)

/-- A non-reflected CRC of width `n`: one bit shifted in at the top. -/
def crcStep (n poly : Nat) (c : Nat) (b : Bool) : Nat :=
  let top := c.testBit (n - 1) ^^ b
  let c' := c * 2 % 2 ^ n
  if top then c' ^^^ poly else c'

/-- A CRC over bits, most significant first, with no reflection (04 R157, 06 R210). -/
def crcMsb (n poly init : Nat) (l : List Bool) : Nat := l.foldl (crcStep n poly) init

/-- CRC-8 of a capability word's bits 63 to 8 (04 R167). -/
def crc8 (l : List Bool) : Nat := crcMsb 8 0x07 0 l

/-- CRC-16 with polynomial x^16 + x^12 + x^5 + 1 and start 0 (06 R210). -/
def crc16 (bs : Bytes) : Nat := crcMsb 16 0x1021 0 (bitsOf bs)

/-- One bit of the reflected CRC-32 of IEEE 802.3 (09 R348). -/
def crc32Bit (c : Nat) : Nat := if c.testBit 0 then (c / 2) ^^^ 0xEDB88320 else c / 2

/-- One byte of the reflected CRC-32. -/
def crc32Byte (c : Nat) (b : Byte) : Nat := Nat.repeat crc32Bit 8 (c ^^^ b.toNat)

/-- The CRC-32 of a byte string, computed as for the IEEE 802.3 FCS (05, 07, 09 R348). -/
def crc32 (bs : Bytes) : Nat := (bs.foldl crc32Byte 0xFFFFFFFF) ^^^ 0xFFFFFFFF

/-- The frame check sequence as its four bytes on the wire, least significant byte first. -/
def fcs (bs : Bytes) : Bytes := leBytes 4 (crc32 bs)

/-- Two's complement reading of the low `n` bits. -/
def signed (n v : Nat) : Int :=
  let u := v % 2 ^ n
  if 2 ^ (n - 1) ≤ u then (u : Int) - 2 ^ n else u

/-- An integer wrapped into `n` bits. -/
def wrap (n : Nat) (v : Int) : Nat := (v % (2 ^ n : Int)).toNat

end Sys2Proof.Bits
end

