-- ==== Sys2Proof/Config.lean ====
section
/-! DEFINITION. What an implementation fixes and the values the spec leaves open: constants without a
body, so that no proof can depend on their value. -/

namespace Sys2Proof.Config

/-- The root the factory provisioned (12 R456); it never leaves the levee. -/
opaque factoryRoot : BitVec 256

/-- The fused die identity, byte 0 first (12 R458, 19 R626). -/
opaque dieId : BitVec 128

/-- The SHA-384 of the signer's public key the module accepts (03 R102). -/
opaque signerHash : BitVec 384

/-- Free value: bits drawn from the noise source (13 R505, 15 R546), by the free index. -/
opaque noise : Nat → BitVec 256

/-- Free value: whether the noise source has passed its start-up health tests by an unlock START made before
KEY_UNSEAL, which no rule times (13 R506), by the free index. -/
opaque noiseReady : Nat → Bool

/-- Free value: which of a number of KEY_IMPORT records was being unwrapped when a tamper alarm came, which depends on
the time of the alarm (03 R120); beyond the last, none. -/
opaque unsealing : Nat → Nat → Nat

/-- Free value: what the noise source gives the DRBG as it is seeded, 32 bytes of entropy and a nonce of 16 (12 R475), by
the free index. -/
opaque entropy : Nat → BitVec 384

/-- Free value: the mask of a cell written while no DRBG serves (12 R474, R475), by the free index. -/
opaque cellMask : Nat → BitVec 384

/-- Free value: the mask the levee draws for the vault at a 1 Hz sample (12 R477), by the free index. -/
opaque vaultMask : Nat → BitVec 256

/-- Free value: the 32-bit integrity code of a key under a check key, whose function no rule gives (12 R474). -/
opaque cellCode : List (BitVec 8) → List (BitVec 8) → BitVec 32

/-- Free value: what TIME answers for a POINT of 2 or 3, which no rule defines (08 R321), its word
and H. -/
opaque timePoint : Nat → BitVec 64

/-- Free value: H after a TIME whose POINT no rule defines (08 R321). -/
opaque timePointH : Nat → Bool

/-- Whether an internal regulator's rail feeds a unit (02 R85), which the spec does not say, by rail and unit:
0–65 a lane, 66–81 a pipe group, 82–113 a polder. -/
opaque railFeeds : Nat → Nat → Bool

/-- Whether a rail is that of the core, the steward or the HBM (02 R84). -/
opaque railCore : Nat → Bool

/-- Free value: the size and the PAD of a FILL frame, which the spec leaves to the framer (06 R212), by the free
index. -/
opaque fillShape : Nat → Nat × Nat

/-- Free value: where an adaptation moves a receiver setting, by the free index, which of the five settings, and its value
before (04 R150). -/
opaque adapt : Nat → Nat → Nat → Nat

/-- Free value: the coefficient change a lane requests of the far end, its tap and whether upward, by the free index (04
R144). -/
opaque coeffAsk : Nat → Option (Nat × Bool)

/-- Free value: the state a test pattern generator starts from, by the free index (04 R139, R174). -/
opaque patternStart : Nat → Nat

/-- Free value: the symbols of SSPRQ by place (IEEE 802.3, 120.5.11.2.3), which the spec does not spell out (04
R139). -/
opaque ssprq : Nat → BitVec 2

/-- Free value: a line lane's characterised nominal transmit delay in 2^-16 ns (14 R528). -/
opaque nominalTx : Nat → BitVec 32

/-- Free value: a line lane's characterised nominal receive delay in 2^-16 ns (14 R528). -/
opaque nominalRx : Nat → BitVec 32

/-- The profile number a PAIR lane sends and expects in a capability word: the spec gives a PAIR lane
no port policy to take it from (04 R166). -/
opaque pairProfile : BitVec 16

/-- Free value: the payload of an IMG_STAGE response, which lists the records that differ (03 R127) in
a form the spec does not give; by their types and instances. -/
opaque stageList : List (Nat × Nat) → Bytes

/-- Free value: the result of an IMG_APPLY with no staged image, which the spec does not state
(03 R128). -/
opaque noStageResult : BitVec 8

/-- Free value: END_NODE of a frame whose start node is 0xFF, of which no header is read (07 R267). -/
opaque noEndNode : BitVec 8

/-- Free value: HOPS of the same frame, which has no header to count (07 R267). -/
opaque noHops : BitVec 4

/-- The lane within a port, modulo its width, that carries the start of a frame whose departure falls in a
cycle: the port layer deals the lanes, which no rule lets one follow (05 R193, 14 R525). -/
opaque departLane : Nat → Nat

/-- The line, in its region of the HBM, that holds the entry a lookup reads, by table, probe and location: no rule gives the
addresses within the table regions (15 R541). -/
opaque tableLine : Nat → Nat → Nat → BitVec 20

/-- Free value: whether a line of the reorder buffers holds bytes of a frame, by line and frame: no rule gives
the addresses within them (15 R541, R545). -/
opaque reorderHolds : Nat → Nat → Bool

/-- Free value: how many traffic slots of a pipe group served frames in a round, by the free index and the
group: which pipes serve a frame no rule says (11 R432, R433). -/
opaque dealtSlots : Nat → Nat → Nat

/-- Free value: whether a frame in the cipher stage has a block or a partial tag in one of some pipes, by the
mask of the pipes and the frame: which pipes serve a frame no rule says (11 R432, R447). -/
opaque pipeHolds : Nat → Nat → Bool

/-- Byte k left by a flash program or erase that failed (19 R633: no value is stated). -/
opaque flashByte : Nat → Nat → Byte

/-- The result of a flash command whose slot, offset or length is out of range (19 R632 states none). -/
opaque flashRefused : BitVec 8

end Sys2Proof.Config
end

