-- ==== Sys2Proof/Machine/Crypto.lean ====
section
/-! DEFINITION. The algorithms the spec names and does not spell out: AES and GCM (11 R420, R421),
KW (12 R459), SHA-384, HMAC and the KDF (12 R457), XTS (15 R547) and ECDSA P-384 verification
(03 R102). PRESUMED (log entry 10): taken from the standards the spec cites. -/

namespace Sys2Proof.Crypto
open Sys2Proof.Bits

/-! ### SHA-384 (FIPS 180-4) -/

/-- The integer part of the `k`-th root of `x`, found bit by bit from bit `n - 1` down onto `acc`. -/
def rootGo (k x : Nat) : Nat → Nat → Nat
  | 0, acc => acc
  | n + 1, acc => rootGo k x n (if (acc + 2 ^ n) ^ k ≤ x then acc + 2 ^ n else acc)

/-- The first 64 bits of the fraction of the `k`-th root of `p` (FIPS 180-4, 4.2.3 and 5.3.4). -/
def rootFrac (k p : Nat) : DWord := BitVec.ofNat 64 (rootGo k (p * 2 ^ (64 * k)) 72 0)

/-- The primes below a bound, in rising order. -/
def primesBelow (b : Nat) : List Nat :=
  (List.range b).filter (fun n => decide (2 ≤ n) && (List.range n).all (fun d => decide (d < 2 ∨ n % d ≠ 0)))

/-- The round constants: the cube roots of the first eighty primes. -/
def shaK : List DWord := (primesBelow 410).map (rootFrac 3)

/-- The start value of SHA-384: the square roots of the ninth to the sixteenth prime. -/
def shaInit : List DWord := ((primesBelow 54).drop 8).map (rootFrac 2)

/-- The next word of the schedule from the last sixteen, newest first. -/
def shaNextW (w : List DWord) : DWord :=
  let w2 := w.getD 1 0
  let w7 := w.getD 6 0
  let w15 := w.getD 14 0
  let w16 := w.getD 15 0
  let s1 := w2.rotateRight 19 ^^^ w2.rotateRight 61 ^^^ (w2 >>> 6)
  let s0 := w15.rotateRight 1 ^^^ w15.rotateRight 8 ^^^ (w15 >>> 7)
  s1 + w7 + s0 + w16

/-- The schedule grown by `n` words, newest first. -/
def shaGrow : Nat → List DWord → List DWord
  | 0, w => w
  | n + 1, w => shaGrow n (shaNextW w :: w)

/-- One round. -/
def shaRound (v : List DWord) (kw : DWord × DWord) : List DWord :=
  match v with
  | [a, b, c, d, e, f, g, h] =>
    let t1 := h + (e.rotateRight 14 ^^^ e.rotateRight 18 ^^^ e.rotateRight 41)
      + ((e &&& f) ^^^ (~~~e &&& g)) + kw.1 + kw.2
    let t2 := (a.rotateRight 28 ^^^ a.rotateRight 34 ^^^ a.rotateRight 39)
      + ((a &&& b) ^^^ (a &&& c) ^^^ (b &&& c))
    [t1 + t2, a, b, c, d + t1, e, f, g]
  | other => other

/-- One 128-byte block into the chaining value. -/
def shaBlock (h : List DWord) (blk : Bytes) : List DWord :=
  let w0 := (List.range 16).map (fun i => BitVec.ofNat 64 (beAt blk (8 * i) 8))
  let w := (shaGrow 64 w0.reverse).reverse
  let v := (List.zip shaK w).foldl shaRound h
  List.zipWith (fun x y => x + y) h v

/-- `n` blocks in order. -/
def shaBlocks : Nat → List DWord → Bytes → List DWord
  | 0, h, _ => h
  | n + 1, h, bs => shaBlocks n (shaBlock h (bs.take 128)) (bs.drop 128)

/-- SHA-384 of a byte string: 48 bytes. -/
def sha384 (m : Bytes) : Bytes :=
  let len := m.length
  let padLen := (128 - (len + 17) % 128) % 128
  let p := m ++ [0x80#8] ++ zeros padLen ++ beBytes 16 (len * 8)
  ((shaBlocks (p.length / 128) shaInit p).take 6).flatMap (fun d => beBytes 8 d.toNat)

/-- HMAC-SHA-384 (FIPS 198-1). -/
def hmac384 (key m : Bytes) : Bytes :=
  let k := padTo (if 128 < key.length then sha384 key else key) 128
  let ipad := k.map (fun b => b ^^^ 0x36)
  let opad := k.map (fun b => b ^^^ 0x5c)
  sha384 (opad ++ sha384 (ipad ++ m))

/-- The bytes of an ASCII label. -/
def ascii (s : String) : Bytes := s.toList.map (fun c => BitVec.ofNat 8 c.toNat)

/-- The counter-mode KDF of 12 R457, `l` bits. -/
def kdf (ki label context : Bytes) (l : Nat) : Bytes :=
  (hmac384 ki (beBytes 4 1 ++ label ++ [0] ++ context ++ beBytes 4 l)).take (l / 8)

/-! ### AES (FIPS 197) -/

/-- Multiplication in GF(2^8) modulo x^8 + x^4 + x^3 + x + 1: `n` bits of `b` left. -/
def gmulGo : Nat → Nat → Nat → Nat → Nat
  | 0, _, _, r => r
  | n + 1, a, b, r =>
    let r' := if b.testBit 0 then r ^^^ a else r
    let a' := if a.testBit 7 then (a * 2 % 256) ^^^ 0x1b else a * 2
    gmulGo n a' (b / 2) r'

/-- Multiplication in GF(2^8). -/
def gmul (a b : Nat) : Nat := gmulGo 8 a b 0

/-- The inverse in GF(2^8), zero for zero: a^254. -/
def ginv (a : Nat) : Nat :=
  let a2 := gmul a a
  let a4 := gmul a2 a2
  let a8 := gmul a4 a4
  let a16 := gmul a8 a8
  let a32 := gmul a16 a16
  let a64 := gmul a32 a32
  let a128 := gmul a64 a64
  gmul (gmul (gmul (gmul (gmul (gmul a128 a64) a32) a16) a8) a4) a2

/-- Rotation left within eight bits. -/
def rol8 (v n : Nat) : Nat := (v * 2 ^ n % 256) ||| (v / 2 ^ (8 - n))

/-- The S-box. -/
def sbox (b : Byte) : Byte :=
  let x := ginv b.toNat
  BitVec.ofNat 8 (x ^^^ rol8 x 1 ^^^ rol8 x 2 ^^^ rol8 x 3 ^^^ rol8 x 4 ^^^ 0x63)

/-- The inverse S-box. -/
def sboxInv (b : Byte) : Byte :=
  let x := b.toNat
  BitVec.ofNat 8 (ginv (rol8 x 1 ^^^ rol8 x 3 ^^^ rol8 x 6 ^^^ 0x05))

/-- The round constant of the `i`-th group, from 1. -/
def rcon : Nat → Nat
  | 0 => 0x8d
  | n + 1 => gmul (rcon n) 2

/-- The key schedule's words, newest first, grown until `n` more have been added; `i` counts
words and `nk` is the key's length in words. -/
def keyGrow (nk : Nat) : Nat → Nat → List Bytes → List Bytes
  | 0, _, ws => ws
  | n + 1, i, ws =>
    let prev := ws.headD []
    let old := ws.getD (nk - 1) []
    let t :=
      if i % nk = 0 then
        match (prev.drop 1 ++ prev.take 1).map sbox with
        | b0 :: r => (b0 ^^^ BitVec.ofNat 8 (rcon (i / nk))) :: r
        | [] => []
      else if nk = 8 ∧ i % nk = 4 then prev.map sbox
      else prev
    keyGrow nk n (i + 1) (xorBytes old t :: ws)

/-- A list cut into pieces of `k`, `n` pieces. -/
def chunks {α : Type} (k : Nat) : Nat → List α → List (List α)
  | 0, _ => []
  | n + 1, l => l.take k :: chunks k n (l.drop k)

/-- The round keys, 16 bytes each, of a 16- or 32-byte key. -/
def roundKeys (key : Bytes) : List Bytes :=
  let nk := key.length / 4
  let total := 4 * (nk + 7)
  let ws := (keyGrow nk (total - nk) nk (chunks 4 nk key).reverse).reverse
  (chunks 4 (nk + 7) ws).map List.flatten

/-- Row shift by the given source positions of the 16 bytes. -/
def permute (ps : List Nat) (st : Bytes) : Bytes := ps.map (fun i => st.getD i 0)

/-- ShiftRows as source positions. -/
def shiftRowsIdx : List Nat := [0, 5, 10, 15, 4, 9, 14, 3, 8, 13, 2, 7, 12, 1, 6, 11]

/-- The inverse of ShiftRows. -/
def invShiftRowsIdx : List Nat := [0, 13, 10, 7, 4, 1, 14, 11, 8, 5, 2, 15, 12, 9, 6, 3]

/-- One column multiplied by the circulant of `c`. -/
def mixCol (c : List Nat) (col : Bytes) : Bytes :=
  (List.range 4).map (fun i =>
    BitVec.ofNat 8 ((List.range 4).foldl (fun acc j =>
      acc ^^^ gmul (col.getD j 0).toNat (c.getD ((j + 4 - i) % 4) 0)) 0))

/-- MixColumns with the circulant of `c`. -/
def mixCols (c : List Nat) (st : Bytes) : Bytes := (chunks 4 4 st).flatMap (mixCol c)

/-- The middle rounds of encryption. -/
def encRounds : List Bytes → Bytes → Bytes
  | [], st => st
  | [k], st => xorBytes (permute shiftRowsIdx (st.map sbox)) k
  | k :: ks, st =>
    encRounds ks (xorBytes (mixCols [2, 3, 1, 1] (permute shiftRowsIdx (st.map sbox))) k)

/-- AES of one 16-byte block under expanded keys. -/
def aesEncWith (rks : List Bytes) (blk : Bytes) : Bytes :=
  match rks with
  | [] => blk
  | k :: ks => encRounds ks (xorBytes blk k)

/-- AES of one block. -/
def aesEnc (key blk : Bytes) : Bytes := aesEncWith (roundKeys key) blk

/-- The middle rounds of decryption, the round keys last to first. -/
def decRounds : List Bytes → Bytes → Bytes
  | [], st => st
  | [k], st => xorBytes ((permute invShiftRowsIdx st).map sboxInv) k
  | k :: ks, st =>
    decRounds ks (mixCols [14, 11, 13, 9] (xorBytes ((permute invShiftRowsIdx st).map sboxInv) k))

/-- The inverse cipher under expanded keys. -/
def aesDecWith (rks : List Bytes) (blk : Bytes) : Bytes :=
  match rks.reverse with
  | [] => blk
  | k :: ks => decRounds ks (xorBytes blk k)

/-! ### GCM (SP 800-38D) -/

/-- Multiplication in GF(2^128), bits most significant first: `n` bits of `x` left. -/
def ghMulGo (x : Nat) : Nat → Nat → Nat → Nat
  | 0, _, z => z
  | n + 1, v, z =>
    let z' := if x.testBit n then z ^^^ v else z
    let v' := if v.testBit 0 then (v / 2) ^^^ (0xe1 * 2 ^ 120) else v / 2
    ghMulGo x n v' z'

/-- The product of two blocks, as big-endian numbers. -/
def ghMul (x y : Nat) : Nat := ghMulGo x 128 y 0

/-- `bs` cut into 16-byte blocks, the last padded with zeros. -/
def blocks16 (bs : Bytes) : List Bytes :=
  (chunks 16 ((bs.length + 15) / 16) bs).map (fun b => padTo b 16)

/-- GHASH of a string of whole blocks. -/
def ghash (h : Nat) (blks : List Bytes) : Nat :=
  blks.foldl (fun y b => ghMul (y ^^^ beNat b) h) 0

/-- The keystream blocks xored over `bs`, counter from `ctr`. -/
def gctr (rks : List Bytes) (iv : Bytes) : Nat → List Bytes → Bytes
  | _, [] => []
  | ctr, b :: r => xorBytes b (aesEncWith rks (iv ++ beBytes 4 ctr)) ++ gctr rks iv (ctr + 1) r

/-- The text in blocks, the last short. -/
def chunks16 (bs : Bytes) : List Bytes := chunks 16 ((bs.length + 15) / 16) bs

/-- The GCM tag over ciphertext `c` and additional data `a` with a 96-bit IV. -/
def gcmTag (key iv a c : Bytes) : Bytes :=
  let rks := roundKeys key
  let h := beNat (aesEncWith rks (zeros 16))
  let s := ghash h (blocks16 a ++ blocks16 c ++ [beBytes 8 (8 * a.length) ++ beBytes 8 (8 * c.length)])
  xorBytes (beBytes 16 s) (aesEncWith rks (iv ++ beBytes 4 1))

/-- GCM's counter mode over a text, both ways. -/
def gcmCrypt (key iv t : Bytes) : Bytes := gctr (roundKeys key) iv 2 (chunks16 t)

/-- GCM encryption: ciphertext and 16-byte tag. -/
def gcmSeal (key iv a p : Bytes) : Bytes × Bytes :=
  let c := gcmCrypt key iv p
  (c, gcmTag key iv a c)

/-! ### Key wrap (SP 800-38F, KW) -/

/-- One step of the wrapping, `t` from 1. -/
def kwStep (rks : List Bytes) (a : Bytes) (rs : List Bytes) (t : Nat) : Bytes × List Bytes :=
  match rs with
  | [] => (a, [])
  | r :: rest =>
    let b := aesEncWith rks (a ++ r)
    (xorBytes (b.take 8) (beBytes 8 t), rest ++ [b.drop 8])

/-- `n` steps from `t`. -/
def kwSteps (rks : List Bytes) : Nat → Nat → Bytes × List Bytes → Bytes × List Bytes
  | 0, _, st => st
  | n + 1, t, st => kwSteps rks n (t + 1) (kwStep rks st.1 st.2 t)

/-- ICV1 of 12 R459. -/
def icv1 : Bytes := List.replicate 8 0xA6

/-- KW wrap of a plaintext of whole semiblocks. -/
def kwWrap (kek p : Bytes) : Bytes :=
  let n := p.length / 8
  let r := kwSteps (roundKeys kek) (6 * n) 1 (icv1, chunks 8 n p)
  r.1 ++ r.2.flatten

/-- One step of the unwrapping. -/
def kwUnstep (rks : List Bytes) (a : Bytes) (rs : List Bytes) (t : Nat) : Bytes × List Bytes :=
  match rs.reverse with
  | [] => (a, [])
  | r :: rest =>
    let b := aesDecWith rks (xorBytes a (beBytes 8 t) ++ r)
    (b.take 8, b.drop 8 :: rest.reverse)

/-- Steps `t` down to 1. -/
def kwUnsteps (rks : List Bytes) : Nat → Bytes × List Bytes → Bytes × List Bytes
  | 0, st => st
  | t + 1, st => kwUnsteps rks t (kwUnstep rks st.1 st.2 (t + 1))

/-- KW unwrap: the plaintext when the integrity check passes. -/
def kwUnwrap (kek c : Bytes) : Option Bytes :=
  let n := c.length / 8 - 1
  let r := kwUnsteps (roundKeys kek) (6 * n) (c.take 8, chunks 8 n (c.drop 8))
  if r.1 = icv1 then some r.2.flatten else none

/-! ### XTS (IEEE 1619) -/

/-- The tweak of the next block: multiplication by alpha, little-endian. -/
def xtsDouble (t : Bytes) : Bytes :=
  let v := leNat t
  let w := v * 2 % 2 ^ 128
  leBytes 16 (if v.testBit 127 then w ^^^ 0x87 else w)

/-- Blocks under the running tweak, with `f` the cipher. -/
def xtsGo (f : Bytes → Bytes) : Bytes → List Bytes → Bytes
  | _, [] => []
  | t, b :: r => xorBytes (f (xorBytes b t)) t ++ xtsGo f (xtsDouble t) r

/-- XTS encryption of whole blocks as data unit `u`. -/
def xtsEnc (k1 k2 : Bytes) (u : Nat) (p : Bytes) : Bytes :=
  xtsGo (aesEncWith (roundKeys k1)) (aesEnc k2 (leBytes 16 u)) (chunks16 p)

/-- XTS decryption of whole blocks as data unit `u`. -/
def xtsDec (k1 k2 : Bytes) (u : Nat) (c : Bytes) : Bytes :=
  xtsGo (aesDecWith (roundKeys k1)) (aesEnc k2 (leBytes 16 u)) (chunks16 c)

/-! ### ECDSA over P-384 (FIPS 186-5) -/

/-- The field prime. -/
def p384 : Nat := 2 ^ 384 - 2 ^ 128 - 2 ^ 96 + 2 ^ 32 - 1

/-- The group's order. -/
def n384 : Nat :=
  0xffffffffffffffffffffffffffffffffffffffffffffffffc7634d81f4372ddf581a0db248b0a77aecec196accc52973

/-- The curve's coefficient b. -/
def b384 : Nat :=
  0xb3312fa7e23ee7e4988e056be3f82d19181d9c6efe8141120314088f5013875ac656398d8a2ed19d2a85c8edd3ec2aef

/-- The base point. -/
def g384 : Nat × Nat :=
  (0xaa87ca22be8b05378eb1c71ef320ad746e1d3b628ba79b9859f741e082542a385502f25dbf55296c3a545e3872760ab7,
   0x3617de4a96262c6f5d9e98bf9292dc29f8f41dbd289a147ce9da3113b5f0b8c00a60b1ce1d7e819d7a431d7c90ea0e5f)

/-- `a ^ e mod m` over the low `n` bits of `e`, highest first. -/
def powMod (m a e : Nat) : Nat → Nat → Nat
  | 0, acc => acc
  | n + 1, acc =>
    let s := acc * acc % m
    powMod m a e n (if e.testBit n then s * a % m else s)

/-- The inverse modulo a prime. -/
def invMod (m a : Nat) : Nat := powMod m (a % m) (m - 2) 384 1

/-- A point in Jacobian coordinates; Z = 0 is the point at infinity. -/
abbrev JPoint := Nat × Nat × Nat

/-- Subtraction modulo the field prime. -/
def subP (a b : Nat) : Nat := (a + p384 - b % p384) % p384

/-- Doubling, for a = -3. -/
def jDouble (q : JPoint) : JPoint :=
  let (x, y, z) := q
  let zz := z * z % p384
  let yy := y * y % p384
  let s := 4 * x * yy % p384
  let m := 3 * subP x zz * (x + zz) % p384
  let x' := subP (m * m % p384) (2 * s)
  let y' := subP (m * subP s x' % p384) (8 * yy * yy)
  (x', y', 2 * y * z % p384)

/-- Addition. -/
def jAdd (q r : JPoint) : JPoint :=
  let (x1, y1, z1) := q
  let (x2, y2, z2) := r
  if z1 = 0 then r
  else if z2 = 0 then q
  else
    let z1z1 := z1 * z1 % p384
    let z2z2 := z2 * z2 % p384
    let u1 := x1 * z2z2 % p384
    let u2 := x2 * z1z1 % p384
    let s1 := y1 * z2 * z2z2 % p384
    let s2 := y2 * z1 * z1z1 % p384
    if u1 = u2 then
      if s1 = s2 then jDouble q else (1, 1, 0)
    else
      let h := subP u2 u1
      let rr := subP s2 s1
      let hh := h * h % p384
      let hhh := h * hh % p384
      let v := u1 * hh % p384
      let x3 := subP (subP (rr * rr % p384) hhh) (2 * v)
      let y3 := subP (rr * subP v x3 % p384) (s1 * hhh)
      (x3, y3, h * z1 * z2 % p384)

/-- The multiple of a point by the low `n` bits of `k`, highest first. -/
def jMul (q : JPoint) (k : Nat) : Nat → JPoint → JPoint
  | 0, acc => acc
  | n + 1, acc =>
    let d := jDouble acc
    jMul q k n (if k.testBit n then jAdd d q else d)

/-- Whether a public key is a point of the curve. -/
def onCurve (x y : Nat) : Bool :=
  decide (x < p384 ∧ y < p384 ∧ y * y % p384 = (x * x * x + (p384 - 3) * x + b384) % p384)

/-- ECDSA verification of a 48-byte hash `e` under the key x, y (FIPS 186-5, 6.4.2). -/
def ecdsaVerify (x y r s e : Nat) : Bool :=
  if r = 0 ∨ n384 ≤ r ∨ s = 0 ∨ n384 ≤ s then false
  else if onCurve x y = false then false
  else
    let w := invMod n384 s
    let u1 := e * w % n384
    let u2 := r * w % n384
    let pt := jAdd (jMul (g384.1, g384.2, 1) u1 384 (1, 1, 0)) (jMul (x, y, 1) u2 384 (1, 1, 0))
    if pt.2.2 = 0 then false
    else
      let zi := invMod p384 pt.2.2
      decide (pt.1 * zi % p384 * zi % p384 % n384 = r)

end Sys2Proof.Crypto
end

