-- ==== Sys2Proof/Machine/Cells.lean ====
section
/-! DEFINITION. What holds a key: the cells of 12 R474 and the vault of R477, each a key in two shares, and the DRBG of
R475. -/

namespace Sys2Proof.Machine
open Sys2Proof.Bits

/-- DIE_ID as bytes (12 R458). -/
def dieIdBytes : Bytes := beBytes 16 Config.dieId.toNat

/-! ### Key cells (12 R474) -/

/-- A key cell: K xor M, M, and the integrity code over the recombined key. -/
structure Cell where
  share : Bytes
  mask : Bytes
  code : BitVec 32
deriving DecidableEq, Repr

namespace Cell

/-- The recombined key. -/
def key (c : Cell) : Bytes := xorBytes c.share c.mask

/-- A cell that holds nothing: overwritten, it reads back as zero (R482). -/
def empty : Cell := { share := [], mask := [], code := 0 }

/-- A key written under a mask, with its code under the check key. -/
def write (check key mask : Bytes) : Cell :=
  let m := sliceZ mask 0 key.length
  { share := xorBytes key m, mask := m, code := Config.cellCode check key }

/-- The same key under another mask. -/
def remask (c : Cell) (mask : Bytes) : Cell :=
  let m := sliceZ mask 0 c.key.length
  { c with share := xorBytes c.key m, mask := m }

/-- Whether the code fits the recombined key, as every fetch verifies. -/
def intact (check : Bytes) (c : Cell) : Bool := decide (c.code = Config.cellCode check c.key)

end Cell

/-! ### The vault (12 R477) -/

/-- The root as two shares, with its 64-bit check. -/
structure Vault where
  share : Bytes
  mask : Bytes
  check : Bytes
deriving DecidableEq, Repr

namespace Vault

/-- The root. -/
def root (v : Vault) : Bytes := xorBytes v.share v.mask

/-- The check of a root: the first 8 bytes of SHA-384(root ‖ DIE_ID). -/
def checkOf (root : Bytes) : Bytes := (Crypto.sha384 (root ++ dieIdBytes)).take 8

/-- A root of 32 bytes put into the vault under a mask. -/
def hold (root mask : Bytes) : Vault :=
  let m := sliceZ mask 0 32
  { share := xorBytes root m, mask := m, check := checkOf root }

/-- The same root under another mask, as every 1 Hz sample leaves it. -/
def remask (v : Vault) (mask : Bytes) : Vault :=
  let m := sliceZ mask 0 32
  { v with share := xorBytes v.root m, mask := m }

/-- Whether the check recomputed fits. -/
def sound (v : Vault) : Bool := decide (v.check = checkOf v.root)

end Vault

/-! ### CTR_DRBG with AES-256 and its derivation function (12 R475; SP 800-90A, log entry 10) -/

/-- The working state of an instantiated DRBG: its key, V, and the requests served since it was last seeded. -/
structure Drbg where
  key : Bytes
  v : Bytes
  count : Nat
deriving DecidableEq, Repr

namespace Drbg

/-- V one higher. -/
def next (v : Bytes) : Bytes := beBytes 16 ((beNat v + 1) % 2 ^ 128)

/-- Blocks of output from a key and V, with V after them. -/
def stream (rks : List Bytes) : Nat → Bytes → Bytes × Bytes
  | 0, v => ([], v)
  | n + 1, v =>
    let w := next v
    let (out, u) := stream rks n w
    (Crypto.aesEncWith rks w ++ out, u)

/-- The chaining value of a row of blocks. -/
def chain (rks : List Bytes) (blks : List Bytes) : Bytes :=
  blks.foldl (fun c b => Crypto.aesEncWith rks (xorBytes c b)) (zeros 16)

/-- The derivation function: 48 bytes from a seed. -/
def derive (seed : Bytes) : Bytes :=
  let s := beBytes 4 seed.length ++ beBytes 4 48 ++ seed ++ [0x80]
  let s := s ++ zeros ((16 - s.length % 16) % 16)
  let rks := Crypto.roundKeys ((List.range 32).map (BitVec.ofNat 8))
  let t := [0, 1, 2].flatMap (fun i => chain rks (Crypto.blocks16 (beBytes 4 i ++ zeros 12 ++ s)))
  let k := Crypto.roundKeys (t.take 32)
  let x := Crypto.aesEncWith k (t.drop 32)
  let y := Crypto.aesEncWith k x
  x ++ y ++ Crypto.aesEncWith k y

/-- The update function, with 48 bytes of input. -/
def update (d : Drbg) (inp : Bytes) : Drbg :=
  let t := xorBytes (stream (Crypto.roundKeys d.key) 3 d.v).1 inp
  { d with key := t.take 32, v := t.drop 32 }

/-- Instantiated from entropy and a nonce. -/
def instantiate (seed : Bytes) : Drbg := { (update { key := zeros 32, v := zeros 16, count := 0 } (derive seed)) with count := 0 }

/-- Reseeded. -/
def reseed (d : Drbg) (entropy : Bytes) : Drbg := { (d.update (derive entropy)) with count := 0 }

/-- One request for `n` bytes. -/
def generate (d : Drbg) (n : Nat) : Bytes × Drbg :=
  let (out, v) := stream (Crypto.roundKeys d.key) ((n + 15) / 16) d.v
  (out.take n, { (update { d with v := v } (zeros 48)) with count := d.count + 1 })

end Drbg

end Sys2Proof.Machine
end

