-- ==== Sys2Proof/Machine/Tab.lean ====
section
/-! DEFINITION. Tables by number, held as plain lists in one canonical form: keys strictly
rising and, in a table with a default, no entry equal to the default of its key. -/

namespace Sys2Proof

/-- A table: entries by rising key. -/
abbrev Tab (α : Type) := List (Nat × α)

namespace Tab

variable {α : Type}

/-- The entry of a key, if listed. -/
def find (t : Tab α) (k : Nat) : Option α :=
  match t with
  | [] => none
  | (j, v) :: r => if j = k then some v else find r k

/-- The entry of a key, or its default. -/
def get (d : Nat → α) (t : Tab α) (k : Nat) : α := (find t k).getD (d k)

/-- The table without key `k`. -/
def del (t : Tab α) (k : Nat) : Tab α :=
  match t with
  | [] => []
  | (j, v) :: r => if j = k then del r k else (j, v) :: del r k

/-- The table with key `k` holding `v`. -/
def ins (t : Tab α) (k : Nat) (v : α) : Tab α :=
  match t with
  | [] => [(k, v)]
  | (j, w) :: r =>
    if j = k then (k, v) :: r else if k < j then (k, v) :: (j, w) :: r else (j, w) :: ins r k v

/-- The table with key `k` reading as `v`; a value equal to the default is not listed. -/
def put [DecidableEq α] (d : Nat → α) (t : Tab α) (k : Nat) (v : α) : Tab α :=
  if v = d k then del t k else ins t k v

/-- Applying `f` to the entry of a key with a default. -/
def upd [DecidableEq α] (d : Nat → α) (t : Tab α) (k : Nat) (f : α → α) : Tab α :=
  put d t k (f (get d t k))

/-- Applying `f` to the entry of a key if it is listed. -/
def modify (t : Tab α) (k : Nat) (f : α → α) : Tab α :=
  match t with
  | [] => []
  | (j, v) :: r => if j = k then (j, f v) :: r else (j, v) :: modify r k f

/-- Applying `f` to every listed entry. -/
def mapv (t : Tab α) (f : Nat → α → α) : Tab α := t.map (fun p => (p.1, f p.1 p.2))

/-- The listed keys. -/
def keys (t : Tab α) : List Nat := t.map Prod.fst

/-- Writing several keys, in order. -/
def putAll [DecidableEq α] (d : Nat → α) (t : Tab α) (l : List (Nat × α)) : Tab α :=
  l.foldl (fun acc p => put d acc p.1 p.2) t

/-- Every listed key is below `b`-bounded order: keys strictly rising from above `lo`. -/
def Sorted (lo : Option Nat) : Tab α → Bool
  | [] => true
  | (k, _) :: r => (match lo with
      | none => true
      | some l => decide (l < k)) && Sorted (some k) r

/-- The canonical form: keys strictly rising and no entry equal to its default. -/
def wf [DecidableEq α] (d : Nat → α) (t : Tab α) : Bool :=
  Sorted none t && t.all (fun p => decide (p.2 ≠ d p.1))

end Tab

end Sys2Proof
end

