-- ==== Sys2Proof/Machine/Chan.lean ====
section
/-! DEFINITION. The association store as data: channel records, association slots, holding cells,
the far-store cache, and what a BIND and a receive decision do to a record (10). -/

namespace Sys2Proof.Machine
open Sys2Proof.Bits

/-- The states of an association slot (10 R381, R399). -/
inductive SlotSt where
  | empty | loaded | current | draining | spent | exhausted
deriving DecidableEq, Repr

/-- Their codes (10 R381). -/
def SlotSt.code : SlotSt → Nat
  | .empty => 0
  | .loaded => 1
  | .current => 2
  | .draining => 3
  | .spent => 4
  | .exhausted => 5

/-- One association slot (10 R381, R382). `shown` is the state the record still shows between an
invalidation and the sweep's visit (R469); it has no effect on BINDs or commands. -/
structure ChSlot where
  st : SlotSt
  shown : Option SlotSt
  keyGen : Nat
  softRaised : Bool
  key256 : Bool
  derived : Bool
  domain : Nat
  domainGen : Nat
  pn : Nat
  frames : Nat
  ssci : Nat
  key : Cell
  salt : Bytes
deriving DecidableEq, Repr

/-- An EMPTY slot after CREATE. -/
def ChSlot.empty : ChSlot :=
  { st := .empty, shown := none, keyGen := 0, softRaised := false, key256 := false,
    derived := false, domain := 0, domainGen := 0, pn := 0, frames := 0, ssci := 0, key := Cell.empty,
    salt := [] }

/-- A channel record (10 R379, R380). `dec` is DIR, `check` is VALIDATE, `notice` the slot number
for which a PARENT_STOP note is still to be queued by the sweep (R406). -/
structure ChRec where
  sci : Nat
  dec : Bool
  mode : Nat
  suite : Nat
  conf : Bool
  offset : Nat
  replayProtect : Bool
  check : Bool
  curAn : Nat
  nextAn : Nat
  markSet : Bool
  profile : Nat
  window : Nat
  frames : Nat
  mark : Nat
  trunkChannel : Nat
  pair : Nat
  drainCount : Nat
  drainLeft : Nat
  softLimit : Nat
  peerDevice : Nat
  peerChannel : Nat
  peerCheck : Bool
  cOk : Nat
  cOctets : Nat
  cLate : Nat
  cIcv : Nat
  cReplay : Nat
  cSlot : Nat
  cRefused : Nat
  slots : Tab ChSlot
  faulty : Bool
  notice : Option Nat
deriving DecidableEq, Repr

/-- An index of a kind (10 R375–R377): its current generation, whether it is held after a
DESTROY with its record as it was then, by which frames in flight are still decided, and its record while
allocated. -/
structure ChIndex where
  gen : Nat
  held : Bool
  last : Option ChRec
  body : Option ChRec
deriving DecidableEq, Repr

/-- An index after reset (10 R378). -/
def ChIndex.fresh : ChIndex := { gen := 0, held := false, last := none, body := none }

/-- A key generation kept in a holding cell (10 R404, R405): the handle of its channel, slot and
KEY_GEN, what the pipes need of it, the PN it held, and whether its slot became SPENT through
ERASE, R406 or DESTROY, whose bound frames are decided as if nothing had changed. -/
structure KeyCell where
  handle : Nat
  an : Nat
  keyGen : Nat
  key : Cell
  salt : Bytes
  ssci : Nat
  pn : Nat
  keep : Bool
deriving DecidableEq, Repr

/-- The holding cell of a slot's key (10 R404). -/
def ChSlot.cell (s : ChSlot) (handle an : Nat) (keep : Bool) : KeyCell :=
  { handle := handle, an := an, keyGen := s.keyGen, key := s.key, salt := s.salt, ssci := s.ssci,
    pn := s.pn, keep := keep }

/-- A record of the far-store cache (10 R386). -/
structure CacheEntry where
  index : Nat
  dirty : Bool
deriving DecidableEq, Repr

/-- Who gave a command: the host through its registers, or the steward's own port with the
handle, argument word and data words (10, 12). -/
inductive CmdPort where
  | host
  | steward (handle arg : Word) (data : List Word)
deriving DecidableEq, Repr

/-- An accepted channel command (10 R408): what was given, and for a LOAD whether its domain slot served it at
acceptance, and the generation it holds there (12 R470, R471). -/
structure ChnCmd where
  code : Nat
  host : Bool
  handle : Nat
  arg : Nat
  data : List Word
  domOk : Bool
  domGen : Nat
deriving DecidableEq, Repr

/-- The association store. `cache` is in order of last bind, newest first; `evicted` the replaced
changed records not yet written back; `cmds` the accepted commands, oldest first. -/
structure Chn where
  near : Tab ChIndex
  far : Tab ChIndex
  cells : List KeyCell
  cache : List CacheEntry
  evicted : List Nat
  cmds : List ChnCmd
  notes : List Bytes
  noteLost : Bool
  armed : Bool
deriving DecidableEq, Repr

/-- The empty store (10 R378). -/
def Chn.empty : Chn :=
  { near := [], far := [], cells := [], cache := [], evicted := [], cmds := [], notes := [],
    noteLost := false, armed := true }

/-! ### Handles (10 R374) -/

namespace Handle

/-- KIND. -/
def kind (h : Nat) : Nat := field h 30 2
/-- GENERATION. -/
def gen (h : Nat) : Nat := field h 24 6
/-- INDEX. -/
def index (h : Nat) : Nat := field h 0 24
/-- Whether the handle is far. -/
def far (h : Nat) : Bool := decide (kind h = 2)
/-- KIND is near or far and INDEX within its range. -/
def valid (h : Nat) : Bool := decide (kind h = 1 ∧ index h < 65536) || decide (kind h = 2)
/-- A handle of a kind, index and generation. -/
def mk (far : Bool) (index gen : Nat) : Nat :=
  pack [(index, 0, 24), (gen, 24, 6), (if far then 2 else 1, 30, 2)]

end Handle

namespace ChRec

/-- A slot of the record. -/
def slot (c : ChRec) (an : Nat) : ChSlot := Tab.get (fun _ => ChSlot.empty) c.slots an

/-- A slot replaced. -/
def setSlot (c : ChRec) (an : Nat) (s : ChSlot) : ChRec :=
  { c with slots := Tab.put (fun _ => ChSlot.empty) c.slots an s }

/-- Whether the suite is an XPN suite (10 R380). -/
def xpn (c : ChRec) : Bool := decide (2 ≤ c.suite)

/-- Whether the suite's key has 256 bits. -/
def aes256 (c : ChRec) : Bool := decide (c.suite % 2 = 1)

/-- The last PN of a suite in a mode (10 R393). -/
def lastPnOf (suite mode : Nat) : Nat :=
  if 2 ≤ suite then 2 ^ 64 - 1 else if mode = 3 then 2 ^ 56 - 1 else 2 ^ 32 - 1

/-- The record's last PN. -/
def lastPn (c : ChRec) : Nat := lastPnOf c.suite c.mode

/-- CONFIG (10 R380). -/
def config (c : ChRec) (gen : Nat) : Nat :=
  pack [(1, 31, 1), (b2n c.dec, 30, 1), (c.mode, 28, 2), (c.suite, 26, 2), (b2n c.conf, 25, 1),
    (c.offset, 23, 2), (b2n c.replayProtect, 22, 1), (b2n c.check, 21, 1), (c.curAn, 19, 2),
    (c.nextAn, 17, 2), (b2n c.markSet, 16, 1), (c.profile, 12, 4), (gen, 4, 6)]

/-- Part A bytes 0 to 127 (10 R379). -/
def head (c : ChRec) (gen : Nat) : Bytes :=
  leBytes 8 c.sci ++ leBytes 4 (c.config gen) ++ leBytes 4 c.window ++ leBytes 8 c.frames ++
  leBytes 8 (if c.dec then 0 else c.mark) ++
  leBytes 4 (pack [(c.trunkChannel, 0, 24), (c.pair, 24, 5)]) ++
  leBytes 4 (pack [(c.drainCount, 0, 16), (c.drainLeft, 16, 16)]) ++ leBytes 8 c.softLimit ++
  leBytes 8 (pack [(c.peerDevice, 0, 16), (c.peerChannel, 16, 24), (b2n c.peerCheck, 63, 1)]) ++
  [c.cOk, c.cOctets, c.cLate, c.cIcv, c.cReplay, c.cSlot, c.cRefused].flatMap (leBytes 8) ++
  zeros 16

/-- One slot control entry (10 R381). -/
def slotBytes (s : ChSlot) : Bytes :=
  [BitVec.ofNat 8 (s.shown.getD s.st).code, BitVec.ofNat 8 s.keyGen,
   BitVec.ofNat 8 (pack [(b2n s.softRaised, 0, 1), (b2n s.key256, 1, 1), (b2n s.derived, 2, 1)]), 0] ++
  leBytes 2 s.domain ++ leBytes 2 s.domainGen ++ leBytes 8 s.pn ++ leBytes 8 s.frames ++
  leBytes 4 s.ssci ++ zeros 4

/-- Part A bytes 128 to 255. -/
def tail (c : ChRec) : Bytes := [0, 1, 2, 3].flatMap (fun an => slotBytes (c.slot an))

/-- Part A (10 R379). -/
def partA (c : ChRec) (gen : Nat) : Bytes := c.head gen ++ c.tail

/-- Part B (10 R382). -/
def partB (c : ChRec) : Bytes :=
  [0, 1, 2, 3].flatMap (fun an =>
    sliceZ (c.slot an).key.key 0 32 ++ sliceZ (c.slot an).salt 0 12 ++ zeros 20)

/-- The lowest acceptable PN (10 R390, R397). -/
def lowest (pn window : Nat) : Nat := max 1 (pn - window)

/-- PN recovery of an XPN suite from the 32 wire bits (10 R390). -/
def recover (pn window w : Nat) : Nat :=
  let l := lowest pn window
  let hi := l / 2 ^ 32
  let hi := if w < l % 2 ^ 32 then hi + 1 else hi
  hi * 2 ^ 32 + w

end ChRec

/-- What the store gives a frame that binds (10 R389, R391, R404), and what the cipher needs of
the channel (11 R422–R427), which never changes after CREATE. -/
structure Binding where
  handle : Nat
  an : Nat
  keyGen : Nat
  pn : Nat
  suite : Nat
  mode : Nat
  conf : Bool
  offset : Nat
  sci : Nat
  trunkChannel : Nat
deriving DecidableEq, Repr

/-- A note to queue: KIND, AN, VALUE (10 R415). -/
structure Note where
  kind : Nat
  an : Nat
  value : Nat
deriving DecidableEq, Repr

/-- What a BIND or a decision does beside its answer: the record after it, holding cells it
makes, notes, and the causes raised. -/
structure ChEffect where
  body : ChRec
  cells : List KeyCell
  notes : List Note
  soft : Bool
  exhausted : Bool
  hoisted : Bool
  switched : Bool
deriving DecidableEq, Repr

namespace ChEffect

/-- No effect on a record. -/
def of (c : ChRec) : ChEffect :=
  { body := c, cells := [], notes := [], soft := false, exhausted := false, hoisted := false,
    switched := false }

/-- The cell that keeps the key generation of a LOADED slot that is written again, for the frames that bound to it (10 R389,
R404); they are decided as if nothing had changed (10 R405). -/
def keepLoaded (c : ChRec) (handle an : Nat) : List KeyCell :=
  if (c.slot an).st = .loaded then [(c.slot an).cell handle an true] else []

/-- A slot becomes SPENT; its key moves into a holding cell and is overwritten in the slot (10 R399, R404). An EMPTY slot stays
EMPTY, and a SPENT one changes nothing. -/
def spend (handle an : Nat) (keep : Bool) (e : ChEffect) : ChEffect :=
  let s := e.body.slot an
  if s.st = .empty ∨ s.st = .spent then e
  else
    { e with
      body := e.body.setSlot an { s with st := .spent, key := Cell.empty, salt := [] }
      cells := e.cells ++ [s.cell handle an keep] }

/-- A note added. -/
def note (kind an value : Nat) (e : ChEffect) : ChEffect :=
  { e with notes := e.notes ++ [{ kind := kind, an := an, value := value }] }

end ChEffect

namespace ChRec

/-- The binding a slot gives. -/
def binding (c : ChRec) (handle an keyGen pn : Nat) : Binding :=
  { handle := handle, an := an, keyGen := keyGen, pn := pn, suite := c.suite, mode := c.mode,
    conf := c.conf, offset := c.offset, sci := c.sci, trunkChannel := c.trunkChannel }

/-- The hoist (10 R401). -/
def hoist (c : ChRec) (handle : Nat) : ChEffect :=
  let e := (ChEffect.of c).spend handle c.curAn false
  let s := e.body.slot c.nextAn
  let b := { e.body.setSlot c.nextAn { s with st := .current } with curAn := c.nextAn, markSet := false }
  let e := { e with body := b, hoisted := true }
  e.note 2 c.nextAn c.frames

/-- Step 1 of an encrypt BIND (10 R391). -/
def bindHoist (c : ChRec) (handle : Nat) : ChEffect :=
  if c.markSet && decide (c.mark ≤ c.frames) then c.hoist handle else ChEffect.of c

/-- What the soft limit does (10 R392). -/
def soften (p : Nat) (e : ChEffect) : ChEffect :=
  let c := e.body
  let s := c.slot c.curAn
  if c.softLimit ≤ p ∧ s.softRaised = false then
    let c := c.setSlot c.curAn { s with softRaised := true }
    let arm := decide (c.markSet = false ∧ (c.slot c.nextAn).st = .loaded ∧ c.nextAn ≠ c.curAn)
    let c := if arm then { c with mark := c.frames, markSet := true } else c
    { e with body := c, soft := true }.note 0 c.curAn p
  else e

/-- What assigning the last PN does (10 R393). -/
def exhaust (p : Nat) (e : ChEffect) : ChEffect :=
  let c := e.body
  if c.lastPn ≤ p then
    { e with body := c.setSlot c.curAn { c.slot c.curAn with st := .exhausted }, exhausted := true }.note
      1 c.curAn p
  else e

/-- An encrypt BIND (10 R391–R393, R409); none for NO_KEY, whose hoist still stands. -/
def bindEnc (c : ChRec) (handle : Nat) : ChEffect × Option Binding :=
  let e := c.bindHoist handle
  let c := e.body
  let s := c.slot c.curAn
  if s.st = .current then
    let p := s.pn
    let c := { (c.setSlot c.curAn { s with pn := p + 1, frames := s.frames + 1 }) with
               frames := c.frames + 1 }
    (((({ e with body := c } : ChEffect)) |> soften p |> exhaust p),
      some (c.binding handle c.curAn s.keyGen p))
  else (e, none)

/-- A decrypt BIND with the AN and wire PN of the frame; `held` is the newest holding cell of the
slot (10 R389, R390). -/
def bindDec (c : ChRec) (handle an w : Nat) (held : Option KeyCell) : Option (ChRec × Binding) :=
  let s := c.slot an
  let go := fun (keyGen pn : Nat) =>
    let p := if c.xpn then recover pn c.window w else w
    if 2 ^ 64 ≤ p then none
    else
      let c' := { (c.setSlot an { s with frames := s.frames + 1 }) with frames := c.frames + 1 }
      some (c', c.binding handle an keyGen p)
  match s.st with
  | .loaded | .current | .draining => go s.keyGen s.pn
  | .spent =>
    match held with
    | some k => go k.keyGen k.pn
    | none => none
  | .empty | .exhausted => none

/-- A count of C_REFUSED (10 R388). -/
def refused (c : ChRec) : ChRec := { c with cRefused := c.cRefused + 1 }

end ChRec

/-! ### Receive decisions (10 R396–R405) -/

/-- What the store decides on a decrypt frame. -/
inductive RxResult where
  | accepted | late | replay | slotGone | icv
deriving DecidableEq, Repr

namespace ChRec

/-- DRAIN_LEFT falls by one for a decided frame whose tag verifies; the DRAINING slot ends at 0
(10 R403). -/
def drainStep (handle : Nat) (e : ChEffect) : ChEffect :=
  let c := e.body
  if c.drainLeft = 0 then e
  else
    let e := { e with body := { c with drainLeft := c.drainLeft - 1 } }
    if c.drainLeft = 1 then
      match [0, 1, 2, 3].find? (fun an => decide ((c.slot an).st = .draining)) with
      | some an => (e.spend handle an false).note 4 an 0
      | none => e
    else e

/-- A LOADED slot accepted for the first time (10 R402). -/
def takeNew (handle an p : Nat) (e : ChEffect) : ChEffect :=
  let c := e.body
  if (c.slot an).st = .loaded then
    let e := [0, 1, 2, 3].foldl (fun e k =>
      if (e.body.slot k).st = .draining then e.spend handle k false else e) e
    let old := [0, 1, 2, 3].find? (fun k => decide (k ≠ an ∧ (c.slot k).st = .current))
    let e := match old with
      | none => e
      | some k =>
        if c.drainCount = 0 then e.spend handle k false
        else { e with body := { (e.body.setSlot k { e.body.slot k with st := .draining }) with
                                drainLeft := c.drainCount } }
    let b := { e.body.setSlot an { e.body.slot an with st := .current } with curAn := an }
    let e := { e with body := b, switched := true }
    e.note 3 an p
  else e

/-- How the PN of a verified frame compares (10 R397, R398). -/
def judge (c : ChRec) (pn p : Nat) : RxResult :=
  if p = 0 ∨ c.lastPn < pn then .replay
  else if lowest pn c.window ≤ p ∨ c.replayProtect = false then .accepted
  else if c.check then .late
  else .replay

/-- C_ counters of a decision; `octets` from destination address to FCS as emitted. -/
def countRx (c : ChRec) (r : RxResult) (octets : Nat) : ChRec :=
  match r with
  | .accepted => { c with cOk := c.cOk + 1, cOctets := c.cOctets + octets }
  | .late => { c with cLate := c.cLate + 1, cOctets := c.cOctets + octets }
  | .replay => { c with cReplay := c.cReplay + 1 }
  | .slotGone => { c with cSlot := c.cSlot + 1 }
  | .icv => { c with cIcv := c.cIcv + 1 }

/-- The decision on a verified frame whose slot still holds the key generation it bound
(10 R397, R402, R403): a DRAINING slot is decided only while DRAIN_LEFT was above 0. -/
def decideLive (c : ChRec) (b : Binding) (octets : Nat) : ChEffect × RxResult :=
  let s := c.slot b.an
  let r := if s.st = .draining ∧ c.drainLeft = 0 then .slotGone else c.judge s.pn b.pn
  let fresh := decide (s.st = .loaded)
  let c1 := if r = .accepted then c.setSlot b.an { s with pn := max s.pn (b.pn + 1) } else c
  let e := ChEffect.of (c1.countRx r octets)
  if r = .accepted ∧ fresh then (e.body |> ChEffect.of |> takeNew b.handle b.an b.pn, r)
  else (drainStep b.handle e, r)

end ChRec

/-! ### The CHANNEL_POLICY record (10 R413) -/

namespace ChannelPolicy

/-- Whether the body passes 10 R413. -/
def ok (b : Bytes) : Bool :=
  decide (b.length = 656 ∧ leAt b 0 2 = 1 ∧ leAt b 2 14 = 0) &&
  (List.range 16).all (fun p =>
    decide (leAt b (20 + 32 * p) 4 = 0 ∧ leAt b (32 + 32 * p) 8 < 2 ^ 56 ∧
      leAt b (42 + 32 * p) 6 = 0))

/-- The registers of profile p (10 R417): offset within its window and value. -/
def profileWords (b : Bytes) (p : Nat) : List (Nat × Word) :=
  let pn := leAt b (16 + 32 * p) 4
  let xpn := leAt b (24 + 32 * p) 8
  let trunk := leAt b (32 + 32 * p) 8
  let pn := if pn = 0 then 2 ^ 30 else pn
  let xpn := if xpn = 0 then 2 ^ 62 else xpn
  let trunk := if trunk = 0 then 2 ^ 54 else trunk
  [(0x00, BitVec.ofNat 32 pn), (0x08, BitVec.ofNat 32 xpn), (0x0C, BitVec.ofNat 32 (xpn / 2 ^ 32)),
   (0x10, BitVec.ofNat 32 trunk), (0x14, BitVec.ofNat 32 (trunk / 2 ^ 32)),
   (0x18, BitVec.ofNat 32 (leAt b (40 + 32 * p) 2))]

/-- DOMAIN_POLICY word k. -/
def policyWord (b : Bytes) (k : Nat) : Word := BitVec.ofNat 32 (leAt b (528 + 4 * k) 4)

end ChannelPolicy

end Sys2Proof.Machine
end

