-- ==== Sys2Proof/Machine/Types.lean ====
section
/-! DEFINITION. The parts of the state of power, bring-up, lanes, ports, time, supervision,
performance, management and the trunk: plain data, one structure per unit. -/

namespace Sys2Proof.Machine

/-! ### Names of things outside the registers -/

/-- The two input feeds (02 R58). -/
inductive FeedId where
  | a | b
deriving DecidableEq, Repr

/-- The two sides of the module (01 R24). -/
inductive Side where
  | host | line
deriving DecidableEq, Repr

/-- What a check word finds: nothing, an error it corrects, or one it does not. -/
inductive ScrubErr where
  | none | single | double
deriving DecidableEq, Repr

/-- What the classifier finds on use (07 R288, R289): a parity error in the TCAM entry that would
win, a single or double error in its result, a parity error in the parse node of a header (0 the first), or in the
fragment-follow entry. -/
inductive ClsErr where
  | none | tcam | resSingle | resDouble | node (hop : Fin 16) | follow
deriving DecidableEq, Repr

/-- What the association store finds in a far record it reads (10 R387, 12 R474, 15 R543, R545, R548): nothing, a
parity error on die, a single-bit error or an uncorrectable line, in part A (0), part B (1) or the line of their tags (2), a
tag mismatch in part A or part B, or a sealing key's cell that fails its integrity code. -/
inductive FarErr where
  | none | parity | single (line : Fin 3) | ecc (line : Fin 3) | tag (partB : Bool) | cell
deriving DecidableEq, Repr

/-! ### Power, bring-up and image (02, 03) -/

/-- One input feed (02 R58, R86): presence, the cut that follows an escalated overcurrent
(16 R561), and the last measured voltage (10 mV) and current (125 mA). -/
structure Feed where
  present : Bool
  cut : Bool
  voltage : Nat
  current : Nat
deriving DecidableEq, Repr

/-- The power and clock manager (02). `level` is the shed level in force (none after a cold
reset, R66), `shedTo` a begun move upward (R64, R67), `wait0` and `wait1` the cycles at which the
waits of R65 for levels 0 and 1 began; `por` says that POR_N is held low, `xt32` is the measured
XT32_RUN (R86). -/
structure Pwr where
  feedA : Feed
  feedB : Feed
  level : Option Nat
  shedTo : Option Nat
  wait0 : Option Nat
  wait1 : Option Nat
  sysOk : Bool
  hostRef : Bool
  lineRef : Bool
  aoFallback : Bool
  boardId : Nat
  por : Bool
  xt32 : Bool
deriving DecidableEq, Repr

/-- The bring-up states of 03 R87, in order. -/
inductive BootState where
  | powerOk | leveeCheck | imageFetch | imageAuth | keyUnseal | hbmTrain | laneBringup
  | enginesLoad | run
deriving DecidableEq, Repr

/-- One directory entry of an image (03 R105). -/
structure DirEntry where
  typ : Nat
  inst : Nat
  off : Nat
  len : Nat
  digest : Bytes
deriving DecidableEq, Repr

/-- An image as fetched: its slot, header, signature block and directory bytes, and the directory
entries that are not skipped (03 R100, R105, R107). -/
structure Image where
  slot : Nat
  header : Bytes
  sig : Bytes
  dirBytes : Bytes
  entries : List DirEntry
deriving DecidableEq, Repr

/-- Bring-up (03 R87–R126, R136). `second` is set once the alternate slot is being tried (R95),
`tries` counts the retries of the flash read at address `tryAt` (R97), `imported` lists the domain slots
filled from the image being loaded (R96), `badPolders` the polders whose store failed its
read-back check (R126), `aborts` the free indexes of the tamper alarms during this KEY_UNSEAL (R120); `warm` says that a warm reset began it, so that the time bases stand
(14 R521). -/
structure Boot where
  state : BootState
  halted : Bool
  code : Nat
  altSlotUsed : Bool
  lanesIncomplete : Bool
  keyImportFail : Bool
  programFault : Bool
  noTable : Bool
  slot : Nat
  second : Bool
  tries : Nat
  tryAt : Nat
  aborts : List Nat
  timeStart : Nat
  timeMs : Nat
  img : Option Image
  hbmTrained : Bool
  imported : List Nat
  badPolders : List Nat
  warm : Bool
deriving DecidableEq, Repr

/-- IDN_UPDATE's state (03 R127–R132). -/
inductive UpdState where
  | idle | staging | applying | restoring
deriving DecidableEq, Repr

/-- The two mailboxes (19). -/
inductive MbxId where
  | pcie | i2c
deriving DecidableEq, Repr

/-- Living updates (03 R127–R132): the staged image, the step running, the last result, the mailbox waiting
for the response, and the staged records by type and instance as read when the apply began. -/
structure Upd where
  state : UpdState
  step : Nat
  staged : Option Image
  result : Nat
  waiting : Option MbxId
  records : List (Nat × Nat × Bytes)
deriving DecidableEq, Repr

/-! ### Lanes and ports (04, 05) -/

/-- The stages of 04 R141. -/
inductive Stage where
  | doze | detect | train | lock | exchange | active | removed
deriving DecidableEq, Repr

/-- What the EQUALISATION entry gives a lane for the rate it runs at (04 R145). -/
structure TapSet where
  pre3 : Nat
  pre2 : Nat
  pre1 : Nat
  main : Nat
  post1 : Nat
  swing : Nat
  fomEntry : Nat
  fomFloor : Nat
deriving DecidableEq, Repr

/-- The transmit side of the trunk line coding of one lane (04 R155–R161): the blocks cut for it and not yet sent,
oldest first, each with the SEQ of its marker and its payload words (06 R203, R204), stuffing symbols not yet repaid,
the repeated level and its count, the state of the test pattern generator (R174), and the symbols last sent, as the
line carries them. -/
structure LaneTx where
  queue : List (Nat × List (BitVec 64))
  debt : Nat
  level : Nat
  run : Nat
  pattern : Nat
  sent : List (BitVec 2)
deriving DecidableEq, Repr

/-- A word of a lane behind its descrambler: the SEQ of the marker before it and whether it is a fill word (04
R163, R165). -/
structure LineWord where
  seq : Nat
  fill : Bool
  word : BitVec 64
deriving DecidableEq, Repr

/-- The receive side (04 R160–R168): the repeated level and its count, the destuffed symbols not yet taken, the stuffing
symbols not yet repaid by omitted fill words, whether a next marker is expected and how many words stand before it,
consecutive valid and invalid markers, the LANE, SEQ and FILL_COUNT of the block in progress, the fill words the elastic
buffer adds to or takes from it and the buffer itself, oldest word first (R163), the capability bytes gathered, the
previous whole word, whether a mismatch stands, and the test pattern checker (R174). -/
structure LaneRx where
  level : Nat
  run : Nat
  symbols : List (BitVec 2)
  debt : Nat
  expect : Option Nat
  good : Nat
  bad : Nat
  lane : Nat
  seq : Nat
  fill : Nat
  adjust : Int
  elastic : List LineWord
  capBytes : List (BitVec 8)
  prevCap : Option (BitVec 64)
  mismatch : Bool
  checker : Option Nat
deriving DecidableEq, Repr

/-- The settings a receiver adapts (04 R150): the continuous-time, feed-forward and decision-feedback equalisers, the
gain and the sampling-phase offset, each in a code of its own. -/
structure RxSettings where
  ctle : Nat
  ffe : Nat
  dfe : Nat
  gain : Nat
  phase : Nat
deriving DecidableEq, Repr

/-- The status that answers a coefficient-change request (IEEE 802.3 Clause 162; 04 R144). -/
inductive CoeffStatus where
  | notUpdated | updated | atLimit
deriving DecidableEq, Repr

/-- What a window measures of the three eyes: their openings, and the decision range that three nominal eyes fill (04 R149). -/
structure Eye where
  low : Nat
  mid : Nat
  high : Nat
  range : Nat
deriving DecidableEq, Repr

namespace Eye

/-- No eye opens beyond the range. -/
def wf (e : Eye) : Bool := decide (e.low ≤ e.range ∧ e.mid ≤ e.range ∧ e.high ≤ e.range)

/-- The figure of merit: the worst opening against a third of the range, at most 255 (04 R149). -/
def fom (e : Eye) : Nat := min 255 (765 * min e.low (min e.mid e.high) / e.range)

end Eye

/-- One serial lane (04). `held` marks a lane held at DETECT by a lost reference (02 R77), `retired` a lane retired under
03 R133, `wakeAsked` that a write has asked a retired lane to wake (R153), `training` is FLAGS.TRAINING, `trained` says
that the start-up protocol has finished in this TRAIN, `ask` is the change last requested of the far end, and `coeff`
the last change it requested, its tap, whether upward, and the status that answered it (R144). -/
structure Lane where
  stage : Stage
  retired : Bool
  held : Bool
  wakeAsked : Bool
  present : Bool
  training : Bool
  txInvert : Bool
  rxInvert : Bool
  taps : TapSet
  signal : Bool
  bitLock : Bool
  wordLock : Bool
  rate : Nat
  fom : Nat
  fomMin : Nat
  goodWindows : Nat
  lowUpdates : Nat
  highUpdates : Nat
  fomArmed : Bool
  cap : BitVec 64
  settings : RxSettings
  trained : Bool
  ask : Option (Nat × Bool)
  coeff : Option (Nat × Bool × CoeffStatus)
  tx : LaneTx
  rx : LaneRx
deriving DecidableEq, Repr

/-- One port (05 R187–R201), its Ethernet side: the locks its PCS reports, the faults it receives, whether it transmits
remote fault (R188), and how many of its outputs are past for its own receiver: those sent before its transmitter was
looped to it, and those received since. -/
structure Port where
  pcsLock : Bool
  fecLock : Bool
  localFault : Bool
  remoteFault : Bool
  sendRemote : Bool
  looped : Nat
  removed : Bool
  retired : Bool
  active : Bool
deriving DecidableEq, Repr

/-- A frame sent on a port: its departure cycle, the exact time of it in the units of `Rate`, the cycle by which its output
has ended, its bytes, whether it was stomped (11 R444), its direction and pair, its number among the frames of the module
(none for one the module makes itself), the record queued if it is stomped (14 R530), and for a protected frame its
channel's handle and the octets counted there. -/
structure OutFrame where
  frame : Option Nat
  cycle : Nat
  start : Nat
  ends : Nat
  bytes : Bytes
  stomped : Bool
  dec : Bool
  pair : Nat
  ts : Option Bytes
  charge : Option (Nat × Nat)
deriving DecidableEq, Repr

/-- The output side of a port: the exact time at which its last output ends (01 R43), the time by which its gaps fall
short of 12 bytes on average (05 R181), both in the units of `Rate`, and the frames sent on it, newest first. -/
structure PortOut where
  busyUntil : Nat
  deficit : Nat
  sent : List OutFrame
deriving DecidableEq, Repr

/-- The mode of a port pair (05 R195). -/
inductive Mode where
  | none | line | tunnel | trunk
deriving DecidableEq, Repr

/-- A default action (05 R195). -/
inductive DefAct where
  | drop | divert | bypass
deriving DecidableEq, Repr

/-- One entry of PORT_POLICY (05 R195), with what takes the pair out of service: a PORT_POLICY
stop, UNIT_RETIRE, UNIT_RECAL, and the capacity rule of 01 R48. -/
structure Pair where
  mode : Mode
  width : Nat
  bypassPermit : Bool
  wakeOnSignal : Bool
  expectPeer : Bool
  maxFrame : Nat
  expansion : Nat
  txSci : Nat
  defEnc : DefAct
  defDec : DefAct
  profile : Nat
  peerDevice : Nat
  stopped : Bool
  retired : Bool
  out48 : Bool
deriving DecidableEq, Repr

/-! ### Time (14) -/

/-- One time base's values in force (14 R517). -/
structure TimeBase where
  offset : Nat
  rate : Nat
  anchor : Nat
deriving DecidableEq, Repr

/-- A base that reads the free-running counter. -/
def TimeBase.zero : TimeBase := { offset := 0, rate := 0, anchor := 0 }

/-- A pulse output (14 R531): the index of its next edge, and the base time at which the last pulse
ends. -/
structure Pulse where
  next : Nat
  ends : Option Nat
deriving DecidableEq, Repr

/-- One captured edge (14 R532): the base time and whether it rose. -/
structure CapEntry where
  time : Nat
  rising : Bool
deriving DecidableEq, Repr

/-- A capture input: its queue and the counter at the last recorded edge. -/
structure Capture where
  queue : List CapEntry
  lastAt : Option Nat
deriving DecidableEq, Repr

/-- A line lane's measured internal delays (14 R527), the measured part and the temperature
part of each direction, in 2^-16 ns, and whether a measurement holds. -/
structure LaneCal where
  txMeas : Nat
  rxMeas : Nat
  txTemp : Nat
  rxTemp : Nat
  valid : Bool
deriving DecidableEq, Repr

/-- The time subsystem. `prior` holds each base as it was before the cycle of its last apply (14 R519). -/
structure Tim where
  bases : Tab TimeBase
  prior : Tab TimeBase
  pulses : Tab Pulse
  caps : Tab Capture
  cal : Tab LaneCal
  tsq : List Bytes
  tsqLost : Bool
  tsqArmed : Bool
  noBoardDelay : Bool
deriving DecidableEq, Repr

/-! ### Wardens, events and the module pair (16) -/

/-- A standing source (16 R557, R561): its class, the cycle its escalation timer began, the time
it has to run (ESC_MS when it began), the cause and unit of the raise that made it stand, and its history
entry's SEQ. `unit` is the lane, framer or feed, for CIRCUIT_DOWN the circuit; for sources 234 and 235, 1
for a lane's cause. -/
structure Standing where
  cls : Nat
  timer : Option Nat
  escMs : Nat
  cause : Nat
  unit : Nat
  seq : Nat
deriving DecidableEq, Repr

/-- One history entry (16 R565). -/
structure HistEntry where
  seq : Nat
  source : Nat
  cause : Nat
  cls : Nat
  escalated : Bool
  held : Bool
  overflow : Bool
  repeats : Nat
  time : Nat
deriving DecidableEq, Repr

/-- A raise held during bring-up (03 R94). -/
structure HeldRaise where
  source : Nat
  cause : Nat
  unit : Nat
  cls : Nat
  time : Nat
deriving DecidableEq, Repr

/-- The event controller (16). `called` holds the vectors whose messages wait for the endpoint,
`sent` the vectors sent, newest first. -/
structure Evt where
  pending : BitVec 256
  standing : Tab Standing
  hist : List HistEntry
  nextSeq : Nat
  lostMark : Bool
  c4 : Option Nat
  held : List HeldRaise
  pba : BitVec 256
  sent : List Nat
deriving DecidableEq, Repr

/-- The two wardens. -/
inductive Warden where
  | a | b
deriving DecidableEq, Repr

/-- A warden's state (16 R583). -/
inductive WardenState where
  | inService | removed | returning
deriving DecidableEq, Repr

/-- The warden pair (16 R568–R572): who holds the burgee, who held it last, whether the guard
runs, when the lease was last renewed and when the non-holder last reported, and the cycle the
last guard ended without a take (R572). -/
structure Wrd where
  stateA : WardenState
  stateB : WardenState
  holder : Option Warden
  lastHolder : Option Warden
  guard : Bool
  leaseFrom : Nat
  lastReport : Nat
  noTake : Option Nat
deriving DecidableEq, Repr

/-- The module pair roles (16 R573). -/
inductive Role where
  | solo | active | standby | failed | starting
deriving DecidableEq, Repr

/-- What the partner's last HEALTH said (16 R576). -/
structure PartnerHealth where
  device : Nat
  role : Nat
  flags : Nat
  imageTag : Nat
  configTag : Nat
  rate : Nat
deriving DecidableEq, Repr

/-- Pair protection (16 R573–R581). `yielding` holds while a planned yield waits for CLAIM,
`guard` while a standby's guard runs, `sent` holds the CONTROL
payloads sent, newest first; `byLock` marks a fatal yield that a LOCK caused (R574). -/
structure Pp where
  role : Role
  burgee : Bool
  outputs : Bool
  yielding : Bool
  bySwitch : Bool
  byLock : Bool
  guard : Bool
  fresh : Bool
  lost : Bool
  peer : Option PartnerHealth
  peerRole : Nat
  seq : Nat
  sent : List Bytes
deriving DecidableEq, Repr

/-! ### Live changes (17) -/

/-- The units of 17 R597 that have a safe point. -/
inductive ShUnit where
  | lane (n : Nat) | port (n : Nat) | trunk (n : Nat) | cls | polder (n : Nat) | lkp | chn
  | cph | key | tim | hbm | pwr | wrd | lev | pmu | stw
deriving DecidableEq, Repr

/-- A written shadow not yet in force (17 R592): its register and whether it is released. -/
structure ShEntry where
  addr : Nat
  released : Bool
deriving DecidableEq, Repr

/-- Live changes: shadows waiting and the units that have not reached a safe point since the
last APPLY. -/
structure Live where
  waiting : List ShEntry
  pendingUnits : List ShUnit
deriving DecidableEq, Repr

/-! ### Performance monitor (18) -/

/-- The performance monitor: counters by number, frames admitted since the last PERIOD record,
the rings with their records oldest first (the extension with their numbers since ENABLE), the cycles at which the extension
writes that wait were asked for, the mark of lost records, and whether RING_THRESHOLD is armed (18 R603–R614). -/
structure Pmu where
  counters : Tab Nat
  admitted : Nat
  ring : List Bytes
  ext : List (Nat × Bytes)
  extNext : Nat
  asks : List Nat
  lostMark : Bool
  armed : Bool
  taken : Nat
deriving DecidableEq, Repr

/-! ### Management (19) -/

/-- Who reads or writes a register (17 R591, 19): PF0 through BAR0 or its BAR2 (the MSI-X table),
PF1, I²C and the steward. -/
inductive Req where
  | pf0 | pf0Bar2 | pf1 | i2c | steward
deriving DecidableEq, Repr

/-- A mailbox (19 R628–R631): the request in it, whether it is busy, the response computed by the command
and not yet written, whether it is to be discarded (17 R600), the response, and RSP_READY. -/
structure Mbx where
  req : Bytes
  busy : Bool
  answer : Option Bytes
  drop : Bool
  rsp : Bytes
  rspReady : Bool
deriving DecidableEq, Repr

/-- The PCIe endpoint (19 R620–R625): its configuration words by function and address, its
MSI-X table words, PERST_N, and the link. -/
structure Pcie where
  perst : Bool
  cfg0 : Tab Word
  cfg1 : Tab Word
  msix : Tab Word
  up : Bool
  width : Nat
  speed : Nat
deriving DecidableEq, Repr

/-- The last answer on a bus: the data of a register read, the status of an I²C command and its
data bytes, and the configuration completion. -/
structure Bus where
  rdata : Word
  status : Nat
  bytes : Bytes
deriving DecidableEq, Repr

/-- A frame handed to the steward (08 R323): `code` is the REASON passed with it, `tag` its OUT_TAG
(R312). -/
structure Diverted where
  pair : Nat
  dec : Bool
  code : Nat
  tag : Nat
  bytes : Bytes
deriving DecidableEq, Repr

/-- The steward: whether its firmware serves, is restarting, or is halted by a C4 latch or a
LOCK, its eight divert queues, and of its firmware the LOAD_OFFSET and the region-0 byte at which
its cores start (19 R638). -/
structure Stw where
  up : Bool
  restarting : Bool
  halted : Bool
  queues : Tab (List Diverted)
  fw : Option (Nat × Nat)
deriving DecidableEq, Repr

/-- What the debug port's scan goes through (12 R484): the 1-bit bypass or the identity register. -/
inductive JtagDr where
  | bypass (bit : Bool) | idcode (id : Word)
deriving DecidableEq, Repr

/-- IDCODE: die revision 0 as IDN_ID has it (19 R626), 0x6432, 0x7A3 and 1. -/
def jtagId : Word := BitVec.ofNat 32 (0x6432 * 2 ^ 12 + 0x7A3 * 2 + 1)

/-- The debug port (12 R484, R485): the 8-bit instruction register and the data register it selects; `gate` is set from the
firing of source 7 until the gate is released. -/
structure Dbg where
  ir : BitVec 8
  dr : JtagDr
  gate : Bool
  open_ : Bool
deriving DecidableEq, Repr

/-- Update-IR with a code: IDCODE selects the identity register, every other code the bypass (12 R484; for the codes of an
open port, log entry 101). -/
def Dbg.load (d : Dbg) (code : BitVec 8) : Dbg :=
  { d with ir := code, dr := if code = 0x01 then .idcode jtagId else .bypass false }

/-! ### Trunk framers, circuits and spillways (06) -/

/-- The delineation states of 06 R224. -/
inductive SyncState where
  | hunt | presync | sync | stopped
deriving DecidableEq, Repr

/-- One second's classification (06 R235): errored, severely errored, and its background block
errors. -/
structure PmClass where
  es : Bool
  ses : Bool
  bbe : Nat
deriving DecidableEq, Repr

/-- One end's performance state (06 R233–R237): blocks and errored blocks of the second in
progress, whether a defect or a false lock fell in it, whether time is unavailable, and the last
seconds that may still change sides under the ten-second rule, newest first. -/
structure PmEnd where
  blocks : Nat
  errored : Nat
  defect : Bool
  falseLock : Bool
  unavailable : Bool
  recent : List PmClass
deriving DecidableEq, Repr

/-- One framer (06 R224–R237, R247–R252). `rx` holds the received stream, `off` the offset in it of
the next header to check: in PRESYNC the stream begins with the candidate that entered it, in SYNC
with the six bytes before that header. `byScan` says that a scan found it, `headers` how many passed
in this SYNC period. `farPending` counts seconds that had no MONITOR frame (R237), `resume` is the
base second at which counting resumes after a backward jump (14 R523), `monMs` the last millisecond
with a MONITOR frame, `passed` the frames passed on and not yet taken, oldest first, each with whether its block was
errored and where its header stood in the blocks of its lanes: a byte of the stream, counted from the start of a row of
blocks. `rxPos` is that place of the first byte of `rx`. `force` holds a forced hunt until the next boundary (R229), and
`skewed` says that the rows last failed to align (R205). On transmit, `txHist` is the scrambler (R223), `txSeq` the SEQ of
the next row of blocks (R204), `txTaken` how many frames of the output the stream has taken, `txPos` the place of its next
byte, `txRow` the place at which its rows began, while it runs, and `txLeft` the scrambled bytes not yet in a block. -/
structure Framer where
  sync : SyncState
  v : Nat
  badRun : Nat
  byScan : Bool
  headers : Nat
  rx : Bytes
  off : Nat
  aligned : Bool
  blockTotal : Nat
  errTotal : Nat
  rdiRx : Bool
  mseq : Nat
  farTotals : Option (Nat × Nat)
  farSeen : Bool
  farPending : Nat
  near : PmEnd
  far : PmEnd
  resume : Option Nat
  monMs : Option Nat
  passed : List (Bool × Nat × Bytes)
  rxPos : Nat
  force : Bool
  skewed : Bool
  txHist : List Bool
  txSeq : Nat
  txTaken : Nat
  txPos : Nat
  txRow : Option Nat
  txLeft : Bytes
deriving DecidableEq, Repr

/-- A frame in a spillway: its SEQ and the Ethernet frame without its FCS (06 R240). -/
structure SpFrame where
  seq : Nat
  bytes : Bytes
deriving DecidableEq, Repr

/-- A circuit's state (06 R238–R246): the spillway oldest first, play-out, the last frame
emitted, instants since a received frame was emitted, the frame waiting for a gap (R244), the
base time of the start instant, instants carried out since, and the cells reserved. -/
structure Circuit where
  frames : List SpFrame
  playing : Bool
  rxNext : Nat
  txSeq : Nat
  last : Option Bytes
  missed : Nat
  waiting : Option Bytes
  start : Nat
  instants : Nat
  cells : Nat
deriving DecidableEq, Repr

/-- A lane's part of the deskew buffer (06 R205): payload words by marker SEQ, oldest block first, with the cycle in which
the block came and how many of its payload words the lane has still to deliver. -/
structure DeskewBlock where
  seq : Nat
  cycle : Nat
  left : Nat
  words : List (BitVec 64)
deriving DecidableEq, Repr

/-! ### Cipher pipes (11) -/

/-- A user GCM test in progress (11 R451). -/
structure CphTest where
  pipe : Nat
  key256 : Bool
  dec : Bool
  key : Bytes
  iv : Bytes
  aad : Bytes
  text : Bytes
  tag : Bytes
deriving DecidableEq, Repr

/-- The cipher array: pipes in service and awake as masks, groups waking, the n and L of the deal
in force (11 R433–R436) with the pipes that take part in it, the pipes in service at the last round boundary (R434, R436),
the pipes whose periodic self-test failed and that did not return since (R450; 16 R576), and the user test. -/
structure Cph where
  inService : Nat
  fitN : Nat
  awake : Nat
  dealt : Nat
  waking : Nat
  n : Nat
  lanes : Nat
  failed : Nat
  test : Option CphTest
deriving DecidableEq, Repr

end Sys2Proof.Machine
end

