-- ==== Sys2Proof/Syntax.lean ====
section
/-! DEFINITION. The commands of the block: one constructor for every row of the opcode table, with
the row's operands. Where the last operands have a default, it is the case in which nothing is amiss. -/

namespace Sys2Proof

open Machine

/-- The commands. Each constructor's docstring names its row and the rule of the spec. -/
inductive Instr where
  /-- POR_N_ASSERT (R82). POR_N held low for at least 10 µs causes a cold reset of every field outside the levee, except a latched C4 fault. -/
  | porNAssert
  /-- BOTH_FEEDS_LOST (R70). Loss of both feeds leaves only the levee running on VBAT and constitutes a cold reset that also clears the C4 latch. -/
  | bothFeedsLost
  /-- FEED_PRESENT (R58). A feed held within 4.7–18.0 V for 10 ms becomes present; from levee-only this starts a cold bring-up, otherwise event 224 or 225 is raised. -/
  | feedPresent (f : FeedId)
  /-- FEED_ABSENT (R58). A feed leaving 4.5–18.0 V becomes absent and is disconnected within 1 µs, raising event 224 or 225 with no effect on traffic. -/
  | feedAbsent (f : FeedId)
  /-- FEED_SAMPLE (R63). Every 10 µs the power and clock manager samples each feed and determines the shed level called for. -/
  | feedSample (va : Nat) (vb : Nat) (ia : Nat) (ib : Nat)
  /-- SHED_UP (R64). A move to a higher shed level takes effect: pairs outside the kept lane set leave service, their lanes doze and their frames in flight are dropped. -/
  | shedUp
  /-- SHED_DOWN_WAIT_EXPIRY (R65). A lower shed level's UP_DELAY wait completes, the level in force falls and the returning lanes start bring-up. -/
  | shedDownWaitExpiry (level : Fin 2)
  /-- MIN_LEVEL_WRITE (R86). A write to PWR_CONTROL.MIN_LEVEL raises the shed level as in R64 or starts the waits of R65 from the write. -/
  | minLevelWrite (r : Req) (v : Word)
  /-- FEED_OVERCURRENT_TIMEOUT (R59). A feed above 25 A for more than 100 µs raises event 227 as a C2 fault. -/
  | feedOvercurrentTimeout (f : FeedId)
  /-- REFCLK_SYS_LOST (R76). REFCLK_SYS stops; the always-on domain moves to its internal oscillator and event 228 latches a C4 fault. -/
  | refclkSysLost
  /-- REFCLK_SYS_RESTORED (R76). After REFCLK_SYS has run again for 1 ms the always-on domain moves back to it at a tick boundary, leaving the C4 latch. -/
  | refclkSysRestored
  /-- REFCLK_SIDE_LOST (R77). Loss of REFCLK_HOST or REFCLK_LINE removes the whole side under one C3 fault, holding its awake lanes at DETECT. -/
  | refclkSideLost (d : Side)
  /-- REFCLK_SIDE_RESTORED (R77). After the side reference has run 10 ms the held lanes leave DETECT and the event is raised again with RESTORED set. -/
  | refclkSideRestored (d : Side)
  /-- REGULATOR_FAULT (R85). An internal regulator leaves regulation, removing every unit on the rail and raising event 231 as C3 or C4. -/
  | regulatorFault (rail : Fin 256)
  /-- WARM_RESET (R19). A write of 1 to IDN_CONTROL.WARM_RESET resets all but the kept fields and restarts bring-up at IMAGE_FETCH. -/
  | warmReset (r : Req)
  /-- PERST_N_ASSERT (R20). PERST_N resets only the PCIe endpoint and its configuration space, abandoning unacknowledged transfers on crossing 1. -/
  | perstNAssert
  /-- POWER_OK_EXIT (R80). Once a feed is present, rails regulate, REFCLK_SYS has run 1 ms and POR_N is deasserted, bring-up samples BOARD_ID, starts the counter and leaves POWER_OK. -/
  | powerOkExit (board : Fin 16) (aOk : Bool) (bOk : Bool) (rails : Bool := true) (porHigh : Bool := true)
  /-- LEVEE_CHECK_DONE (R114). LEVEE_CHECK completes its reading of vault, device number, deferred responses and slot settings, or halts with 0x88, 0x8A or 0x89. -/
  | leveeCheckDone (upset : Bool := false)
  /-- IMAGE_FETCH_DONE (R100). IMAGE_FETCH completes reading header, signature block and directory of the chosen slot and checks the header. -/
  | imageFetchDone
  /-- FLASH_READ_TIMEOUT (R97). A flash read with no valid data strobe within 1 ms is retried, and after three retries halts with code 0x80. -/
  | flashReadTimeout (addr : BitVec 27 := 0)
  /-- IMAGE_AUTH_DONE (R102). IMAGE_AUTH completes its four checks of signer hash, signature, security version and directory digest. -/
  | imageAuthDone
  /-- KEY_UNSEAL_DONE (R113). KEY_UNSEAL completes deriving device and boot keys and unwrapping KEY_IMPORT records into domain slots. -/
  | keyUnsealDone (katOk : Bool) (nonceOk : Bool)
  /-- HBM_TRAIN_DONE (R115). HBM_TRAIN completes training all pseudo-channels, clearing and sealing regions and loading FIRMWARE, or halts with 0x87. -/
  | hbmTrainDone (ok : BitVec 16)
  /-- LANE_BRINGUP_DONE (R88). LANE_BRINGUP ends when every kept lane with a running reference is ACTIVE. -/
  | laneBringupDone
  /-- LANE_BRINGUP_TIMEOUT (R88). After 3,000 ms LANE_BRINGUP ends with LANES_INCOMPLETE set and unfinished lanes continue after RUN. -/
  | laneBringupTimeout
  /-- ENGINES_LOAD_DONE (R111). ENGINES_LOAD completes loading the remaining records and the module enters RUN, delivering held events and admitting port pairs to service. -/
  | enginesLoadDone (bad : BitVec 32)
  /-- BRINGUP_STATE_TIMEOUT (R87). A bring-up state other than LANE_BRINGUP that runs past its maximum halts with code 0x8B. -/
  | bringupStateTimeout
  /-- IMG_STAGE (R127). The mailbox command checks the image in the unused slot and lists the records that differ. -/
  | imgStage (m : MbxId)
  /-- IMG_APPLY (R128). The mailbox command starts carrying changed records into their units in the fixed order. -/
  | imgApply (m : MbxId)
  /-- IMG_APPLY_STEP_DONE (R128). One step of IMG_APPLY completes and the next begins, or after the last step the new image becomes the running one. -/
  | imgApplyStepDone
  /-- UNIT_RETIRE (R133). The mailbox command removes a named unit as a warden removal would, raising a C0 event. -/
  | unitRetire (m : MbxId)
  /-- UNIT_RETURN (R133). The mailbox command brings a removed or retired unit back through its own bring-up. -/
  | unitReturn (m : MbxId) (ok : Bool)
  /-- UNIT_RECAL (R135). The mailbox command reruns a lane's adaptation from TRAIN and re-measures its timestamp delay. -/
  | unitRecal (m : MbxId)
  /-- LANE_WAKE (R153). A lane in DOZE receives a wake request and reaches DETECT within 2 ms. -/
  | laneWake (l : Fin 66) (pllOk : Bool)
  /-- LANE_SIGNAL_DETECT (R141). A signal of at least 60 mV held for 1 ms in DETECT moves the lane to TRAIN. -/
  | laneSignalDetect (l : Fin 66)
  /-- FOM_WINDOW (R149). A FoM window of 2^20 symbols ends, updating the FoM and adaptation in TRAIN. -/
  | fomWindow (l : Fin 66) (eye : Eye) (done : Bool) (prbs : Nat := 0)
  /-- COEFF_REQUEST_RX (R144). A far-end coefficient-change request is answered with the at-limit status. -/
  | coeffRequestRx (l : Fin 66) (tap : Fin 5) (up : Bool)
  /-- TRAIN_TIMEOUT (R143). TRAIN runs out its time, the lane returns to DETECT and TRAIN_FAIL increments. -/
  | trainTimeout (l : Fin 66)
  /-- WORD_LOCK_ACQUIRED (R141). Bit and word lock are achieved in LOCK and the lane moves to EXCHANGE, or to ACTIVE at once on Ethernet. -/
  | wordLockAcquired (l : Fin 66)
  /-- LOCK_TIMEOUT (R141). A lane in LOCK for 50 ms returns to TRAIN. -/
  | lockTimeout (l : Fin 66)
  /-- CAPABILITY_WORD_ASSEMBLED (R167). A capability word is assembled from eight markers and stored, moving the lane to ACTIVE or raising PEER_MISMATCH. -/
  | capabilityWordAssembled (l : Fin 34)
  /-- EXCHANGE_TIMEOUT (R141). A trunk lane in EXCHANGE for 100 ms without a mismatch returns to LOCK. -/
  | exchangeTimeout (l : Fin 34)
  /-- SIGNAL_LOSS (R142). A signal below 40 mV for 10 µs in ACTIVE sends the lane to DETECT and raises LEFT_ACTIVE. -/
  | signalLoss (l : Fin 66)
  /-- BIT_LOCK_LOSS (R142). Loss of bit lock in ACTIVE sends the lane to DETECT. -/
  | bitLockLoss (l : Fin 66)
  /-- WORD_LOCK_LOSS (R142). Loss of word lock with bit lock held sends the lane to LOCK. -/
  | wordLockLoss (l : Fin 66)
  /-- FOM_UPDATE (R151). The millisecond FoM update in ACTIVE, raising FOM_LOW after 10 low updates. -/
  | fomUpdate (l : Fin 66) (eye : Eye) (prbs : Nat := 0)
  /-- PLL_LOCK_FAIL (R169). A lane PLL that fails to lock within 1 ms of wake or loses lock removes the lane as C3. -/
  | pllLockFail (l : Fin 66)
  /-- LANE_CAL_MEASURE_DONE (R527). A line lane's internal delay measurement completes, setting or clearing its TIM_CAL_VALID bit. -/
  | laneCalMeasureDone (l : Fin 32) (tx : Nat) (rx : Nat) (inRange : Bool)
  /-- LANE_CAL_TEMP_UPDATE (R527). Every 10 ms the temperature term of an active line lane's delay is recomputed from sensor A. -/
  | laneCalTempUpdate (l : Fin 32) (tx : Nat) (rx : Nat)
  /-- MARKER_SEND (R161). The transmitter sends a marker with its fill count, repaying stuffing debt. -/
  | markerSend (l : Fin 34) (phase : Nat)
  /-- MARKER_RECEIVED (R162). A marker at an expected position is validated for marker lock and the elastic buffer fill is adjusted. -/
  | markerReceived (l : Fin 34) (syms : List (BitVec 2)) (occupancy : Nat)
  /-- ELASTIC_BUFFER_SLIP (R164). The elastic buffer overflows or runs empty between markers and marker lock is lost. -/
  | elasticBufferSlip (l : Fin 34)
  /-- LANE_PATTERN_WRITE (R174). A write to PATTERN changes the test pattern when stopped, is retained in DOZE, or wakes a retired lane. -/
  | lanePatternWrite (r : Req) (l : Fin 66) (v : Word)
  /-- LANE_NEAR_LOOP_WRITE (R174). A write to NEAR_LOOP loops transmitter to receiver under the same STOP handling as PATTERN. -/
  | laneNearLoopWrite (r : Req) (l : Fin 66) (v : Word)
  /-- LANE_CLR_COUNTS (R173). CLR_COUNTS zeroes the lane's counters. -/
  | laneClrCounts (l : Fin 66)
  /-- FOM_READ (R173). A read of xSD_FOM returns MIN and reloads it with the current FoM. -/
  | fomRead (r : Req) (l : Fin 66)
  /-- PEER_CAP_HI_READ (R176). A read of LSD_PEER_CAP_HI latches LSD_PEER_CAP_LO. -/
  | peerCapHiRead (r : Req) (l : Fin 34)
  /-- FRAME_ARRIVAL (R193). A frame's start-of-frame passes the receiving PCS or its trunk header leaves deskew, taking its arrival time. -/
  | frameArrival (p : Fin 32) (dec : Bool) (phase : Nat) (lane : Fin 8) (bytes : Bytes) (word : Fin 16375 := 0)
  /-- PORT_FRAME_RX (R185). A received frame ends and the port layer passes it or discards it under one reason. -/
  | portFrameRx (id : Nat) (errored : Bool) (fec : Nat × Nat × Nat := (0, 0, 0))
  /-- PCS_LOCK_CHANGE (R187). PCS alignment, deskew or FEC codeword lock is gained or lost, changing the port's ACTIVE state. -/
  | pcsLockChange (d : Side) (n : Fin 32) (pcs : Bool) (fec : Bool)
  /-- LOCAL_FAULT_RX (R188). Local fault begins to be received and the port sends remote fault. -/
  | localFaultRx (d : Side) (n : Fin 32) (on : Bool)
  /-- REMOTE_FAULT_RX (R188). Remote fault begins to be received and the port leaves ACTIVE. -/
  | remoteFaultRx (d : Side) (n : Fin 32) (on : Bool)
  /-- HI_SER (R200). The FEC reports hi_ser on a port. -/
  | hiSer (d : Side) (n : Fin 32)
  /-- PORT_CLR_COUNTS (R201). PRT_CONTROL.CLR_COUNTS zeroes the port's counters. -/
  | portClrCounts (d : Side) (n : Fin 32)
  /-- PCS_LOOP_WRITE (R201). A write to the STOP field PCS_LOOP loops the port's transmit PCS to its receive PCS. -/
  | pcsLoopWrite (r : Req) (d : Side) (n : Fin 32) (v : Word)
  /-- COUNTER_LO_READ (R591). A read of a LO counter half latches the HI half for that requester. -/
  | counterLoRead (r : Req) (addr : Nat)
  /-- DESKEW_FAIL (R205). Skew between a trunk port's lanes exceeds the deskew buffer and the port does not align. -/
  | deskewFail (n : Fin 32)
  /-- TRUNK_HEADER_CHECK (R224). The framer checks a header candidate and moves between HUNT, PRESYNC and SYNC, passing or discarding the frame. -/
  | trunkHeaderCheck (n : Fin 34) (more : Bytes)
  /-- FORCE_HUNT (R229). A FORCE_HUNT write sends the framer to HUNT at the next boundary. -/
  | forceHunt (n : Fin 34)
  /-- TRK_CLR_COUNTS (R252). TRK_CONTROL.CLR_COUNTS zeroes every counter of the framer window. -/
  | trkClrCounts (n : Fin 34)
  /-- MONITOR_SEND (R222). Once per free-running millisecond a MONITOR frame is sent where a gap gives room. -/
  | monitorSend (n : Fin 34)
  /-- MONITOR_RX (R237). A received MONITOR frame updates far-end totals and RDI. -/
  | monitorRx (n : Fin 34) (payload : Bytes)
  /-- PM_SECOND_CLOSE (R235). A second of the PM time base ends and is classified ES, SES, BBE or UAS. -/
  | pmSecondClose (n : Fin 34)
  /-- CIRCUIT_ENABLE_WRITE (R239). A write to TRK_CIRC_CFG.ENABLE reserves spillway cells or empties the spillway and returns them. -/
  | circuitEnableWrite (r : Req) (c : Fin 4096) (v : Word)
  /-- PLAYOUT_INSTANT (R241). A play-out instant emits the head frame or a repeated copy, or drops a waiting frame. -/
  | playoutInstant (c : Fin 4096)
  /-- PLAYOUT_EMIT (R244). A frame to be emitted goes out on the host port in the first gap it fits. -/
  | playoutEmit (c : Fin 4096)
  /-- CLASSIFIER_HANDOFF (R257). 96 cycles after arrival the parsed and matched frame is handed on with a program or verdict and its ensign. -/
  | classifierHandoff (id : Nat) (err : ClsErr)
  /-- OPEN (R280). OPEN takes the lowest free ensign slot and starts copying the CURRENT slot. -/
  | ensOpen (num : Fin 4096)
  /-- OPENING_DONE (R279). The copy of an OPENING slot completes and the slot becomes PENDING. -/
  | openingDone
  /-- COMMIT (R282). COMMIT makes the PENDING slot CURRENT in one cycle and the old one RETIRING. -/
  | ensCommit
  /-- ABANDON (R285). ABANDON moves the PENDING slot to SWEEPING and discards its change group. -/
  | ensAbandon
  /-- ENSIGN_DRAINED (R283). The last frame holding a RETIRING ensign leaves and the slot begins SWEEPING. -/
  | ensignDrained (slot : Fin 4)
  /-- SWEEP_DONE (R284). A slot's sweep completes, freeing emptied entries, and event 97 is raised. -/
  | sweepDone
  /-- CLS_READ (R294). CLS_ACC_CMD READ returns a classifier store entry. -/
  | clsRead
  /-- CLS_WRITE (R281). CLS_ACC_CMD WRITE replaces an entry, pattern, node or pair entry of the PENDING slot. -/
  | clsWrite
  /-- CLS_JOIN (R281). CLS_ACC_CMD JOIN adds the PENDING bit to an entry or pattern. -/
  | clsJoin
  /-- CLS_LEAVE (R281). CLS_ACC_CMD LEAVE removes the PENDING bit from an entry or pattern. -/
  | clsLeave
  /-- CLS_REPAIR (R289). CLS_ACC_CMD REPAIR rewrites a disabled entry or faulty node and clears the fault. -/
  | clsRepair
  /-- CLS_CLEAR (R294). CLS_ACC_CMD CLEAR zeroes a TCAM hit counter. -/
  | clsClear
  /-- CLS_ACCESS_DONE (R294). A classifier access completes and takes effect as BUSY returns to 0. -/
  | clsAccessDone
  /-- CLS_CLR_COUNTS (R293). CLS_CONTROL.CLR_COUNTS zeroes every classifier counter including hit counters. -/
  | clsClrCounts
  /-- CLS_SCRUB_VISIT (R288). The scrubber checks a classifier entry, result, node or pattern, disabling or correcting on error. -/
  | clsScrubVisit (store : Fin 8) (slot : Fin 4) (index : Nat) (err : ScrubErr)
  /-- DISPATCH (R300). Eight cycles after hand-off the frame is dispatched to an eligible engine or dropped with DROP_NO_ENGINE. -/
  | dispatch (id : Nat)
  /-- NOP (R316). Action word NOP does nothing. -/
  | wNop (e : Fin 1024)
  /-- LDC (R316). Action word LDC loads a context field into a register. -/
  | wLdc (e : Fin 1024)
  /-- STC (R314). Action word STC stores a register into a context field. -/
  | wStc (e : Fin 1024)
  /-- MOV (R316). Action word MOV copies a register. -/
  | wMov (e : Fin 1024)
  /-- LDI (R316). Action word LDI loads an immediate. -/
  | wLdi (e : Fin 1024)
  /-- LDH (R316). Action word LDH loads an immediate into the top 16 bits. -/
  | wLdh (e : Fin 1024)
  /-- SEL (R316). Action word SEL selects a register by Z. -/
  | wSel (e : Fin 1024)
  /-- ADD (R316). Action word ADD adds two registers. -/
  | wAdd (e : Fin 1024)
  /-- SUB (R316). Action word SUB subtracts two registers. -/
  | wSub (e : Fin 1024)
  /-- AND (R316). Action word AND ands two registers. -/
  | wAnd (e : Fin 1024)
  /-- OR (R316). Action word OR ors two registers. -/
  | wOr (e : Fin 1024)
  /-- XOR (R316). Action word XOR xors two registers. -/
  | wXor (e : Fin 1024)
  /-- SHL (R316). Action word SHL shifts left by a register. -/
  | wShl (e : Fin 1024)
  /-- SHR (R316). Action word SHR shifts right logically by a register. -/
  | wShr (e : Fin 1024)
  /-- CMP (R316). Action word CMP sets Z, C and S from two registers. -/
  | wCmp (e : Fin 1024)
  /-- ADDI (R316). Action word ADDI adds an immediate. -/
  | wAddi (e : Fin 1024)
  /-- SUBI (R316). Action word SUBI subtracts an immediate. -/
  | wSubi (e : Fin 1024)
  /-- ANDI (R316). Action word ANDI ands an immediate. -/
  | wAndi (e : Fin 1024)
  /-- ORI (R316). Action word ORI ors an immediate. -/
  | wOri (e : Fin 1024)
  /-- XORI (R316). Action word XORI xors an immediate. -/
  | wXori (e : Fin 1024)
  /-- SHLI (R316). Action word SHLI shifts left by an immediate. -/
  | wShli (e : Fin 1024)
  /-- SHRI (R316). Action word SHRI shifts right by an immediate. -/
  | wShri (e : Fin 1024)
  /-- CMPI (R316). Action word CMPI compares with an immediate. -/
  | wCmpi (e : Fin 1024)
  /-- CSUM (R316). Action word CSUM forms a folded ones'-complement sum. -/
  | wCsum (e : Fin 1024)
  /-- TST (R316). Action word TST sets Z from a masked register. -/
  | wTst (e : Fin 1024)
  /-- BR (R317). Action word BR branches forward when COND holds. -/
  | wBr (e : Fin 1024)
  /-- BBIT (R316). Action word BBIT branches on one register bit. -/
  | wBbit (e : Fin 1024)
  /-- BTAB (R316). Action word BTAB branches through a table by register value. -/
  | wBtab (e : Fin 1024)
  /-- LKI (R319). Action word LKI issues a lookup under a tag, on die or to HBM. -/
  | wLki (e : Fin 1024) (parity : Option (Fin 4))
  /-- LKW (R319). Action word LKW waits for a tagged result, parking the context for an HBM result not yet arrived. -/
  | wLkw (e : Fin 1024)
  /-- PAT (R316). Action word PAT finds a pattern or group hit in the metadata. -/
  | wPat (e : Fin 1024)
  /-- BIND (R388). Action word BIND checks a handle, binds the channel and, encrypting, assigns the PN. -/
  | wBind (e : Fin 1024) (parity : Bool)
  /-- BINDC (R325). Action word BINDC records the circuit bound to the frame. -/
  | wBindc (e : Fin 1024)
  /-- VERD (R323). Action word VERD records the verdict and ends the program. -/
  | wVerd (e : Fin 1024)
  /-- CNT (R322). Action word CNT adds the frame and its octets to a count entry. -/
  | wCnt (e : Fin 1024)
  /-- EMIT (R320). Action word EMIT sets an output metadata field. -/
  | wEmit (e : Fin 1024)
  /-- TIME (R321). Action word TIME reads the frame's arrival or departure time on a time base. -/
  | wTime (e : Fin 1024)
  /-- LRN (R358). Action word LRN sends a learn report into the input buffer. -/
  | wLrn (e : Fin 1024)
  /-- ENGINE_BUDGET_END (R302). After executed cycle 119 the frame leaves the engine stage with its verdict, or DROP_NO_VERDICT, and its cipher stage begins. -/
  | engineBudgetEnd (id : Nat) (keyFault : Bool)
  /-- HBM_REQUEST_GRANT (R326). An arbiter grants the oldest waiting HBM request. -/
  | hbmRequestGrant
  /-- HBM_RESULT_ARRIVE (R327). An HBM result reaches its parked context, which becomes ready. -/
  | hbmResultArrive (e : Fin 1024) (c : Fin 3) (bad : Option (Fin 8)) (fixed : Bool := false)
  /-- CONTEXT_RESUME (R328). A ready context takes the freed run slot in order of age. -/
  | contextResume (e : Fin 1024)
  /-- FAR_BIND_ANSWER (R385). The association store answers a parked far BIND from the cache or after a sealed-store read. -/
  | farBindAnswer (e : Fin 1024) (c : Fin 3) (err : FarErr)
  /-- CACHE_WRITE_BACK (R386). A changed replaced far-cache entry is sealed and written back on reserved bandwidth. -/
  | cacheWriteBack (cell : Bool := false)
  /-- FAR_HOLD_RELEASE (R305). A held far-bound frame is released once every earlier frame of its pair and direction has settled. -/
  | farHoldRelease (id : Nat) (keyFault : Bool) (bad : Option (Fin 0x100000) := none)
  /-- STORE_SCRUB (R334). The millisecond program-store scrub corrects single-bit errors and marks double-bit blocks FAULTY. -/
  | storeScrub (p : Fin 32) (addr : Fin 16384) (err : ScrubErr)
  /-- ENGINE_PARITY_ERROR (R335). A register or context parity error removes the engine and drops its frames. -/
  | engineParityError (e : Fin 1024) (inRegs : Bool)
  /-- POLDER_FAILURE (R335). A polder clock, rail or HBM port failure removes the polder and drops its frames. -/
  | polderFailure (p : Fin 32)
  /-- PLD_READ (R341). PLD_ACC_CMD READ returns a program word and block flags. -/
  | pldRead
  /-- PLD_WRITE (R330). PLD_ACC_CMD WRITE writes a program word of a free or PENDING-only block. -/
  | pldWrite
  /-- PLD_JOIN (R330). PLD_ACC_CMD JOIN adds the PENDING bit to a block. -/
  | pldJoin
  /-- PLD_LEAVE (R330). PLD_ACC_CMD LEAVE removes the PENDING bit from a block. -/
  | pldLeave
  /-- PLD_REPAIR (R330). PLD_ACC_CMD REPAIR rewrites a FAULTY block. -/
  | pldRepair
  /-- PLD_MARK (R330). PLD_ACC_CMD MARK sets a block's BOUNDED flag. -/
  | pldMark
  /-- PLD_ACCESS_DONE (R341). A program-store command completes across its polders. -/
  | pldAccessDone
  /-- PLD_CNT_SNAPSHOT (R341). A write of PLD_CNT_INDEX snapshots a count entry and optionally clears it. -/
  | pldCntSnapshot (v : Word)
  /-- ARB_MAX_READ (R341). A read of PLD_ARB_MAX returns the longest grant wait and reloads it with 0. -/
  | arbMaxRead (r : Req)
  /-- PLD_CLR_COUNTS (R339). PLD_CONTROL.CLR_COUNTS zeroes the polder's counters. -/
  | pldClrCounts (p : Fin 32)
  /-- PLD_ARRAY_CLR_COUNTS (R341). PLD_ARRAY_CONTROL.CLR_COUNTS zeroes the array counters. -/
  | pldArrayClrCounts
  /-- LEARN_REPORT_APPLY (R359). The insertion unit applies one learn report to its table with one outcome. -/
  | learnReportApply
  /-- LEARN_WRITE_DONE (R361). A learned entry write completes and becomes visible to later lookups. -/
  | learnWriteDone
  /-- AGER_BUCKET_VISIT (R362). The ager visits a learning bucket and removes entries past AGE_LIMIT. -/
  | agerBucketVisit (t : Fin 64) (bucket : Nat)
  /-- LKP_READ (R364). LKP_ACC_CMD READ returns an entry, filter or chunk entry. -/
  | lkpRead
  /-- LKP_INSERT (R364). LKP_ACC_CMD INSERT inserts or rewrites an EXACT entry static or learned. -/
  | lkpInsert
  /-- LKP_DELETE (R364). LKP_ACC_CMD DELETE removes an EXACT entry. -/
  | lkpDelete
  /-- LKP_LOOKUP (R364). LKP_ACC_CMD LOOKUP returns what an LKI would without counting. -/
  | lkpLookup
  /-- LKP_WRITE (R364). LKP_ACC_CMD WRITE replaces an LPM, filter or chunk entry. -/
  | lkpWrite
  /-- LKP_COMMAND_DONE (R364). A lookup command completes and sets its result. -/
  | lkpCommandDone
  /-- LKP_LQ_POP (R372). LKP_LQ_POP moves the oldest learn notification into the data registers. -/
  | lkpLqPop
  /-- LKP_CLR_COUNTS (R372). LKP_CONTROL.CLR_COUNTS zeroes the lookup counters. -/
  | lkpClrCounts
  /-- CREATE (R376). Channel command CREATE allocates an index and returns its handle. -/
  | chnCreate (port : CmdPort)
  /-- DESTROY (R377). Channel command DESTROY frees a channel and makes its handle stale. -/
  | chnDestroy (port : CmdPort)
  /-- CHN_READ (R410). Channel command READ returns part A bytes 0–127. -/
  | chnRead (port : CmdPort)
  /-- READ_SLOTS (R410). Channel command READ_SLOTS returns part A bytes 128–255. -/
  | chnReadSlots (port : CmdPort)
  /-- LOAD (R400). Channel command LOAD writes a key into a slot under a domain slot. -/
  | chnLoad (port : CmdPort)
  /-- ERASE (R410). Channel command ERASE makes a slot SPENT and advances KEY_GEN. -/
  | chnErase (port : CmdPort)
  /-- SET_MARK (R401). Channel command SET_MARK arms a hoist mark. -/
  | chnSetMark (port : CmdPort)
  /-- CLEAR_MARK (R410). Channel command CLEAR_MARK disarms the hoist mark. -/
  | chnClearMark (port : CmdPort)
  /-- SET_PN (R410). Channel command SET_PN raises a slot's PN. -/
  | chnSetPn (port : CmdPort)
  /-- SET_WINDOW (R410). Channel command SET_WINDOW sets the replay window. -/
  | chnSetWindow (port : CmdPort)
  /-- CLEAR_COUNTERS (R410). Channel command CLEAR_COUNTERS zeroes the channel's C_ counters. -/
  | chnClearCounters (port : CmdPort)
  /-- CHN_COMMAND_DONE (R408). An accepted channel command completes, taking effect and setting its result in one step. -/
  | chnCommandDone (n : Nat) (err : FarErr := .none) (cell : Bool := false)
  /-- RX_DECISION (R396). A decrypt frame's tag check ends and the store accepts, delivers or drops it in channel order. -/
  | rxDecision (id : Nat)
  /-- KEY_GENERATION_RELEASE (R404). The last frame bound to an old key generation leaves and its key is destroyed, emptying a SPENT slot. -/
  | keyGenerationRelease (handle : Word) (an : Fin 4) (keyGen : Fin 256)
  /-- INDEX_RELEASE (R377). The last frame of a destroyed channel leaves and its index may be allocated again. -/
  | indexRelease (far : Bool) (index : Nat)
  /-- INVALIDATION_SWEEP_VISIT (R469). The background sweep writes invalidated slot states into a channel record and queues a PARENT_STOP note. -/
  | invalidationSweepVisit (far : Bool) (index : Nat)
  /-- CHN_NOTE_POP (R417). CHN_NOTE_POP moves the oldest note into the data registers. -/
  | chnNotePop
  /-- CHN_CLR_COUNTS (R417). CHN_CONTROL.CLR_COUNTS zeroes the block counters. -/
  | chnClrCounts
  /-- FRAME_DEPART (R438). At its fixed departure cycle the frame's start-of-frame leaves on its output port. -/
  | frameDepart (id : Nat)
  /-- STEWARD_INJECT (R33). The steward injects a frame, which enters as a new frame. -/
  | stewardInject (p : Fin 32) (dec : Bool) (bytes : Bytes)
  /-- CIPHER_ROUND_BOUNDARY (R436). At a 256-cycle round boundary the pipe deal changes to the current n and L. -/
  | cipherRoundBoundary
  /-- PIPE_GROUP_WAKE_DONE (R449). A woken pipe group completes its known-answer test and its pipes join the deal or are removed. -/
  | pipeGroupWakeDone (g : Fin 16) (bad : BitVec 4)
  /-- PIPE_CHECK_ERROR (R450). A parity prediction or in-service known-answer failure removes the pipe. -/
  | pipeCheckError (p : Fin 64) (kat : Bool) (held : List Nat)
  /-- CPH_TEST_START (R451). CPH_TEST_CTRL.START begins a user GCM test on a named pipe. -/
  | cphTestStart (v : Word)
  /-- CPH_TEST_DONE (R451). The user GCM test completes with its output, tag and result. -/
  | cphTestDone
  /-- CPH_CLR_COUNTS (R453). CPH_CONTROL.CLR_COUNTS zeroes the cipher counters. -/
  | cphClrCounts
  /-- DOMAIN_IMPORT (R465). Domain command DOMAIN_IMPORT unwraps a domain blob under DTK into a slot. -/
  | domainImport (port : CmdPort)
  /-- DOMAIN_UNWRAP (R465). Domain command DOMAIN_UNWRAP unwraps a domain blob under a parent. -/
  | domainUnwrap (port : CmdPort)
  /-- DOMAIN_DERIVE (R465). Domain command DOMAIN_DERIVE derives a child key from a parent. -/
  | domainDerive (port : CmdPort)
  /-- DOMAIN_GENERATE (R465). Domain command DOMAIN_GENERATE makes a DRBG key and returns its blob. -/
  | domainGenerate (port : CmdPort)
  /-- ASSOC_GENERATE (R465). Domain command ASSOC_GENERATE returns a fresh association blob. -/
  | assocGenerate (port : CmdPort)
  /-- INVALIDATE (R468). Domain command INVALIDATE empties a slot and invalidates its chain. -/
  | domainInvalidate (port : CmdPort)
  /-- ATTEST (R480). Domain command ATTEST returns a MAC over challenge and state. -/
  | keyAttest (port : CmdPort)
  /-- KEY_COMMAND_DONE (R471). An accepted domain command completes in one step. -/
  | keyCommandDone (n : Nat) (cellFault : Bool)
  /-- DOMAIN_KEY_DESTROY (R470). An invalidated domain key is destroyed when its REFS reaches 0. -/
  | domainKeyDestroy (slot : Fin 1024) (gen : Fin 65536)
  /-- CELL_REMASK (R474). Each key cell is re-masked with fresh DRBG bits at least every 1 ms. -/
  | cellRemask
  /-- DRBG_RESEED (R475). The DRBG reseeds at least once per second or after 2^20 requests. -/
  | drbgReseed
  /-- NOISE_HEALTH_FAIL (R475). A noise-source health test fails and the DRBG is uninstantiated. -/
  | noiseHealthFail
  /-- DRBG_REINSTANTIATE (R475). Every 100 ms re-instantiation of a failed DRBG is tried. -/
  | drbgReinstantiate (ok : Bool)
  /-- KAT_PERIODIC (R476). Every 60 s the key unit reruns its known-answer tests. -/
  | katPeriodic (ok : Bool)
  /-- CONFIG_DIGEST_RECOMPUTE (R481). The configuration digest is recomputed after its inputs change. -/
  | configDigestRecompute
  /-- KEY_SLOT_SNAPSHOT (R487). A write to KEY_SLOT_SEL snapshots a domain slot into KEY_SLOT_INFO. -/
  | keySlotSnapshot (v : Word)
  /-- KEY_CLR_COUNTS (R487). KEY_CONTROL.CLR_COUNTS zeroes the key counters. -/
  | keyClrCounts
  /-- SET_RTC (R478). LEV_CMD SET_RTC loads the real-time clock at the next levee tick and logs it. -/
  | levSetRtc
  /-- LOG_READ (R488). LEV_CMD LOG_READ fetches a levee log record by SEQ. -/
  | levLogRead
  /-- LEV_COMMAND_DONE (R488). The levee acknowledges a LEV_CMD and sets its result. -/
  | levCommandDone
  /-- SENSOR_SAMPLE (R491). The temperature sensors are sampled, every 1 ms on a feed or 1 Hz on VBAT. -/
  | sensorSample (a : BitVec 12) (b : BitVec 12)
  /-- TAMPER_IN_LOW (R492). TAMPER_IN_N low for two levee ticks qualifies the current second for source 5. -/
  | tamperInLow
  /-- LEVEE_SECOND_END (R492). A levee second ends and each settable source's filter counts qualifying seconds and may fire. -/
  | leveeSecondEnd
  /-- VBAT_LOW (R493). VBAT below 2.0 V with no feed fires source 6 and zeroizes at once. -/
  | vbatLow
  /-- VBAT_WARN (R490). VBAT below 2.2 V with a feed begins source 8, raising event 203. -/
  | vbatWarn
  /-- XT32_FAIL (R494). After 8 ms without crystal oscillation the levee moves to its internal oscillator. -/
  | xt32Fail
  /-- XT32_RECOVER (R494). After the crystal has oscillated 1 s the levee returns to it. -/
  | xt32Recover
  /-- TAMPER_SETTINGS_WRITE (R503). A tamper settings write takes effect if tightening or within the window, else is ignored. -/
  | tamperSettingsWrite (src : Fin 5) (filter : Bool) (v : Word)
  /-- UNL_START (R505). LEV_UNL_CTRL START places a fresh challenge for the chosen purpose. -/
  | unlStart (v : Word)
  /-- UNL_RESPOND (R505). LEV_UNL_CTRL RESPOND submits the response for checking. -/
  | unlRespond (v : Word)
  /-- UNL_CANCEL (R513). LEV_UNL_CTRL CANCEL voids the outstanding challenge. -/
  | unlCancel (v : Word)
  /-- UNLOCK_CHECK_DONE (R510). The response check completes, lifting a LOCK or opening the config window on a match. -/
  | unlockCheckDone
  /-- CHALLENGE_EXPIRY (R505). A challenge outstanding for 60 s is no longer good. -/
  | challengeExpiry
  /-- CONFIG_WINDOW_CLOSE (R511). The 60 s configuration window closes. -/
  | configWindowClose
  /-- JTAG_RESET (R484). Test-Logic-Reset loads IDCODE into the instruction register. -/
  | jtagReset
  /-- JTAG_BYPASS (R484). Debug instruction BYPASS selects the 1-bit bypass. -/
  | jtagBypass (code : BitVec 8 := 0xFF)
  /-- JTAG_IDCODE (R484). Debug instruction IDCODE selects the identity register. -/
  | jtagIdcode
  /-- JTAG_OPEN (R485). Debug instruction OPEN fires source 7 and starts ZEROIZE before opening. -/
  | jtagOpen (trst : Bool)
  /-- DEBUG_GATE_RELEASE (R485). Once destruction is verified the debug gate releases and DEBUG_OPEN is logged. -/
  | debugGateRelease
  /-- SET (R518). Time base apply SET loads the base value. -/
  | timSet (b : Fin 8)
  /-- STEP (R518). Time base apply STEP folds and adds the shadow offset. -/
  | timStep (b : Fin 8)
  /-- RATE (R518). Time base apply RATE folds and sets the rate. -/
  | timRate (b : Fin 8)
  /-- STEP_RATE (R518). Time base apply STEP_RATE folds, steps and sets the rate. -/
  | timStepRate (b : Fin 8)
  /-- TIM_SNAP (R536). A write to TIM_SNAP snapshots the counter and a base in one cycle. -/
  | timSnap (v : Word)
  /-- TIM_TSQ_POP (R536). TIM_TSQ_POP moves the oldest two-step record into the data registers. -/
  | timTsqPop
  /-- TIM_CAP_POP (R536). TIM_CAP_POP moves the oldest capture entry into its registers. -/
  | timCapPop (j : Fin 2)
  /-- TIM_CLR_COUNTS (R536). TIM_CONTROL.CLR_COUNTS zeroes the time counters. -/
  | timClrCounts
  /-- PULSE_ENABLE_WRITE (R531). A write of ENABLE starts or stops a pulse output, skipping a passed START. -/
  | pulseEnableWrite (r : Req) (k : Fin 4) (v : Word)
  /-- PULSE_EDGE (R531). A pulse output places an active edge at its base time. -/
  | pulseEdge (k : Fin 4)
  /-- CAPTURE_EDGE (R532). An edge on TS_CAP is recorded with its base value or discarded. -/
  | captureEdge (j : Fin 2) (rising : Bool) (phase : Nat)
  /-- HBM_SCRUB_LINE (R544). The scrubber reads an HBM line and handles its ECC result. -/
  | hbmScrubLine (line : Nat) (err : ScrubErr) (collide : Bool)
  /-- HBM_SELF_REFRESH_ENTRY (R51). With all conditions of R51 holding the stack enters self-refresh. -/
  | hbmSelfRefreshEntry (cached : Bool := true)
  /-- HBM_WAKE_DONE (R551). The stack leaves self-refresh and waiting requests proceed. -/
  | hbmWakeDone
  /-- STACK_HOT (R550). The stack sensor crosses 85 °C upward and the refresh rate doubles. -/
  | stackHot (temp : Nat)
  /-- PC_FAILED (R552). A pseudo-channel fails while running and latches a C4 fault. -/
  | pcFailed (p : Fin 16)
  /-- HBM_CLR_COUNTS (R554). HBM_CONTROL.CLR_COUNTS zeroes the HBM counters. -/
  | hbmClrCounts
  /-- MSIX_SEND (R560). A pending MSI-X message is sent when its masks clear. -/
  | msixSend (n : Fin 256)
  /-- EVT_ACK (R557). A write of a source number to EVT_ACK ends its C2 and C3 standing. -/
  | evtAck (src : Fin 256)
  /-- ESCALATION (R561). A source standing at C2 for ESC_MS is raised again at C3 and its unit removed. -/
  | escalation (src : Fin 256)
  /-- EVT_HIST_POP (R566). EVT_HIST_POP moves the oldest history entry into the data registers. -/
  | evtHistPop
  /-- EVT_CLR_COUNTS (R583). EVT_CONTROL.CLR_COUNTS zeroes the warden counters. -/
  | evtClrCounts
  /-- BURGEE_RENEW (R569). The holding warden renews its lease. -/
  | burgeeRenew
  /-- WARDEN_LEASE_LAPSE (R569). The holder's lease lapses, it loses the burgee and is removed, starting the guard. -/
  | wardenLeaseLapse
  /-- BURGEE_GUARD_END (R569). At the end of the guard the other in-service warden takes the burgee. -/
  | burgeeGuardEnd
  /-- WARDEN_SELF_CHECK (R570). The non-holder runs its millisecond self-check and reports it. -/
  | wardenSelfCheck (w : Warden) (ok : Bool)
  /-- WARDEN_REPORT_MISSING (R570). A non-holder with no passed report within 1 ms is removed. -/
  | wardenReportMissing
  /-- HANDOVER (R570). A write to WRD_CONTROL.HANDOVER releases the burgee into the guard. -/
  | handover
  /-- WARDENS_LOST_TIMEOUT (R572). 1 ms after a guard ends with no holder WARDENS_LOST is raised as C4. -/
  | wardensLostTimeout
  /-- PAIR_ENABLE_WRITE (R573). A write of WRD_PAIR_CFG.ENABLE moves the module to STARTING or SOLO. -/
  | pairEnableWrite (r : Req) (v : Word)
  /-- HEALTH_SEND (R576). Every 1 ms a HEALTH CONTROL frame is sent on both PAIR lanes. -/
  | healthSend
  /-- RENEW_SEND (R577). The ACTIVE module renews the module burgee with a RENEW frame. -/
  | renewSend
  /-- HEALTH_RX (R578). A partner HEALTH frame updates fitness, role choice and may trigger a planned yield. -/
  | healthRx (lane : Fin 2) (payload : Bytes)
  /-- RENEW_RX (R577). A RENEW frame restarts the standby's lease. -/
  | renewRx (lane : Fin 2) (payload : Bytes)
  /-- YIELD_RX (R581). An eligible standby receiving YIELD takes the burgee, sends CLAIM and becomes ACTIVE. -/
  | yieldRx (lane : Fin 2) (payload : Bytes)
  /-- CLAIM_RX (R580). A yielding module receiving CLAIM stops its outputs, sends STOPPED and becomes STANDBY. -/
  | claimRx (lane : Fin 2) (payload : Bytes)
  /-- STOPPED_RX (R581). A new active module receiving STOPPED enables its outputs. -/
  | stoppedRx (lane : Fin 2) (payload : Bytes)
  /-- MODULE_LEASE_LAPSE (R577). The standby's module burgee lease lapses and its guard starts. -/
  | moduleLeaseLapse
  /-- MODULE_GUARD_END (R577). After the guard an eligible standby takes the burgee and becomes ACTIVE. -/
  | moduleGuardEnd
  /-- PARTNER_LOST_TIMEOUT (R577). No CONTROL frame for 3 ms raises PARTNER_LOST. -/
  | partnerLostTimeout
  /-- STARTING_TIMEOUT (R579). A STARTING module hearing nothing for 3 ms becomes ACTIVE. -/
  | startingTimeout
  /-- CLAIM_TIMEOUT (R580). A planned yield with no CLAIM in 100 µs leaves the module ACTIVE. -/
  | claimTimeout
  /-- YIELD_RESEND (R579). The higher-numbered of two ACTIVE modules resends YIELD every 1 ms. -/
  | yieldResend
  /-- SWITCH (R580). WRD_PAIR_CMD SWITCH starts a planned yield. -/
  | pairSwitch
  /-- FLEET_SET (R582). WRD_FLEET SET writes a new device number into the levee. -/
  | fleetSet (v : Word)
  /-- APPLY (R592). A write of IDN_APPLY.APPLY releases every waiting shadow. -/
  | idnApply
  /-- HOLD_WRITE (R592). A write to IDN_APPLY.HOLD holds later shadows or, clearing, releases them. -/
  | holdWrite (hold : Bool)
  /-- SAFE_POINT_APPLY (R592). A unit reaches its safe point and puts its released shadows in force. -/
  | safePointApply (u : ShUnit)
  /-- CROSSING_TIMEOUT (R587). A request with no acknowledgement in 4,096 cycles is abandoned and event 251 raised. -/
  | crossingTimeout (x : Fin 14) (inst : Fin 256) (write : Bool) (r : Req)
  /-- RESYNC_DONE (R598). A pointer crossing finishes resynchronising after one side's reset. -/
  | resyncDone (x : Fin 14) (inst : Fin 256) (held : List Nat)
  /-- REGISTER_WRITE (R13). A write to a register without a row of its own takes effect by its access type. -/
  | registerWrite (r : Req) (addr : Nat) (be : BitVec 4) (v : Word)
  /-- FREEZE_WRITE (R605). A write of PMU_CONTROL.FREEZE stops or restarts every counter. -/
  | freezeWrite (v : Word)
  /-- PMU_CLR_COUNTS (R605). PMU_CONTROL.CLR_COUNTS zeroes every counter and wrap bit. -/
  | pmuClrCounts
  /-- PMU_SELECTION_APPLY (R604). At the next 1 MHz tick changed counter selections take effect and clear their counters. -/
  | pmuSelectionApply
  /-- RING_ENABLE_WRITE (R614). Setting PMU_RING_CTRL.ENABLE empties the ring and extension. -/
  | ringEnableWrite (r : Req) (v : Word)
  /-- PMU_RING_POP (R613). PMU_RING_POP moves the oldest sample record into the data registers. -/
  | pmuRingPop (bad : Bool := false)
  /-- OBSERVER_ACCESS (R615). A PF1 access is served from the observer window or denied. -/
  | observerAccess (off : Nat) (write : Bool) (v : Word)
  /-- PCIE_CONFIG_REQUEST (R93). The endpoint answers a configuration request. -/
  | pcieConfigRequest (pf1 : Bool) (write : Bool) (addr : Nat) (v : Word) (be : BitVec 4)
  /-- PCIE_LINK_CHANGE (R636). The PCIe link comes up or goes down. -/
  | pcieLinkChange (up : Bool) (width : Fin 16) (speed : Fin 16)
  /-- SEND (R630). A write to STW_DOORBELL.SEND passes the PCIe request to the steward. -/
  | stwSend
  /-- MAILBOX_RESPONSE (R630). The steward or hardware writes a mailbox response. -/
  | mailboxResponse (m : MbxId)
  /-- IDENTITY (R632). Mailbox command IDENTITY returns the identity record. -/
  | mbxIdentity (m : MbxId)
  /-- STATUS (R632). Mailbox command STATUS returns the status registers. -/
  | mbxStatus (m : MbxId)
  /-- FLASH_READ (R632). Mailbox command FLASH_READ reads flash bytes. -/
  | mbxFlashRead (m : MbxId)
  /-- FLASH_WRITE (R632). Mailbox command FLASH_WRITE programs and reads back flash bytes. -/
  | mbxFlashWrite (m : MbxId) (ok : Bool)
  /-- FLASH_ERASE (R632). Mailbox command FLASH_ERASE erases one 64 KiB sector. -/
  | mbxFlashErase (m : MbxId) (ok : Bool)
  /-- PFX_ADD (R632). Mailbox command PFX_ADD adds an LPM prefix with its expansion. -/
  | mbxPfxAdd (m : MbxId)
  /-- PFX_DELETE (R632). Mailbox command PFX_DELETE removes an LPM prefix. -/
  | mbxPfxDelete (m : MbxId)
  /-- MBX_ATTEST (R632). Mailbox command ATTEST returns the 168-byte attestation. -/
  | mbxAttest (m : MbxId)
  /-- UNLOCK_START (R632). Mailbox command UNLOCK_START returns a fresh challenge. -/
  | mbxUnlockStart (m : MbxId)
  /-- UNLOCK_RESPOND (R632). Mailbox command UNLOCK_RESPOND submits the unlock response. -/
  | mbxUnlockRespond (m : MbxId)
  /-- I2C_READ (R635). I²C command READ returns status and register words. -/
  | i2cRead (addr : Nat) (count : Nat)
  /-- I2C_WRITE (R635). I²C command WRITE writes one register. -/
  | i2cWrite (addr : Nat) (v : Word)
  /-- MBX_SEND (R635). I²C command MBX_SEND passes a mailbox request. -/
  | i2cMbxSend (msg : Bytes)
  /-- MBX_RECV (R635). I²C command MBX_RECV returns the mailbox response. -/
  | i2cMbxRecv
  /-- STEWARD_WATCHDOG (R636). Steward firmware missing its 100 ms watchdog raises STEWARD_FAULT. -/
  | stewardWatchdog
  /-- PERST_N_DEASSERT (R93). PERST_N is deasserted and the PCIe endpoint leaves reset, starting the 100 ms window in which it must answer configuration requests. -/
  | perstNDeassert
  /-- TAMPER_IN_RELEASE (R508). TAMPER_IN_N returns high and the condition of source 5 ends, clearing its CONDITION bit so an UNLOCK is no longer refused with CONDITION. -/
  | tamperInRelease
  /-- VBAT_RESTORED (R493). VBAT rises back above 2.2 V (or 2.0 V) and the condition of source 8 or 6 ends, so a later fall begins it again. -/
  | vbatRestored
  /-- POLDER_WAKE_DONE (R49). A woken polder finishes waking within 10 µs, becomes awake and, after receiving its live blocks, eligible for dispatch. -/
  | polderWakeDone (p : Fin 32)
  /-- STEWARD_RESTART_DONE (R631). The steward finishes restarting on its firmware after an escalation, sets STEWARD_UP and mailboxes stop answering BUSY. -/
  | stewardRestartDone
  /-- STACK_HOT_END (R550). The HBM stack sensor falls back to 85 °C or below, the refresh rate returns to normal and HBM_TEMP.HOT clears. -/
  | stackHotEnd (temp : Nat)
  /-- REGISTER_READ (R91). A register read that does not answer (bring-up, LOCK, C4) returns 0xFFFF_FFFF and sets IDN_STATUS.ACC_ERR, raising event 252. -/
  | registerRead (r : Req) (addr : Nat)
  /-- I2C_PROTOCOL_ERROR (R635). An I²C transaction that breaks the command table or is cut off before its STOP is discarded and raises event 255. -/
  | i2cProtocolError
  /-- COUNTER_WRAP (R603). A performance counter counting core, cipher or always-on cycles passes 2^48 − 1, wraps, sets its PMU_WRAP bit and raises COUNTER_WRAP. -/
  | counterWrap (c : Fin 512)
deriving DecidableEq, Repr

end Sys2Proof
end

