-- ==== Sys2Proof/Decode.lean ====
section
/-! DEFINITION. The command a table word spells. No row of the opcode table gives bits, so no word
spells a command; commands reach the block through its queue (log entry 1). -/

namespace Sys2Proof

/-- The command spelled by the `nbits` bits `w` of a row: none, since no row gives bits. -/
def decodeTableWord (_nbits _w : Nat) : Option Instr := none

end Sys2Proof
end

