-- ==== Sys2Proof/Machine/Base.lean ====
section
/-! DEFINITION. The value of a time base and the apply kinds (14 R517, R518). -/

namespace Sys2Proof.Machine
open Sys2Proof.Bits

namespace TimeBase

/-- The correction a base has gathered since its anchor (14 R517). -/
def drift (t : TimeBase) (c : Int) : Int := ((c - t.anchor) * signed 48 t.rate) / (2 ^ 32 * 10 ^ 6)

/-- The value of a base at a counter value (14 R517). -/
def at_ (t : TimeBase) (c : Int) : Nat := wrap 96 (c + signed 80 t.offset + t.drift c)

/-- The offset an apply of a kind would give at c0, with the shadow offset (14 R518). -/
def newOffset (t : TimeBase) (kind : Nat) (c0 : Nat) (shadow : Nat) : Int :=
  let folded := signed 80 t.offset + t.drift c0
  if kind = 1 then (shadow : Int) - c0
  else if kind = 3 then folded
  else folded + signed 80 shadow

/-- Whether an offset lies in the range of 80 bits. -/
def inRange (o : Int) : Bool := decide (-(2 ^ 79 : Int) ≤ o ∧ o < 2 ^ 79)

/-- The base after an apply (14 R518); none for RANGE. -/
def apply (t : TimeBase) (kind c0 offset rate : Nat) : Option TimeBase :=
  let o := t.newOffset kind c0 offset
  if inRange o then
    some { offset := wrap 80 o, anchor := c0, rate := if kind = 3 ∨ kind = 4 then rate else t.rate }
  else none

end TimeBase

end Sys2Proof.Machine
end

