-- ==== Sys2Proof/Machine/Rate.lean ====
section
/-! DEFINITION. Exact times and lengths on the ports: the unit in which an output's start and end are kept, and the
durations of bytes on Ethernet and trunk ports (01 R39, R43; 05 R178, R181; 06 R207). -/

namespace Sys2Proof.Machine
open Sys2Proof.Bits

namespace Rate

/-- A core cycle of 0.8 ns in the unit kept: the largest that counts 2^-16 ns, an Ethernet byte and a trunk byte
exactly. -/
def cycle : Nat := 4829184000000

/-- 2^-16 ns. -/
def phase : Nat := 92109375

/-- A byte on one lane of an Ethernet port, at 100 Gb/s. -/
def etherByte : Nat := 482918400000

/-- A byte on one lane of a trunk port, at 112.5 × 16,375 / 16,384 Gb/s. -/
def trunkByte : Nat := 429496729600

/-- A core cycle and a phase in 2^-16 ns within it. -/
def at_ (c p : Nat) : Nat := c * cycle + p * phase

/-- `n` bytes on an Ethernet port of width `w`. -/
def ether (w n : Nat) : Nat := n * etherByte / max 1 w

/-- `n` bytes on a trunk port of width `w`, rounded up. -/
def trunk (w n : Nat) : Nat := (n * trunkByte + w - 1) / max 1 w

/-- The first core cycle at or after a time. -/
def ceil (t : Nat) : Nat := (t + cycle - 1) / cycle

end Rate

namespace Ndoath

/-- LENGTH, TYPE, AN and PAD of a header (06 R208). -/
def len (h : Bytes) : Nat := beAt h 0 2
/-- See `len`. -/
def typ (h : Bytes) : Nat := (h.getD 2 0).toNat / 16
/-- See `len`. -/
def an (h : Bytes) : Nat := field (h.getD 2 0).toNat 2 2
/-- See `len`. -/
def pad (h : Bytes) : Nat := (h.getD 3 0).toNat

/-- The bytes a frame takes in the stream (06 R211). -/
def size (h : Bytes) : Nat := 6 + len h + pad h

/-- The stream byte on a 32-bit boundary at or before an exact time, on a trunk port of width `w`. -/
def streamAt (w t : Nat) : Nat := t * w / (Rate.trunkByte * 4) * 4

/-- The payload words of a block of one lane (04 R155). -/
def blockWords : Nat := 16375

/-- The stream bytes of a row of blocks on a port of width `w` (06 R204). -/
def rowSize (w : Nat) : Nat := 8 * blockWords * max 1 w

/-- The lane within the port, and the payload word of its block, at a stream byte (06 R203). -/
def wordAt (w pos : Nat) : Nat × Nat := (pos / 8 % max 1 w, pos % rowSize w / (8 * max 1 w))

/-- What the line coding places before payload word `j` of a block, in symbols times 16,375: its share of the marker and
of `fill` fill words, which the words of the block make good one by one, and `debt` stuffing symbols not yet repaid (04
R155, R161; 06 R207; log entry 96). -/
def coding (fill debt j : Nat) : Nat := (1 + fill) * 32 * (blockWords - j) + debt * blockWords

/-- Symbols times 16,375 in 2^-16 ns, at 56.25 GBd. -/
def symbolTime (n : Nat) : Nat := n * 262144 / (225 * blockWords)

end Ndoath

end Sys2Proof.Machine
end

