-- ==== Sys2Proof/Machine/Regs.lean ====
section
/-! DEFINITION. Register addresses (PF0 BAR0), the nonzero Reset values, and how software's writes
reach stored fields: RW, SH, STOP and W1C bits of every word (00 R13; the register tables of every
chapter). -/

namespace Sys2Proof.Machine
open Sys2Proof.Bits

namespace Reg

def idnId : Nat := 0x0000000
def idnStatus : Nat := 0x0000004
def idnControl : Nat := 0x0000008
def idnEvent : Nat := 0x000000C
def idnRate : Nat := 0x0000010
def idnLink : Nat := 0x0000014
def idnBoot : Nat := 0x0000020
def idnApply : Nat := 0x0000070
def idnStopRefused : Nat := 0x0000074
def idnXingErr : Nat := 0x0000078
def idnResync : Nat := 0x000007C
def idnDropResyncEnc : Nat := 0x0000080
def idnDropResyncDec : Nat := 0x0000088
def pwrShed : Nat := 0x0010008
def pwrEvent : Nat := 0x0010010
def pwrControl : Nat := 0x0010014
def wrdControl : Nat := 0x0020004
def wrdEvent : Nat := 0x0020008
def evtControl : Nat := 0x002000C
def evtAck : Nat := 0x0020010
def evtHistPop : Nat := 0x0020018
def evtHistData : Nat := 0x0020020
def wrdPairCfg : Nat := 0x0020030
def wrdPairCmd : Nat := 0x0020038
def wrdFleet : Nat := 0x002003C
def evtPending : Nat := 0x0020100
def evtMask : Nat := 0x0020120
def wrdCtr : Nat := 0x0020200
def levRtcSet : Nat := 0x003000C
def levCmd : Nat := 0x0030014
def levLogIndex : Nat := 0x003001C
def levLogData : Nat := 0x0030020
def levTampLimits : Nat := 0x0030110
def levTampEvent : Nat := 0x003013C
def levUnlCtrl : Nat := 0x0030180
def levUnlChal : Nat := 0x0030190
def levUnlResp : Nat := 0x00301B0
def keyCmd : Nat := 0x0040000
def keyCmdArg : Nat := 0x0040004
def keyCmdStatus : Nat := 0x0040008
def keyControl : Nat := 0x004000C
def keyEvent : Nat := 0x0040010
def keyAbort : Nat := 0x0040014
def keySlotSel : Nat := 0x004001C
def keySlotInfo0 : Nat := 0x0040020
def keySlotInfo1 : Nat := 0x0040024
def keyInval : Nat := 0x0040028
def keyInvalGen : Nat := 0x004002C
def keyData : Nat := 0x0040040
def keyAttChal : Nat := 0x0040080
def keyAttMac : Nat := 0x00400A0
def keyCtr : Nat := 0x0040100
def timControl : Nat := 0x0100008
def timEvent : Nat := 0x010000C
def timSnap : Nat := 0x0100010
def timTsqPop : Nat := 0x0100034
def timTsqData : Nat := 0x0100040
def timBase : Nat := 0x0100100
def timPulse : Nat := 0x0100200
def timCap : Nat := 0x0100300
def timLane : Nat := 0x0100400
def timPairBase : Nat := 0x0100600
def timCtr : Nat := 0x0100800
def lkpAccTable : Nat := 0x0800000
def lkpAccIndex : Nat := 0x0800004
def lkpAccCmd : Nat := 0x0800008
def lkpAccStatus : Nat := 0x080000C
def lkpAccData : Nat := 0x0800040
def lkpLqPop : Nat := 0x0800084
def lkpParity : Nat := 0x0800088
def lkpControl : Nat := 0x080008C
def lkpEvent : Nat := 0x0800090
def lkpParityLoc : Nat := 0x0800094
def lkpLqData : Nat := 0x08000C0
def clsEnsignCmd : Nat := 0x0600010
def clsEnsignStatus : Nat := 0x0600014
def clsAccAddr : Nat := 0x0600020
def clsAccCmd : Nat := 0x0600024
def clsAccStatus : Nat := 0x0600028
def clsParity : Nat := 0x060002C
def clsControl : Nat := 0x0600030
def clsEvent : Nat := 0x0600034
def clsAccData : Nat := 0x0600040
def pldAccAddr : Nat := 0x107E000
def pldAccCmd : Nat := 0x107E004
def pldAccStatus : Nat := 0x107E008
def pldAccData : Nat := 0x107E00C
def pldAccBlock : Nat := 0x107E014
def pldCntIndex : Nat := 0x107E018
def pldCntData : Nat := 0x107E01C
def pldArbMax : Nat := 0x107E030
def pldArrayControl : Nat := 0x107E034
def pldEncCtr : Nat := 0x107E100
def pldDecCtr : Nat := 0x107E200
def chnCmd : Nat := 0x0A00000
def chnCmdHandle : Nat := 0x0A00004
def chnCmdArg : Nat := 0x0A00008
def chnCmdStatus : Nat := 0x0A0000C
def chnResultHandle : Nat := 0x0A00010
def chnControl : Nat := 0x0A00014
def chnEvent : Nat := 0x0A00018
def chnNotePop : Nat := 0x0A0002C
def chnNoteData : Nat := 0x0A00030
def chnData : Nat := 0x0A00040
def chnFault : Nat := 0x0A000C0
def chnCtr : Nat := 0x0A00100
def chnProfile : Nat := 0x0A00400
def chnPolicy : Nat := 0x0A00800
def cphControl : Nat := 0x0C00014
def cphCheck : Nat := 0x0C00018
def cphEvent : Nat := 0x0C00040
def cphEncCtr : Nat := 0x0C00100
def cphDecCtr : Nat := 0x0C00180
def cphTestCtrl : Nat := 0x0C00200
def cphTestLen : Nat := 0x0C00204
def cphTestKey : Nat := 0x0C00220
def cphTestIv : Nat := 0x0C00240
def cphTestAad : Nat := 0x0C00280
def cphTestIn : Nat := 0x0C002C0
def cphTestOut : Nat := 0x0C00300
def cphTestTag : Nat := 0x0C00340
def hbmControl : Nat := 0x0D00008
def hbmEvent : Nat := 0x0D0000C
def hbmErr : Nat := 0x0D00010
def hbmErrLo : Nat := 0x0D00014
def hbmErrHi : Nat := 0x0D00018
def hbmCtr : Nat := 0x0D00100
def pmuControl : Nat := 0x0E00000
def pmuEvent : Nat := 0x0E00004
def pmuSampleCfg : Nat := 0x0E00010
def pmuSamplePeriod : Nat := 0x0E00014
def pmuRingCtrl : Nat := 0x0E00018
def pmuRingStatus : Nat := 0x0E0001C
def pmuRingThreshold : Nat := 0x0E00020
def pmuRingPop : Nat := 0x0E00024
def pmuRingData : Nat := 0x0E00040
def pmuWrap : Nat := 0x0E00080
def pmuCntCfg : Nat := 0x0E01000
def pmuCntLo : Nat := 0x0E02000
def pmuCtr : Nat := 0x0E00100
def stwReq : Nat := 0x2000000
def stwRsp : Nat := 0x2001000
def stwDoorbell : Nat := 0x2002000
def stwStatus : Nat := 0x2002004
def trkPool : Nat := 0x050F008

/-- Whether an address lies in a lane's window: 32 host lanes; 32 line lanes and the two PAIR lanes (04 R173). -/
def isLane (a : Nat) : Bool :=
  decide ((0x0200000 ≤ a ∧ a < 0x0208000) ∨ (0x0300000 ≤ a ∧ a < 0x0308800))

/-- Host lane, line lane and PAIR lane windows: lane `l` of 0–65 (04 R173). -/
def lane (l : Nat) : Nat := if l < 32 then 0x0200000 + l * 0x400 else 0x0300000 + (l - 32) * 0x400

/-- A port's window (05 R201). -/
def port (line : Bool) (n : Nat) : Nat := (if line then 0x0408000 else 0x0400000) + n * 0x400

/-- A framer's window (06 R252). -/
def framer (n : Nat) : Nat := 0x0500000 + n * 0x400

/-- A circuit's registers (06 R256). -/
def circuit (c : Nat) : Nat := 0x0510000 + c * 0x10

/-- A polder's registers (08 R339). -/
def polder (n : Nat) : Nat := 0x107F000 + n * 0x80000

/-! ### Write masks (00 R13) -/

/-- The bits of a word that a write reaches, by access type: `rw` for RW, RWS and LIVE, `sh` for SH,
`stop` for STOP, `w1c` for W1C. -/
structure Mask where
  rw : Nat
  sh : Nat
  stop : Nat
  w1c : Nat
deriving DecidableEq, Repr

/-- A word no write reaches. -/
def Mask.none : Mask := { rw := 0, sh := 0, stop := 0, w1c := 0 }
/-- RW bits only. -/
def Mask.ofRw (m : Nat) : Mask := { rw := m, sh := 0, stop := 0, w1c := 0 }
/-- SH bits only. -/
def Mask.ofSh (m : Nat) : Mask := { rw := 0, sh := m, stop := 0, w1c := 0 }
/-- STOP bits only. -/
def Mask.ofStop (m : Nat) : Mask := { rw := 0, sh := 0, stop := m, w1c := 0 }
/-- W1C bits only. -/
def Mask.ofW1c (m : Nat) : Mask := { rw := 0, sh := 0, stop := 0, w1c := m }

/-- All 32 bits. -/
def all : Nat := 0xFFFFFFFF

/-- The two capture bits VALID and OVERFLOW. -/
def capBits : Nat := 0xC0000000

/-- The masks of the identity, power, warden, levee and key blocks (03 R136, 19 R626, 17 R601,
02 R86, 16 R583, 12 R487, R488, 13 R513). -/
def maskLow (a : Nat) : Mask :=
  if a = idnStatus then .ofW1c 0x80000000
  else if a = idnEvent then .ofW1c 0xFF
  else if a = idnStopRefused ∨ a = idnXingErr then .ofW1c capBits
  else if a = pwrEvent then .ofW1c 0xFF
  else if a = pwrControl then .ofRw 0xFF03
  else if a = wrdEvent then .ofW1c 0x7FF
  else if a = evtControl then .ofRw 0xFFFF
  else if a = wrdPairCfg then { rw := 0x80000000, sh := 0, stop := 0xFFFF, w1c := 0 }
  else if a = wrdFleet then .ofRw 0xFFFF
  else if evtMask ≤ a ∧ a < evtMask + 32 then .ofRw all
  else if a = levRtcSet ∨ a = levRtcSet + 4 ∨ a = levLogIndex then .ofRw all
  else if a = levTampEvent then .ofW1c 0xFF
  else if a = levUnlCtrl then .ofRw 0x300
  else if levUnlResp ≤ a ∧ a < levUnlResp + 48 then .ofRw all
  else if a = keyCmdArg then .ofRw 0x03FF3FFF
  else if a = keyEvent then .ofW1c 0x7F
  else if a = keyAbort then .ofW1c capBits
  else if a = keySlotSel then .ofRw 0x3FF
  else if keyData ≤ a ∧ a < keyAttMac then .ofRw all
  else .none

/-- The masks of the time block (14 R536). -/
def maskTim (a : Nat) : Mask :=
  if a = timControl then .ofRw 0x7FF
  else if a = timEvent then .ofW1c 0x3F
  else if a = timSnap then .ofRw 7
  else if timBase ≤ a ∧ a < timPulse then
    let o := (a - timBase) % 0x20
    if o = 0x0 ∨ o = 0x4 ∨ o = 0xC then .ofSh all
    else if o = 0x8 ∨ o = 0x10 then .ofSh 0xFFFF
    else .none
  else if timPulse ≤ a ∧ a < timCap then
    let o := (a - timPulse) % 0x40
    if o = 0 then { rw := 0x80000000, sh := 0, stop := 0x67000000, w1c := 0 }
    else if o < 0x1C then .ofStop all
    else if o = 0x1C then .ofStop 0xFFFF
    else .none
  else if timCap ≤ a ∧ a < timCap + 0x80 then
    if (a - timCap) % 0x40 = 0 then { rw := 0x80000000, sh := 0, stop := 0x07000003, w1c := 0 }
    else .none
  else if timLane ≤ a ∧ a < timPairBase then
    if 8 ≤ (a - timLane) % 0x10 then .ofRw all else .none
  else if timPairBase ≤ a ∧ a < timPairBase + 16 then .ofRw 0x77777777
  else .none

/-- The masks of lane, port, trunk windows (04 R173–R175, 05 R201, 06 R252, R256). -/
def maskLink (a : Nat) : Mask :=
  if isLane a then
    if a % 0x400 = 0x10 then .ofStop 0x17
    else if a % 0x400 = 0x14 then .ofW1c 0xFF
    else .none
  else if 0x0400000 ≤ a ∧ a < 0x0410000 then
    if a % 0x400 = 0x08 then .ofStop 1
    else if a % 0x400 = 0x0C then .ofW1c 0x7F
    else .none
  else if 0x0500000 ≤ a ∧ a < 0x0508800 then
    if a % 0x400 = 0x04 then .ofSh 0x7F7
    else if a % 0x400 = 0x0C then .ofW1c 0xFFF
    else .none
  else if 0x0510000 ≤ a ∧ a < 0x0520000 then
    if a % 0x10 = 0 then { rw := 0x80000000, sh := 0, stop := 0x1F733F3F, w1c := 0 }
    else if a % 0x10 = 4 then .ofStop all
    else .none
  else .none

/-- The masks of the classifier, lookup, association, cipher, HBM, performance, polder and mailbox
blocks (07 R293, 09 R372, 10 R417, 11 R453, 15 R554, 18 R617, 08 R339, R341, 19 R629). -/
def maskHigh (a : Nat) : Mask :=
  if a = clsAccAddr then .ofRw 0xF3003FFF
  else if a = clsParity then .ofW1c capBits
  else if a = clsControl then .ofRw 0xFFFF
  else if a = clsEvent then .ofW1c 0xFF
  else if clsAccData ≤ a ∧ a < clsAccData + 192 then .ofRw all
  else if a = lkpAccTable then .ofRw 0x3FFF
  else if a = lkpAccIndex then .ofRw 0xFC1FFFFF
  else if lkpAccData ≤ a ∧ a < lkpAccData + 64 then .ofRw all
  else if a = lkpParity then .ofW1c capBits
  else if a = lkpControl then .ofRw 0x1FFF
  else if a = lkpEvent then .ofW1c 0x1F
  else if 0x0801000 ≤ a ∧ a < 0x0801200 ∧ a % 8 = 4 then .ofRw 0xFFFF0000
  else if a = chnCmdHandle then .ofRw all
  else if a = chnCmdArg then .ofRw 0xC000000F
  else if a = chnControl then .ofRw 0x1FFF
  else if a = chnEvent then .ofW1c 0x3F
  else if chnData ≤ a ∧ a < chnFault then .ofRw all
  else if a = chnFault then .ofW1c capBits
  else if chnProfile ≤ a ∧ a < chnPolicy - 0x200 then
    let o := (a - chnProfile) % 0x20
    if o = 0x0 ∨ o = 0x8 ∨ o = 0xC ∨ o = 0x10 then .ofSh all
    else if o = 0x14 then .ofSh 0xFFFFFF
    else if o = 0x18 then .ofSh 0xFFFF
    else .none
  else if chnPolicy ≤ a ∧ a < chnPolicy + 128 then .ofStop all
  else if a = cphCheck then .ofW1c capBits
  else if cphEvent ≤ a ∧ a < cphEvent + 64 then .ofW1c 0x1F
  else if a = cphTestCtrl then .ofRw 0x6003F
  else if a = cphTestLen then .ofRw 0x7F007F
  else if cphTestKey ≤ a ∧ a < cphTestKey + 32 then .ofRw all
  else if cphTestIv ≤ a ∧ a < cphTestIv + 12 then .ofRw all
  else if cphTestAad ≤ a ∧ a < cphTestOut then .ofRw all
  else if cphTestTag ≤ a ∧ a < cphTestTag + 16 then .ofRw all
  else if a = hbmControl then .ofRw 0xFF
  else if a = hbmEvent then .ofW1c 0x3F
  else if a = hbmErr then .ofW1c capBits
  else if a = pmuControl then .ofRw 0x80000001
  else if a = pmuEvent then .ofW1c 0x1F
  else if a = pmuSampleCfg then .ofSh 0xFFCFFFFF
  else if a = pmuSamplePeriod then .ofSh 0xFFFF
  else if a = pmuRingCtrl then { rw := 0x80000000, sh := 0, stop := 0x7F000000, w1c := 0 }
  else if a = pmuRingThreshold then .ofRw 0x1FFFFFF
  else if pmuWrap ≤ a ∧ a < pmuWrap + 64 then .ofW1c all
  else if pmuCntCfg ≤ a ∧ a < pmuCntCfg + 2048 then .ofSh 0x9F3F00FF
  else if a = pldAccAddr then .ofRw 0x9F003FFF
  else if a = pldAccData ∨ a = pldAccData + 4 then .ofRw all
  else if a = pldCntIndex then .ofRw 0x80003FFF
  else if 0x1000000 ≤ a ∧ a < 0x2000000 then
    if a % 0x80000 = 0x7F008 then .ofW1c 0x3F
    else if a % 0x80000 = 0x7F00C ∨ a % 0x80000 = 0x7F010 then .ofW1c capBits
    else .none
  else if stwReq ≤ a ∧ a < stwRsp then .ofRw all
  else if a = stwStatus then .ofW1c 2
  else .none

/-- The masks of a word. -/
def maskAt (a : Nat) : Mask :=
  if a < 0x0100000 then maskLow a
  else if a < 0x0200000 then maskTim a
  else if a < 0x0600000 then maskLink a
  else maskHigh a

/-- The Reset value of a stored word (00 R17); "img" words are 0 until the image loads them. -/
def resetOf (a : Nat) : Word :=
  if a = pwrControl then 0x0A00
  else if evtMask ≤ a ∧ a < evtMask + 32 ∧ a % 4 = 0 then 0xFFFFFFFF
  else if a = evtControl then 10
  else if a = levUnlCtrl then 0x100
  else if a = timControl then 768
  else if a = lkpControl ∨ a = chnControl then 3072
  else if a = pmuSampleCfg then 0x08000000
  else if a = pmuSamplePeriod then 0x3FF
  else if a = pmuRingCtrl then 0x0D000000
  else if a = pmuRingThreshold then 6144
  else if a = hbmControl then 1
  else if 0x0500000 ≤ a ∧ a < 0x0508800 ∧ a % 0x400 = 4 then 0x43
  else if 0x0510000 ≤ a ∧ a < 0x0520000 ∧ a % 0x10 = 0 then 0x0102
  else if 0x0510000 ≤ a ∧ a < 0x0520000 ∧ a % 0x10 = 4 then 16000
  else 0

/-- A circuit's CFG as it is taken (06 R256). -/
def normCircuit (v : Nat) : Nat :=
  let d := field v 0 6
  let d := if d < 2 then 2 else if 32 < d then 32 else d
  let t := field v 8 6
  let t := if 1 ≤ t ∧ t ≤ d - 1 then t else d / 2
  setField (setField v 0 6 d) 8 6 t

/-- A written word as it is taken: the values a register table replaces by another. -/
def norm (a v : Nat) : Nat :=
  if a = pwrControl then
    let v := if field v 8 8 = 0 then setField v 8 8 1 else v
    if field v 0 2 = 3 then setField v 0 2 2 else v
  else if a = evtControl then (if field v 0 16 = 0 then setField v 0 16 1 else v)
  else if a = timControl then
    (if field v 0 11 = 0 ∨ 1024 < field v 0 11 then setField v 0 11 1024 else v)
  else if a = lkpControl ∨ a = chnControl then
    (if field v 0 13 = 0 ∨ 4096 < field v 0 13 then setField v 0 13 4096 else v)
  else if a = clsControl then (if field v 0 16 = 0 then setField v 0 16 1 else v)
  else if a = hbmControl then (if field v 0 8 = 0 then setField v 0 8 1 else v)
  else if a = pmuRingThreshold then (if field v 0 25 = 0 then setField v 0 25 1 else v)
  else if a = pmuRingCtrl then
    let e := field v 24 5
    setField v 24 5 (if e < 13 then 13 else if 24 < e then 24 else e)
  else if a = timCap ∨ a = timCap + 0x40 then (if field v 0 2 = 0 then setField v 0 2 1 else v)
  else if isLane a ∧ a % 0x400 = 0x10 then
    (if 4 ≤ field v 0 3 then setField v 0 3 0 else v)
  else if 0x0500000 ≤ a ∧ a < 0x0508800 ∧ a % 0x400 = 4 then
    let v := if field v 4 4 < 2 then setField v 4 4 2 else v
    if field v 0 3 = 0 then setField v 0 3 1 else v
  else if 0x0510000 ≤ a ∧ a < 0x0520000 ∧ a % 0x10 = 0 then normCircuit v
  else if 0x0510000 ≤ a ∧ a < 0x0520000 ∧ a % 0x10 = 4 then (if v < 16000 then 16000 else v)
  else v

/-- The words a warm reset keeps although they lie outside `ctr`: the lane counters (04 R175), the
seconds counters (06 R253), IDN_RESYNC for its COUNT (17 R601) and the time-base shadows (14 R521). -/
def keptWarm (a : Nat) : Bool :=
  (isLane a && decide (0x18 ≤ a % 0x400 ∧ a % 0x400 ≤ 0x30)) ||
  decide (0x0500000 ≤ a ∧ a < 0x0508800 ∧ 0x10 ≤ a % 0x400 ∧ a % 0x400 ≤ 0x24) ||
  decide (timBase ≤ a ∧ a < timPulse ∧ (a - timBase) % 0x20 < 0x14) || decide (a = idnResync)

end Reg

end Sys2Proof.Machine
end

