-- ==== Sys2Proof/Machine/Operands.lean ====
section
/-! DEFINITION. The operand forms: the fields of an action word in its twelve formats, and which words are legal
(08 R315, R316, R318, R324). -/

namespace Sys2Proof.Machine
open Sys2Proof.Bits

/-! ### Fields of an action word (08 R315) -/

namespace AWord

/-- The opcode, bits [63:58]. -/
def op (w : BitVec 64) : Nat := field w.toNat 58 6
/-- D or COND, bits [57:54]. -/
def d (w : BitVec 64) : Nat := field w.toNat 54 4
/-- A, bits [53:50]. -/
def a (w : BitVec 64) : Nat := field w.toNat 50 4
/-- B of format R, bits [49:46]. -/
def b (w : BitVec 64) : Nat := field w.toNat 46 4
/-- IMM of format I, bits [47:0]. -/
def imm (w : BitVec 64) : BitVec 64 := BitVec.ofNat 64 (field w.toNat 0 48)
/-- IDX, bit 49 of formats C and N. -/
def idx (w : BitVec 64) : Bool := w.toNat.testBit 49
/-- OFFSET of format C. -/
def offset (w : BitVec 64) : Nat := field w.toNat 37 12
/-- WIDTH of format C. -/
def width (w : BitVec 64) : Nat := field w.toNat 31 6 + 1
/-- BIT of format B. -/
def bitNo (w : BitVec 64) : Nat := field w.toNat 44 6
/-- TARGET of format B. -/
def target (w : BitVec 64) : Nat := field w.toNat 30 14
/-- LIMIT of format B. -/
def limit (w : BitVec 64) : Nat := field w.toNat 22 8
/-- TABLE of formats L and K. -/
def table (w : BitVec 64) : Nat := field w.toNat 52 6
/-- A of formats L and K, bits [51:48]. -/
def keyReg (w : BitVec 64) : Nat := field w.toNat 48 4
/-- KEYWORDS of formats L and K. -/
def keyWords (w : BitVec 64) : Nat := field w.toNat 46 2 + 1
/-- TAG of format L. -/
def tagL (w : BitVec 64) : Nat := field w.toNat 44 2
/-- TAG of format W. -/
def tagW (w : BitVec 64) : Nat := field w.toNat 52 2
/-- WIDE of format W. -/
def wide (w : BitVec 64) : Bool := w.toNat.testBit 51
/-- KIND of format P. -/
def kind (w : BitVec 64) : Bool := w.toNat.testBit 53
/-- NUMBER of format P. -/
def number (w : BitVec 64) : Nat := field w.toNat 41 12
/-- VERDICT of format V. -/
def verdict (w : BitVec 64) : Nat := field w.toNat 55 3
/-- REASON of format V. -/
def reason (w : BitVec 64) : Nat := field w.toNat 51 4
/-- BASE of format N. -/
def baseN (w : BitVec 64) : Nat := field w.toNat 35 14
/-- FIELD of format E. -/
def fieldE (w : BitVec 64) : Nat := field w.toNat 44 6
/-- BASE of format T. -/
def baseT (w : BitVec 64) : Nat := field w.toNat 51 3
/-- POINT of format T. -/
def point (w : BitVec 64) : Nat := field w.toNat 49 2
/-- HALF of format T. -/
def half (w : BitVec 64) : Bool := w.toNat.testBit 48
/-- B of format K. -/
def regK (w : BitVec 64) : Nat := field w.toNat 42 4

/-- The twelve formats (08 R315). -/
inductive Fmt where
  | r | i | c | b | l | w | p | v | n | e | t | k
deriving DecidableEq, Repr

/-- The bits a format reserves, as a mask (08 R315). -/
def reservedMask : Fmt → Nat
  | .r => 2 ^ 46 - 1
  | .i => 3 * 2 ^ 48
  | .c => 2 ^ 31 - 1
  | .b => 2 ^ 22 - 1
  | .l => 2 ^ 44 - 1
  | .w => 2 ^ 51 - 1
  | .p => 2 ^ 41 - 1
  | .v => 2 ^ 51 - 1
  | .n => (2 ^ 35 - 1) + 15 * 2 ^ 54
  | .e => (2 ^ 44 - 1) + 15 * 2 ^ 54
  | .t => 2 ^ 48 - 1
  | .k => 2 ^ 42 - 1

/-- The format of an opcode; none for a reserved one (08 R316). -/
def fmt (o : Nat) : Option Fmt :=
  if o = 0x01 ∨ o = 0x02 then some .c
  else if o = 0x04 ∨ o = 0x05 then some .i
  else if o = 0x07 then none
  else if o ≤ 0x0F then some .r
  else if o ≤ 0x17 then some .i
  else if o = 0x18 then some .r
  else if o = 0x19 then some .i
  else if o = 0x20 ∨ o = 0x21 ∨ o = 0x22 then some .b
  else if o = 0x28 then some .l
  else if o = 0x29 then some .w
  else if o = 0x2C then some .p
  else if o = 0x30 ∨ o = 0x31 then some .r
  else if o = 0x34 then some .v
  else if o = 0x38 then some .n
  else if o = 0x3A then some .e
  else if o = 0x3C then some .t
  else if o = 0x3E then some .k
  else none

/-- Whether a word is a listed opcode with its reserved bits 0 (08 R315, R316). -/
def legal (w : BitVec 64) : Bool :=
  match fmt (op w) with
  | some f => decide (w.toNat &&& reservedMask f = 0)
  | none => false

/-- Bits of the context: 384 bytes. -/
def ctxBits : Nat := 3072

/-- The faults of 08 R324 knowable from the word alone at an address, IDX and register values
left aside (08 R318, R324, R333); none where there is none. -/
def staticFault (w : BitVec 64) (addr : Nat) : Option Nat :=
  let o := op w
  if !legal w then some 1
  else if o = 0x20 ∧ 10 < d w then some 2
  else if o = 0x21 ∧ 1 < d w then some 2
  else if (o = 0x20 ∨ o = 0x21) ∧ target w ≤ addr then some 3
  else if o = 0x22 ∧ (target w ≤ addr ∨ 16383 < target w + limit w) then some 3
  else if (o = 0x01 ∨ o = 0x02) ∧ idx w = false ∧ ctxBits < offset w + width w then some 4
  else if (o = 0x28 ∨ o = 0x3E) ∧ 16 < keyReg w + keyWords w then some 4
  else if o = 0x29 ∧ wide w ∧ d w = 15 then some 4
  else if o = 0x02 ∧ idx w = false ∧ offset w < 2048 + 640 ∧ 2048 < offset w + width w then some 5
  else if o = 0x3A ∧ 5 < fieldE w then some 10
  else if o = 0x34 ∧ verdict w > 4 then some 13
  else none

end AWord

end Sys2Proof.Machine
end

