-- ==== Sys2Proof/Machine/Engine.lean ====
section
/-! DEFINITION. Polders, engines and contexts as data, the programs of an image, and the
accessors of a context (08 R296–R317). -/

namespace Sys2Proof.Machine
open Sys2Proof.Bits

/-- A lookup tag's state (08 R319): issued at a cycle after dispatch, to which table,
in HBM or on die, and the result once it is known: hit, word 0 and word 1. -/
structure LkTag where
  table : Nat
  hbm : Bool
  issued : Nat
  result : Option (Bool × BitVec 64 × BitVec 64)
  key : Bytes
deriving DecidableEq, Repr

/-- A context's condition (08 R299); a free context is an absent one. `done` is a context whose
verdict is taken or whose program has ended, holding its run slot to executed cycle 119. -/
inductive CtxCond where
  | running | parked | ready | done
deriving DecidableEq, Repr

/-- A frame context (08 R297). `frame` is the frame's number, `bytes` the 384 context bytes,
`parkAt` the cycle of the last park, `parked` the cycles spent parked and ready, `hbm` the HBM
accesses made, `age` the age of the request it is parked on, `readyAt` the cycle it became ready. -/
structure Ctx where
  frame : Nat
  cond : CtxCond
  bytes : Bytes
  regs : Tab (BitVec 64)
  z : Bool
  c : Bool
  s : Bool
  h : Bool
  pc : Nat
  tags : Tab LkTag
  executed : Nat
  bounded : Bool
  hbm : Nat
  lrn : Nat
  bindDone : Bool
  bindcDone : Bool
  nearBound : Bool
  parkAt : Nat
  parked : Nat
  age : Nat
  readyAt : Nat
  waitTag : Option Nat
  settled : Option (Nat × Nat)
deriving DecidableEq, Repr

/-- An engine (08 R297, R300): its contexts 0 to 2 and the cycle since which none runs. -/
structure Engine where
  ctxs : Tab Ctx
  idleSince : Nat
deriving DecidableEq, Repr

/-- A block of the program store (08 R329). -/
structure Block where
  slots : Nat
  bounded : Bool
  faulty : Bool
  words : Tab (BitVec 64)
deriving DecidableEq, Repr

/-- A polder's state (08 R339). -/
inductive PolderState where
  | asleep | waking | awake | removed | retired
deriving DecidableEq, Repr

/-- A polder (08 R296, R339). While it is removed or retired its store is not written, and `copy` holds what the
steward brings to it on its return: the blocks of the live ensigns (R337). -/
structure Polder where
  state : PolderState
  inService : BitVec 32
  blocks : Tab Block
  copy : Tab Block
deriving DecidableEq, Repr

/-- One count entry (08 R322). -/
structure CountEntry where
  frames : BitVec 64
  octets : BitVec 64
deriving DecidableEq, Repr

/-- A program-store command in progress (08 R341). -/
structure PldAccess where
  cmd : Nat
  all : Bool
  polder : Nat
  block : Nat
  word : Nat
  data : BitVec 64
deriving DecidableEq, Repr

/-- A free block. -/
def Block.empty : Block := { slots := 0, bounded := false, faulty := false, words := [] }

/-- A polder after reset: asleep, every engine in service (08 R339). -/
def Polder.reset : Polder := { state := .asleep, inService := 0xFFFFFFFF, blocks := [], copy := [] }

/-- An engine holding no frame. -/
def Engine.empty : Engine := { ctxs := [], idleSince := 0 }

namespace Polder

/-- Whether a polder is out of service: removed, or retired exactly as a removal does it (03 R133). -/
def out (p : Polder) : Bool := decide (p.state = .removed ∨ p.state = .retired)

/-- The blocks a change group acts on: the store, or the steward's copy of a polder out of service (08 R337). -/
def held (p : Polder) : Tab Block := if p.out then p.copy else p.blocks

/-- Those blocks changed. -/
def edit (p : Polder) (f : Tab Block → Tab Block) : Polder :=
  if p.out then { p with copy := f p.copy } else { p with blocks := f p.blocks }

/-- A polder leaving service: the steward keeps its blocks, none of them FAULTY in its copy. -/
def leave (p : Polder) (st : PolderState) : Polder :=
  { p with state := st, copy := if p.out then p.copy else Tab.mapv p.blocks (fun _ b => { b with faulty := false }) }

/-- A polder coming back asleep, every block of every live ensign written to it (08 R337). -/
def comeBack (p : Polder) : Polder := { p with state := .asleep, blocks := p.held, copy := [] }

/-- A block of a polder. -/
def block (p : Polder) (n : Nat) : Block := Tab.get (fun _ => Block.empty) p.blocks n

/-- The word at an address (08 R296). -/
def word (p : Polder) (addr : Nat) : BitVec 64 :=
  Tab.get (fun _ => 0) (p.block (addr / 64)).words (addr % 64)

end Polder

/-! ### The context (08 R297, R298, R311, R312) -/

namespace Ctx

/-- Register n; G0 reads 0 (08 R298). -/
def g (c : Ctx) (n : Nat) : BitVec 64 := if n = 0 then 0 else Tab.get (fun _ => 0) c.regs n

/-- Register n written; a write to G0 is discarded (08 R298). -/
def setG (c : Ctx) (n : Nat) (v : BitVec 64) : Ctx :=
  if n = 0 then c else { c with regs := Tab.put (fun _ => 0) c.regs n v }

/-- `width` bits of the context from bit `off`, most significant first (08 R311). -/
def ctxField (c : Ctx) (off width : Nat) : Nat :=
  let first := off / 8
  let last := (off + width + 7) / 8
  field (beAt c.bytes first (last - first)) (8 * last - off - width) width

/-- The same bits replaced. -/
def setCtxField (c : Ctx) (off width v : Nat) : Ctx :=
  let first := off / 8
  let last := (off + width + 7) / 8
  let n := last - first
  let old := beAt c.bytes first n
  { c with bytes := splice c.bytes first (beBytes n (setField old (8 * last - off - width) width v)) }

/-- Metadata bytes as a number, big-endian (08 R312). -/
def meta_ (c : Ctx) (off n : Nat) : Nat := beAt c.bytes (256 + off) n

/-- Metadata bytes written. -/
def setMeta (c : Ctx) (off n v : Nat) : Ctx :=
  { c with bytes := splice c.bytes (256 + off) (beBytes n v) }

/-- The ensign slot of the frame. -/
def slot (c : Ctx) : Nat := field (c.meta_ 0 2) 12 2
/-- The pair. -/
def pair (c : Ctx) : Nat := c.meta_ 2 1
/-- Whether the frame runs in the decrypt direction. -/
def dec (c : Ctx) : Bool := (c.meta_ 3 1).testBit 7
/-- The mode field. -/
def mode (c : Ctx) : Nat := field (c.meta_ 3 1) 5 2
/-- LEN_FINAL. -/
def lenFinal (c : Ctx) : Bool := (c.meta_ 3 1).testBit 3
/-- FRAME_LEN. -/
def frameLen (c : Ctx) : Nat := c.meta_ 4 2

/-- The program counter moved on by one word, which takes one executed cycle (08 R302). -/
def advance (c : Ctx) : Ctx := { c with pc := c.pc + 1, executed := c.executed + 1 }

/-- The program counter at a branch target. -/
def goto_ (c : Ctx) (t : Nat) : Ctx := { c with pc := t, executed := c.executed + 1 }

end Ctx

/-- What one action word does to its context: a new context, or a program fault with its reason
code (08 R324). -/
inductive WordOut where
  | next (c : Ctx)
  | fault (reason : Nat)
deriving DecidableEq, Repr

/-! ### The ACTION_PROGRAM record (08 R332) -/

/-- One entry of the record's entry table. -/
structure ProgEntry where
  addr : Nat
  bounded : Bool
  hbm : Nat
  worst : Nat
deriving DecidableEq, Repr

namespace Program

/-- The entry table. -/
def entries (b : Bytes) : List ProgEntry :=
  (List.range (leAt b 4 2)).map (fun e =>
    { addr := leAt b (16 + 8 * e) 2, bounded := (leAt b (16 + 8 * e + 2) 1).testBit 0,
      hbm := leAt b (16 + 8 * e + 3) 1, worst := leAt b (16 + 8 * e + 4) 2 })

/-- Where block i of the record lies. -/
def blockAt (b : Bytes) (i : Nat) : Nat := 16 + 8 * leAt b 4 2 + 520 * i

/-- The record's blocks by number, with the given SLOTS. -/
def blocks (b : Bytes) (slotBit : Nat) : Tab Block :=
  (List.range (leAt b 6 2)).foldl (fun acc i =>
    let o := blockAt b i
    Tab.ins acc (leAt b o 2)
      { slots := slotBit, bounded := (leAt b (o + 2) 1).testBit 0, faulty := false,
        words := (List.range 64).foldl (fun ws k =>
          Tab.put (fun _ => 0) ws k (BitVec.ofNat 64 (leAt b (o + 8 + 8 * k) 8))) [] }) []

/-- Whether the record's layout holds (08 R332). -/
def layoutOk (b : Bytes) : Bool :=
  let ne := leAt b 4 2
  let nb := leAt b 6 2
  let nums := (List.range nb).map (fun i => leAt b (blockAt b i) 2)
  decide (leAt b 0 2 = 1 ∧ leAt b 2 2 < 4096 ∧ 1 ≤ ne ∧ ne ≤ 4096 ∧ 1 ≤ nb ∧ nb ≤ 256 ∧
    leAt b 8 8 = 0 ∧ b.length = 16 + 8 * ne + 520 * nb) &&
  (List.range ne).all (fun e =>
    let o := 16 + 8 * e
    decide (leAt b o 2 < 16384 ∧ leAt b (o + 2) 1 < 2 ∧ leAt b (o + 3) 1 ≤ 2 ∧
      1 ≤ leAt b (o + 4) 2 ∧ leAt b (o + 4) 2 ≤ 120 ∧ leAt b (o + 6) 2 = 0) &&
    ((leAt b (o + 2) 1).testBit 0 || decide (leAt b (o + 3) 1 = 0))) &&
  (List.range nb).all (fun i =>
    let o := blockAt b i
    decide (leAt b o 2 < 256 ∧ leAt b (o + 2) 1 < 2 ∧ leAt b (o + 3) 5 = 0)) &&
  decide nums.Nodup

/-- A path's state on reaching a word (08 R333): executed cycles, the remaining on-die wait of
each tag (none where nothing is issued on die), the tags waiting on HBM, the HBM accesses made. -/
structure Path where
  cycles : Nat
  waits : List (Nat × Nat)
  hbmTags : List Nat
  hbm : Nat
deriving DecidableEq, Repr

/-- One word taken by a path, `cost` cycles long: waits run down. -/
def Path.spend (p : Path) (cost : Nat) : Path :=
  { p with cycles := p.cycles + cost, waits := p.waits.map (fun w => (w.1, w.2 - cost)) }

/-- The states in which a path leaves a word, with the addresses it goes to; none where the word
breaks 08 R310 in a BOUNDED program or reaches an HBM table in a FIXED one. -/
def pathStep (isHbm : Nat → Bool) (bounded : Bool) (w : BitVec 64) (addr : Nat) (p : Path) :
    Option (List (Nat × Path)) :=
  let o := AWord.op w
  if o = 0x34 then some []
  else if o = 0x20 then
    let q := p.spend 1
    if AWord.d w = 0 then some [(AWord.target w, q)] else some [(AWord.target w, q), (addr + 1, q)]
  else if o = 0x21 then some [(AWord.target w, p.spend 1), (addr + 1, p.spend 1)]
  else if o = 0x22 then
    some ((List.range (AWord.limit w + 1)).map (fun i => (AWord.target w + i, p.spend 1)))
  else if o = 0x28 then
    let t := AWord.tagL w
    if isHbm (AWord.table w) then
      if bounded = false then none
      else if p.hbmTags ≠ [] ∨ 2 ≤ p.hbm then none
      else some [(addr + 1, { (p.spend 1) with hbmTags := [t], hbm := p.hbm + 1 })]
    else
      let q := p.spend 1
      some [(addr + 1, { q with waits := (t, 11) :: q.waits.filter (fun x => decide (x.1 ≠ t)) })]
  else if o = 0x29 then
    let t := AWord.tagW w
    let wait := match p.waits.find? (fun x => decide (x.1 = t)) with
      | some x => x.2
      | none => 0
    let q := p.spend (wait + 1)
    some [(addr + 1, { q with waits := q.waits.filter (fun x => decide (x.1 ≠ t)),
                              hbmTags := q.hbmTags.filter (fun x => decide (x ≠ t)) })]
  else if o = 0x30 then
    if bounded then
      if p.hbmTags ≠ [] ∨ 2 ≤ p.hbm then none
      else some [(addr + 1, { (p.spend 1) with hbm := p.hbm + 1 })]
    else some [(addr + 1, p.spend 1)]
  else some [(addr + 1, p.spend 1)]

/-- The cycles a path has used once it has executed the word at hand: VERD ends it. -/
def endCycles (p : Path) : Nat := p.cycles + 1

/-- Paths sorted into the addresses they reach. -/
def addPath (t : Tab (List Path)) (e : Nat × Path) : Tab (List Path) :=
  let old := Tab.get (fun _ => []) t e.1
  if old.contains e.2 then t else Tab.ins t e.1 (e.2 :: old)

/-- The walk from an entry in order of address, `fuel` addresses: answers the most cycles and
accesses of any path, or none where a path is bad (08 R333). -/
def walk (isHbm : Nat → Bool) (blks : Tab Block) (bounded : Bool) :
    Nat → Tab (List Path) → Nat × Nat → Option (Nat × Nat)
  | 0, [], best => some best
  | 0, _ :: _, _ => none
  | fuel + 1, work, best =>
    match work with
    | [] => some best
    | (addr, paths) :: rest =>
      match Tab.find blks (addr / 64) with
      | none => none
      | some blk =>
        let w := Tab.get (fun _ => 0) blk.words (addr % 64)
        if AWord.staticFault w addr ≠ none then none
        else if bounded = false ∧ blk.bounded then none
        else
          let outs := paths.map (fun p => pathStep isHbm bounded w addr p)
          if outs.any (fun o => o.isNone) then none
          else
            let succ : List (Nat × Path) := (outs.map (fun o => o.getD [])).flatten
            let best' := paths.foldl (fun b p =>
              (max b.1 (if AWord.op w = 0x34 then endCycles p else p.cycles), max b.2 p.hbm)) best
            if succ.any (fun (e : Nat × Path) => decide (120 ≤ e.2.cycles)) then none
            else walk isHbm blks bounded fuel (succ.foldl addPath rest) best'

/-- The walk of one entry passes (08 R333). -/
def entryOk (isHbm : Nat → Bool) (blks : Tab Block) (e : ProgEntry) : Bool :=
  match Tab.find blks (e.addr / 64) with
  | none => false
  | some blk =>
    decide (blk.bounded = e.bounded) &&
    (match walk isHbm blks e.bounded 16384
        [(e.addr, [{ cycles := 0, waits := [], hbmTags := [], hbm := 0 }])] (0, 0) with
     | none => false
     | some (c, h) => decide (c ≤ e.worst ∧ (e.bounded = false ∨ h ≤ e.hbm)))

/-- The record passes 08 R332 and R333, its companion RULE_SET's PROGRAM values aside. -/
def ok (isHbm : Nat → Bool) (b : Bytes) : Bool :=
  layoutOk b && (entries b).all (entryOk isHbm (blocks b 0))

end Program

end Sys2Proof.Machine
end

