-- ==== Sys2Proof/Machine/CipherFn.lean ====
section
/-! DEFINITION. What the cipher pipes compute for one frame: the IV, the SecTAG, the split into
AAD and ciphertext, protection and its reverse in every mode, and the block count (11 R420–R430);
the framing of an Ndoath header they share with the framer (06 R208–R217). -/

namespace Sys2Proof.Machine
open Sys2Proof.Bits

/-- The key material a cell delivers (11 R424). -/
structure CipherKey where
  key : Bytes
  salt : Bytes
  ssci : Nat
deriving DecidableEq, Repr

namespace CipherFn

/-- The IV of a line or tunnel frame (11 R422). -/
def ivEth (b : Binding) (k : CipherKey) : Bytes :=
  if 2 ≤ b.suite then xorBytes (beBytes 4 k.ssci ++ beBytes 8 b.pn) (padTo k.salt 12)
  else beBytes 8 b.sci ++ beBytes 4 b.pn

/-- The nonce of a trunk frame (06 R217, 11 R423). -/
def ivTrunk (dev chan pn : Nat) : Bytes := beBytes 2 dev ++ beBytes 3 chan ++ beBytes 7 pn

/-- The SecTAG the pipes write (11 R427, 05 R191); `txSci` is 0 in tunnel mode (R425). -/
def secTag (b : Binding) (txSci sdLen : Nat) : Bytes :=
  let tci := pack [(b2n (decide (txSci = 1)), 6, 1), (b2n (decide (txSci = 0)), 5, 1),
    (b2n (decide (txSci = 2)), 4, 1), (b2n b.conf, 3, 1), (b2n b.conf, 2, 1), (b.an, 0, 2)]
  [0x88, 0xE5, BitVec.ofNat 8 tci, BitVec.ofNat 8 (if sdLen < 48 then sdLen else 0)] ++
    beBytes 4 b.pn ++ (if txSci = 0 then beBytes 8 b.sci else [])

/-- How many bytes of secure data join the AAD (11 R426). -/
def clearLen (b : Binding) (sdLen : Nat) : Nat :=
  let off := if b.offset = 1 then 30 else if b.offset = 2 then 50 else 0
  if b.conf ∧ off < sdLen then off else sdLen

/-- Where the SecTAG goes (11 R425). -/
def tagPos (mode outerLen : Nat) : Nat := if mode = 2 ∧ 12 ≤ outerLen then outerLen else 12

/-- The AAD of a line or tunnel frame (11 R426). -/
def aadEth (mode : Nat) (pre tag sd : Bytes) (cut : Nat) : Bytes :=
  (if mode = 1 then pre else []) ++ tag ++ sd.take cut

/-- Block slots of a frame (11 R430). -/
def blocks (a c : Nat) : Nat := (a + 15) / 16 + (c + 15) / 16 + 1

/-- A protected Ethernet frame without its FCS, and its block slots. -/
def protectEth (b : Binding) (k : CipherKey) (txSci outerLen : Nat) (plain : Bytes) : Bytes × Nat :=
  let t := tagPos b.mode outerLen
  let pre := plain.take t
  let sd := plain.drop t
  let tag := secTag b txSci sd.length
  let cut := clearLen b sd.length
  let aad := aadEth b.mode pre tag sd cut
  let (c, icv) := Crypto.gcmSeal k.key (ivEth b k) aad (sd.drop cut)
  (pre ++ tag ++ sd.take cut ++ c ++ icv, blocks aad.length c.length)

/-- A received Ethernet frame undone: the plain frame, whether its tag verifies, block slots
(11 R429, R431). `t` is the place of the SecTAG. -/
def unprotectEth (b : Binding) (k : CipherKey) (t : Nat) (frame : Bytes) : Bytes × Bool × Nat :=
  let pre := frame.take t
  let tagLen := if (frame.getD (t + 2) 0).getLsbD 5 then 16 else 8
  let tag := slice frame t tagLen
  let rest := frame.drop (t + tagLen)
  let sd := rest.take (rest.length - 16)
  let icv := rest.drop (rest.length - 16)
  let cut := clearLen b sd.length
  let aad := aadEth b.mode pre tag sd cut
  let c := sd.drop cut
  let iv := ivEth b k
  (pre ++ sd.take cut ++ Crypto.gcmCrypt k.key iv c,
    decide (Crypto.gcmTag k.key iv aad c = icv), blocks aad.length c.length)

/-- A core header with its HEC (06 R208, R210). -/
def coreHeader (len typ an pad : Nat) : Bytes :=
  let h := beBytes 2 len ++ [BitVec.ofNat 8 (typ * 16 + an * 4), BitVec.ofNat 8 pad]
  h ++ beBytes 2 (crc16 h ^^^ 0xB6AB)

/-- The least PAD that meets 06 R211, at least `least`. -/
def padFor (len least : Nat) : Nat :=
  let p := (4 - (6 + len + least) % 4) % 4
  least + p

/-- The payload before DATA (06 R216); `circuit` is the circuit number and SEQ. -/
def payloadHead (chan pn : Nat) (circuit : Option (Nat × Nat)) : Bytes :=
  beBytes 3 chan ++ beBytes 7 pn ++
    (match circuit with
     | some (c, q) => beBytes 4 (c * 2 ^ 20 + q)
     | none => [])

/-- The AAD of a trunk frame: PAD and the reserved bits taken as 0 (11 R426, R428). -/
def aadTrunk (len typ an : Nat) (head : Bytes) : Bytes :=
  beBytes 2 len ++ [BitVec.ofNat 8 (typ * 16 + an * 4), 0] ++ head

/-- A protected trunk frame: header with the least PAD, payload and PAD, and block slots. -/
def protectTrunk (dev : Nat) (b : Binding) (k : CipherKey) (circuit : Option (Nat × Nat))
    (plain : Bytes) : Bytes × Nat :=
  let typ := if circuit.isSome then 2 else 1
  let head := payloadHead b.trunkChannel b.pn circuit
  let len := head.length + plain.length + 16
  let pad := padFor len (if circuit.isSome then 8 else 0)
  let aad := aadTrunk len typ b.an head
  let (c, icv) := Crypto.gcmSeal k.key (ivTrunk dev b.trunkChannel b.pn) aad plain
  (coreHeader len typ b.an pad ++ head ++ c ++ icv ++ zeros pad, blocks aad.length c.length)

/-- A CLEAR frame (06 R220, R221). -/
def clearTrunk (plain : Bytes) : Bytes :=
  let pad := padFor plain.length 0
  coreHeader plain.length 5 0 pad ++ plain ++ zeros pad

/-- A received trunk frame undone: DATA, whether its tag verifies, block slots. `typ`, `an`, `len`
come from its core header and `payload` is its LENGTH bytes. -/
def unprotectTrunk (dev chan pn typ an : Nat) (k : CipherKey) (payload : Bytes) :
    Bytes × Bool × Nat :=
  let hl := if typ = 2 then 14 else 10
  let head := payload.take hl
  let c := slice payload hl (payload.length - hl - 16)
  let icv := payload.drop (payload.length - 16)
  let aad := aadTrunk payload.length typ an head
  let iv := ivTrunk dev chan pn
  (Crypto.gcmCrypt k.key iv c, decide (Crypto.gcmTag k.key iv aad c = icv),
    blocks aad.length c.length)

/-- The output frame of 08 R313 from a frame's bytes: OUT, then the frame from CUT on. -/
def output (out : Bytes) (outerLen cut : Nat) (frame : Bytes) : Bytes :=
  out.take outerLen ++ frame.drop cut

/-- The ones' complement of the FCS of the bytes already sent (11 R444). -/
def stompFcs (sent : Bytes) : Bytes := (fcs sent).map (fun b => b ^^^ 0xFF)

/-- A stomped trunk frame: DATA bytes not yet sent become 0x00 and the ICV bytes not yet sent are complemented (11 R444); a
CLEAR frame has no ICV. `sent` bytes of the frame are out. -/
def stompTrunk (sent : Nat) (frame : Bytes) : Bytes :=
  let len := beAt frame 0 2
  let typ := (frame.getD 2 0).toNat / 16
  let icv := if typ = 5 then 0 else 16
  let head := if typ = 5 then 6 else if typ = 2 then 20 else 16
  let icvAt := 6 + len - icv
  let data := (List.range icvAt).map (fun i => if i < sent ∨ i < head then frame.getD i 0 else 0)
  let tag := (List.range icv).map (fun i => let b := frame.getD (icvAt + i) 0; if icvAt + i < sent then b else b ^^^ 0xFF)
  data ++ tag ++ frame.drop (6 + len)

end CipherFn

end Sys2Proof.Machine
end

