-- ==== Sys2Proof/Machine/Parse.lean ====
section
/-! DEFINITION. The classifier's stores and what they compute: the parse graph, the key, the
TCAM, the patterns, the fragment-follow table and the checks on accesses (07). -/

namespace Sys2Proof.Machine
open Sys2Proof.Bits

/-- The states of an ensign slot (07 R279). -/
inductive SlotState where
  | free | opening | pending | current | retiring | sweeping
deriving DecidableEq, Repr

/-- One ensign slot: its state, its number, its parse nodes (96 bytes each) and pair table
(16 bytes each), and the nodes found faulty, encrypt nodes by number and decrypt nodes from 256
up (07 R262, R279, R288, R290). -/
structure ClsSlot where
  state : SlotState
  ensign : Nat
  nodesEnc : Tab Bytes
  nodesDec : Tab Bytes
  pairs : Tab Bytes
  faulty : List Nat
deriving DecidableEq, Repr

/-- A TCAM entry (07 R269, R270). -/
structure TcamEntry where
  value : BitVec 640
  mask : BitVec 640
  result : BitVec 64
  slots : Nat
  disabled : Bool
deriving DecidableEq, Repr

/-- A payload pattern (07 R273). -/
structure Pattern where
  value : Bytes
  mask : Bytes
  length : Nat
  group : Nat
  enc : Bool
  dec : Bool
  minStart : Nat
  maxStart : Nat
  slots : Nat
  disabled : Bool
deriving DecidableEq, Repr

/-- A fragment-follow entry (07 R276, R277): its key, the class, the arrival cycle from which the
class is visible and the class visible before that, and the cycle of its insertion or refresh. -/
structure FollowEntry where
  key : Bytes
  cls : Nat
  visible : Nat
  older : Option Nat
  at_ : Nat
deriving DecidableEq, Repr

/-- A classifier access in progress (07 R294). -/
structure ClsAccess where
  cmd : Nat
  store : Nat
  slot : Nat
  index : Nat
  data : List Word
deriving DecidableEq, Repr

/-- The classifier. -/
structure Cls where
  slots : Tab ClsSlot
  tcamEnc : Tab TcamEntry
  tcamDec : Tab TcamEntry
  patterns : Tab Pattern
  hitEnc : Tab Word
  hitDec : Tab Word
  followEnc : Tab FollowEntry
  followDec : Tab FollowEntry
  acc : Option ClsAccess
deriving DecidableEq, Repr

/-- The TCAM entry the stores hold where nothing was written. -/
def TcamEntry.empty : TcamEntry :=
  { value := 0, mask := 0, result := 0, slots := 0, disabled := false }

/-- The pattern the stores hold where nothing was written. -/
def Pattern.empty : Pattern :=
  { value := [], mask := [], length := 0, group := 0, enc := false, dec := false,
    minStart := 0, maxStart := 0, slots := 0, disabled := false }

/-- An unused slot. -/
def ClsSlot.empty : ClsSlot :=
  { state := .free, ensign := 0, nodesEnc := [], nodesDec := [], pairs := [], faulty := [] }

/-- The classifier holding nothing. -/
def Cls.empty : Cls :=
  { slots := [], tcamEnc := [], tcamDec := [], patterns := [], hitEnc := [], hitDec := [],
    followEnc := [], followDec := [], acc := none }

namespace Cls

/-- A slot. -/
def slot (c : Cls) (n : Nat) : ClsSlot := Tab.get (fun _ => ClsSlot.empty) c.slots n

/-- A slot replaced. -/
def setSlot (c : Cls) (n : Nat) (v : ClsSlot) : Cls :=
  { c with slots := Tab.put (fun _ => ClsSlot.empty) c.slots n v }

/-- The slots in a state, lowest first. -/
def slotsIn (c : Cls) (st : SlotState) : List Nat :=
  [0, 1, 2, 3].filter (fun n => decide ((c.slot n).state = st))

/-- The slot in a state. -/
def theSlot (c : Cls) (st : SlotState) : Option Nat := (c.slotsIn st).head?

/-- Whether an ensign number is borne by a slot that is not FREE (07 R286). -/
def live (c : Cls) (num : Nat) : Bool :=
  [0, 1, 2, 3].any (fun n => decide ((c.slot n).state ≠ .free ∧ (c.slot n).ensign = num))

/-- Whether an ensign command or sweep runs (07 R280). -/
def ensignBusy (c : Cls) : Bool :=
  !(c.slotsIn .opening).isEmpty || !(c.slotsIn .sweeping).isEmpty

/-- The TCAM of a direction. -/
def tcam (c : Cls) (dec : Bool) : Tab TcamEntry := if dec then c.tcamDec else c.tcamEnc

/-- The TCAM of a direction replaced. -/
def setTcam (c : Cls) (dec : Bool) (t : Tab TcamEntry) : Cls :=
  if dec then { c with tcamDec := t } else { c with tcamEnc := t }

/-- The follow table of a direction. -/
def follow (c : Cls) (dec : Bool) : Tab FollowEntry := if dec then c.followDec else c.followEnc

/-- The follow table of a direction replaced. -/
def setFollow (c : Cls) (dec : Bool) (t : Tab FollowEntry) : Cls :=
  if dec then { c with followDec := t } else { c with followEnc := t }

/-- A parse node's 96 bytes in a slot's graph of a direction. -/
def node (c : Cls) (slotN : Nat) (dec : Bool) (n : Nat) : Bytes :=
  let sl := c.slot slotN
  Tab.get (fun _ => zeros 96) (if dec then sl.nodesDec else sl.nodesEnc) n

/-- A pair-table entry's 16 bytes (07 R290). -/
def pairEntry (c : Cls) (slotN pair : Nat) : Bytes :=
  Tab.get (fun p => BitVec.ofNat 8 p :: zeros 15) (c.slot slotN).pairs pair

/-- A faulty node's number in `ClsSlot.faulty`. -/
def faultyKey (dec : Bool) (n : Nat) : Nat := if dec then 256 + n else n

end Cls

/-! ### The parse (07 R259–R266) -/

/-- The reasons of 07 R266. -/
inductive ParseFail where
  | truncated | badLength | hopLimit | failNode | sectag | role | nodeParity
deriving DecidableEq, Repr

/-- What an IPV4 or IPV6_FRAG header said of fragments (07 R264). -/
structure FragInfo where
  v6 : Bool
  proto : Nat
  ident : Nat
  more : Bool
  offset : Nat
  src : Nat
  dst : Nat
deriving DecidableEq, Repr

/-- The outcome of a parse. -/
structure Parsed where
  fail : Option ParseFail
  fields : Nat
  endNode : Nat
  hops : Nat
  nodeFlags : Nat
  cut : Bool
  frag : Option FragInfo
  ip6 : Option (Nat × Nat)
  sectag : Option Nat
  next : Nat
  start : Nat
  done : Bool
deriving DecidableEq, Repr

namespace Parse

/-- The window as one number: the frame's bytes to the window's end, then zeros to reach any
field (07 R261, R263). Bits of the window behind the end of the frame read as 0 too (DESIGN CHOICE, log entry 98). -/
def windowNat (frame : Bytes) (win : Nat) : Nat := beNat (sliceZ (frame.take win) 0 win)

/-- `width` bits from bit `pos` of the window, most significant first; bits beyond are 0. -/
def fld (w win pos width : Nat) : Nat :=
  let total := 8 * win
  if pos + width ≤ total then field w (total - pos - width) width
  else (w * 2 ^ (pos + width - total)) % 2 ^ width

/-- One extract into FIELDS, bit 639 of the key being FIELDS bit 511 (07 R262, R263). -/
def extract (w win b0 : Nat) (nd : Bytes) (fields x : Nat) : Nat :=
  let o := 16 + 6 * x
  let width := leAt nd (o + 2) 1
  let dest := leAt nd (o + 4) 2
  if width = 0 ∨ 512 < dest + width then fields
  else setField fields (512 - dest - width) width (fld w win (b0 + leAt nd o 2) width)

/-- The next node a select field gives (07 R263). -/
def select (w win b0 : Nat) (nd : Bytes) : Nat :=
  let deflt := leAt nd 11 1
  let sw := leAt nd 10 1
  if sw = 0 then deflt
  else
    let sel := fld w win (b0 + leAt nd 8 2) sw
    match (List.range (leAt nd 12 1)).find? (fun t =>
        decide ((sel &&& leAt nd (42 + 6 * t) 2) = (leAt nd (40 + 6 * t) 2 &&& leAt nd (42 + 6 * t) 2))) with
    | some t => leAt nd (44 + 6 * t) 1
    | none => deflt

/-- The header's length, by its role (07 R263, R264). A role's bits beyond the window read as 0, as a field's do (DESIGN
CHOICE, log entry 98). -/
def headerLen (w win b0 : Nat) (nd : Bytes) : Nat :=
  if leAt nd 0 1 = 4 then (if fld w win (b0 + 18) 1 = 1 then 16 else 8)
  else if leAt nd 6 1 = 0 then leAt nd 2 2
  else fld w win (b0 + leAt nd 4 2) (leAt nd 6 1) * 2 ^ leAt nd 7 1 + leAt nd 2 2

/-- Whether a SecTAG is refused (05 R192): V set, SC with ES or SCB, or an SL against the secure
data length `sd` (log entry 11: the standard gives the rule for SL). -/
def badSectag (tci sl sd : Nat) : Bool :=
  tci.testBit 7 || (tci.testBit 5 && (tci.testBit 6 || tci.testBit 4)) || decide (48 ≤ sl) ||
    (if sl = 0 then decide (sd < 48) else decide (sl ≠ sd))

/-- What the roles IPV4 and IPV6_FRAG record (07 R264), bits beyond the window read as 0 (DESIGN CHOICE, log entry
98). -/
def fragOf (w win b0 role : Nat) (ip6 : Option (Nat × Nat)) (old : Option FragInfo) :
    Option FragInfo :=
  if role = 1 then
    some { v6 := false, proto := fld w win (b0 + 72) 8, ident := fld w win (b0 + 32) 16,
           more := decide (fld w win (b0 + 50) 1 = 1), offset := fld w win (b0 + 51) 13,
           src := fld w win (b0 + 96) 32, dst := fld w win (b0 + 128) 32 }
  else if role = 3 then
    match ip6 with
    | some (sa, da) =>
      some { v6 := true, proto := fld w win b0 8, ident := fld w win (b0 + 32) 32,
             more := decide (fld w win (b0 + 31) 1 = 1), offset := fld w win (b0 + 16) 13,
             src := sa, dst := da }
    | none => old
  else old

/-- One header (07 R263–R266). `frameLen` is the frame's length from window byte 0. Of several reasons within one node the
first of NODE_PARITY, FAIL_NODE, BAD_LENGTH, TRUNCATED, ROLE and SECTAG fails the parse (DESIGN CHOICE, log entry
98). -/
def header (nodes : Nat → Bytes) (faulty : Nat → Bool) (w win frameLen : Nat) (p : Parsed) :
    Parsed :=
  let n := p.next
  if p.done then p
  else if n = 0xFF then { p with done := true }
  else if win ≤ p.start then { p with endNode := n, cut := true, done := true }
  else if p.hops = 16 then { p with endNode := n, fail := some .hopLimit, done := true }
  else
    let nd := nodes n
    let role := leAt nd 0 1
    let b0 := 8 * p.start
    let len := headerLen w win b0 nd
    let p := { p with endNode := n, hops := p.hops + 1,
                      nodeFlags := p.nodeFlags ||| (leAt nd 1 1 % 64) }
    if faulty n then { p with fail := some .nodeParity, done := true }
    else if role = 5 then { p with fail := some .failNode, done := true }
    else if len = 0 ∨ 256 < len then { p with fail := some .badLength, done := true }
    else if p.start + len ≤ win ∧ frameLen < p.start + len then
      { p with fail := some .truncated, done := true }
    else if role = 3 ∧ p.ip6 = none then { p with fail := some .role, done := true }
    else if role = 4 ∧ badSectag (fld w win (b0 + 16) 8) (fld w win (b0 + 26) 6)
        (frameLen - p.start - len) then
      { p with fail := some .sectag, done := true }
    else
      let frag := fragOf w win b0 role p.ip6 p.frag
      let stopFrag := decide (role = 1 ∨ role = 3) &&
        (match frag with
         | some f => decide (f.offset ≠ 0)
         | none => false)
      let past := decide (win < p.start + len)
      { p with
        fields := [0, 1, 2, 3].foldl (extract w win b0 nd) p.fields
        frag := frag
        ip6 := if role = 2 then some (fld w win (b0 + 64) 128, fld w win (b0 + 192) 128) else p.ip6
        sectag := if role = 4 then some p.start else p.sectag
        cut := past
        next := select w win b0 nd
        start := p.start + len
        done := past || stopFrag }

/-- A parse before its first header. -/
def start (node : Nat) : Parsed :=
  { fail := none, fields := 0, endNode := node, hops := 0, nodeFlags := 0, cut := false,
    frag := none, ip6 := none, sectag := none, next := node, start := 0, done := false }

/-- The parse from a start node: at most 17 headers, so 18 turns decide it (07 R263, R266). -/
def run (nodes : Nat → Bytes) (faulty : Nat → Bool) (frame : Bytes) (win frameLen first : Nat) :
    Parsed :=
  Nat.repeat (header nodes faulty (windowNat frame win) win frameLen) 18 (start first)

/-- The node that a parse uses for its header number `hop`, if it comes so far (07 R288). -/
def nodeUsed (nodes : Nat → Bytes) (faulty : Nat → Bool) (frame : Bytes) (win frameLen first hop : Nat) : Option Nat :=
  let p := Nat.repeat (header nodes faulty (windowNat frame win) win frameLen) hop (start first)
  if p.done = false ∧ p.next ≠ 0xFF ∧ p.start < win ∧ p.hops < 16 then some p.next else none

end Parse

/-! ### Patterns (07 R273, R274) -/

namespace Pattern

/-- Whether the pattern's bytes stand at window byte `s` (07 R273). -/
def at_ (p : Pattern) (frame : Bytes) (win s : Nat) : Bool :=
  decide (s + p.length ≤ win ∧ s + p.length ≤ frame.length) &&
    (List.range p.length).all (fun j =>
      decide (((frame.getD (s + j) 0) &&& (p.mask.getD j 0)) =
        ((p.value.getD j 0) &&& (p.mask.getD j 0))))

/-- The first start at which a pattern matches a frame, `from_` being the byte after the last
parsed header. -/
def hit (p : Pattern) (dec : Bool) (slot : Nat) (frame : Bytes) (win from_ : Nat) : Option Nat :=
  if (if dec then p.dec else p.enc) && p.slots.testBit slot && !p.disabled then
    ((List.range (p.maxStart - p.minStart + 1)).map (fun i => from_ + p.minStart + i)).find?
      (fun s => p.at_ frame win s)
  else none

/-- Every pattern that matches: its number, group and first start (07 R274). -/
def hits (t : Tab Pattern) (dec : Bool) (slot : Nat) (frame : Bytes) (win from_ : Nat) :
    List (Nat × Nat × Nat) :=
  t.filterMap (fun e => (e.2.hit dec slot frame win from_).map (fun s => (e.1, e.2.group, s)))

end Pattern

/-! ### The key (07 R267, R268) -/

/-- What goes into the key beside the parse. -/
structure KeyIn where
  pair : Nat
  dec : Bool
  mode : Nat
  portTag : Nat
  lengthBin : Nat
  peer : Nat
  trunkType : Nat
  clear : Bool
  circuit : Bool
deriving DecidableEq, Repr

/-- Key FLAGS (07 R268). `follow` is none when the frame is no later fragment. -/
def keyFlags (k : KeyIn) (p : Parsed) (follow : Option Bool) (patHit : Bool) (sc : Bool) : Nat :=
  let f := p.frag
  let isFrag := match f with
    | some i => decide (i.offset ≠ 0) || i.more
    | none => false
  let first := match f with
    | some i => decide (i.offset = 0) && i.more
    | none => false
  pack [(b2n p.cut, 0, 1), (b2n isFrag, 1, 1), (b2n first, 2, 1),
    (b2n (follow = some true), 3, 1), (b2n (follow = some false), 4, 1),
    (b2n p.sectag.isSome, 5, 1), (b2n sc, 6, 1), (b2n patHit, 7, 1), (b2n k.clear, 8, 1),
    (b2n k.circuit, 9, 1), (p.nodeFlags, 10, 6)]

/-- The 640-bit key (07 R267). -/
def keyOf (k : KeyIn) (p : Parsed) (flags followClass : Nat) (hits : List (Nat × Nat × Nat)) :
    BitVec 640 :=
  BitVec.ofNat 640 (pack [(p.fields, 128, 512),
    ((hits.head?.map Prod.fst).getD 0, 116, 12),
    (maskOf 16 (fun g => hits.any (fun h => decide (h.2.1 = g))), 100, 16),
    (k.peer, 84, 16), (k.trunkType, 80, 4), (p.endNode, 72, 8), (p.hops - 1, 68, 4),
    (flags, 52, 16), (followClass, 40, 12), (k.lengthBin, 32, 8), (k.portTag, 16, 16),
    (b2n k.dec, 7, 1), (k.mode, 5, 2), (k.pair, 0, 5)])

/-- Whether an entry matches a key for a slot (07 R269). -/
def TcamEntry.matches_ (e : TcamEntry) (key : BitVec 640) (slot : Nat) : Bool :=
  decide (key &&& e.mask = e.value &&& e.mask) && e.slots.testBit slot && !e.disabled

/-- The winning entry: the matching one with the lowest index (07 R269). -/
def tcamWin (t : Tab TcamEntry) (key : BitVec 640) (slot : Nat) : Option (Nat × TcamEntry) :=
  t.find? (fun e => e.2.matches_ key slot)

/-! ### The fragment-follow table (07 R275–R277) -/

/-- The 40-byte follow key. -/
def followKey (pair : Nat) (dec : Bool) (f : FragInfo) : Bytes :=
  [BitVec.ofNat 8 pair, BitVec.ofNat 8 (b2n dec + 2 * b2n f.v6), BitVec.ofNat 8 f.proto, 0] ++
    beBytes 4 f.ident ++ beBytes 16 f.src ++ beBytes 16 f.dst

/-- The first way of the set of a follow key. -/
def followSet (key : Bytes) : Nat := (crc32 key % 8192) * 4

/-- The way that holds a key, if any. -/
def followWay (t : Tab FollowEntry) (key : Bytes) : Option (Nat × FollowEntry) :=
  [0, 1, 2, 3].findSome? (fun i =>
    match Tab.find t (followSet key + i) with
    | some e => if e.key = key then some (followSet key + i, e) else none
    | none => none)

/-- The class a hit gives a frame that arrived at cycle `arr`, none for a miss: the entry must be
within `limit` cycles of its insertion or refresh (07 R276, R277). -/
def followHit (e : FollowEntry) (arr limit : Nat) : Option Nat :=
  if limit < arr - e.at_ then none
  else if e.visible ≤ arr then some e.cls
  else e.older

/-- Recording a class under a key; answers the table and whether a way was evicted. -/
def followRecord (t : Tab FollowEntry) (key : Bytes) (cls arr limit : Nat) :
    Tab FollowEntry × Bool :=
  match followWay t key with
  | some (i, e) =>
    (Tab.ins t i { e with cls := cls, visible := arr + 96, older := followHit e arr limit, at_ := arr },
      false)
  | none =>
    let base := followSet key
    let fresh : FollowEntry :=
      { key := key, cls := cls, visible := arr + 96, older := none, at_ := arr }
    let usable := [0, 1, 2, 3].find? (fun i =>
      match Tab.find t (base + i) with
      | none => true
      | some e => decide (limit < arr - e.at_))
    match usable with
    | some i => (Tab.ins t (base + i) fresh, false)
    | none =>
      let age : Nat → Nat := fun i => match Tab.find t (base + i) with
        | some e => e.at_
        | none => 0
      let oldest := [1, 2, 3].foldl (fun b i => if age i < age b then i else b) 0
      (Tab.ins t (base + oldest) fresh, true)

/-! ### Accesses (07 R281, R289, R294) -/

namespace Cls

/-- Result codes of 07 R293. -/
def rDone : Nat := 0x00
/-- BUSY. -/
def rBusy : Nat := 0x01

/-- The word list of a 96-byte or 16-byte record, byte 4k in bits [7:0] of word k. -/
def toWords : Nat → Bytes → List Word
  | 0, _ => []
  | n + 1, bs => BitVec.ofNat 32 (leAt bs 0 4) :: toWords n (bs.drop 4)

/-- The bytes of a word list, bits [7:0] of a word first. -/
def ofWords (ws : List Word) : Bytes := ws.flatMap (fun w => leBytes 4 w.toNat)

/-- A 640-bit value from twenty words, word 0 holding the highest bits. -/
def wide (ws : List Word) : BitVec 640 :=
  BitVec.ofNat 640 ((ws.take 20).foldl (fun acc w => acc * 2 ^ 32 + w.toNat) 0)

/-- A 640-bit value as twenty words. -/
def unwide (v : BitVec 640) : List Word :=
  (List.range 20).map (fun k => BitVec.ofNat 32 (v.toNat / 2 ^ (608 - 32 * k)))

/-- A TCAM entry from access data, with the given SLOTS. -/
def tcamOf (d : List Word) (slots : Nat) : TcamEntry :=
  { value := wide d, mask := wide (d.drop 20),
    result := BitVec.ofNat 64 ((d.getD 40 0).toNat + (d.getD 41 0).toNat * 2 ^ 32),
    slots := slots, disabled := false }

/-- A TCAM entry as access data. -/
def tcamWords (e : TcamEntry) : List Word :=
  unwide e.value ++ unwide e.mask ++
    [BitVec.ofNat 32 e.result.toNat, BitVec.ofNat 32 (e.result.toNat / 2 ^ 32),
     word [(e.slots, 0, 4), (b2n e.disabled, 8, 1)]]

/-- A pattern from access data, with the given SLOTS. -/
def patternOf (d : List Word) (slots : Nat) : Pattern :=
  let bs := ofWords (d.take 8)
  let c := (d.getD 8 0).toNat
  { value := bs.take 16, mask := slice bs 16 16, minStart := field c 0 8, maxStart := field c 8 8,
    length := field c 16 5, group := field c 24 4, enc := c.testBit 28, dec := c.testBit 29,
    slots := slots, disabled := false }

/-- A pattern as access data. -/
def patternWords (p : Pattern) : List Word :=
  toWords 8 (padTo p.value 16 ++ padTo p.mask 16) ++
    [word [(p.minStart, 0, 8), (p.maxStart, 8, 8), (p.length, 16, 5), (p.group, 24, 4),
       (b2n p.enc, 28, 1), (b2n p.dec, 29, 1)],
     word [(p.slots, 0, 4), (b2n p.disabled, 8, 1)]]

/-- Whether a node's bytes meet 07 R262 (as R294 point 7 lists). -/
def nodeOk (nd : Bytes) : Bool :=
  decide (leAt nd 0 1 ≤ 5) && decide (leAt nd 1 1 < 64) && decide (leAt nd 2 2 ≤ 256) &&
  decide (leAt nd 6 1 ≤ 16) && decide (leAt nd 7 1 ≤ 7) && decide (leAt nd 10 1 ≤ 16) &&
  decide (leAt nd 12 1 ≤ 8) && decide (leAt nd 13 3 = 0) && decide (leAt nd 88 8 = 0) &&
  [0, 1, 2, 3].all (fun x =>
    decide (leAt nd (16 + 6 * x) 2 ≤ 2047) && decide (leAt nd (18 + 6 * x) 1 ≤ 128) &&
    decide (leAt nd (19 + 6 * x) 1 = 0) &&
    decide (leAt nd (18 + 6 * x) 1 = 0 ∨ leAt nd (20 + 6 * x) 2 + leAt nd (18 + 6 * x) 1 ≤ 512)) &&
  (List.range 8).all (fun t => decide (leAt nd (45 + 6 * t) 1 = 0))

/-- The reserved bits of the word with SLOTS and DISABLED are 0 (07 R294). -/
def slotWordOk (w : Word) : Bool := decide (field w.toNat 4 4 = 0 ∧ field w.toNat 9 23 = 0)

/-- Whether a pattern's fields meet 07 R273. -/
def patternOk (d : List Word) : Bool :=
  let c := (d.getD 8 0).toNat
  decide (1 ≤ field c 16 5 ∧ field c 16 5 ≤ 16 ∧ field c 0 8 ≤ field c 8 8) &&
    decide (field c 21 3 = 0 ∧ field c 30 2 = 0) && slotWordOk (d.getD 9 0)

/-- Whether a pair entry's bytes meet 07 R290. -/
def pairOk (pair : Nat) (b : Bytes) : Bool :=
  decide (leAt b 0 1 = pair ∧ leAt b 1 1 ≤ 1 ∧ leAt b 2 1 ≤ 1 ∧ leAt b 3 1 = 0 ∧ leAt b 7 1 = 0 ∧
    leAt b 10 6 = 0)

/-- Whether the reserved bits of TCAM access data are 0 (07 R270: result bits [22:16]). -/
def tcamOk (d : List Word) : Bool := decide (field (d.getD 40 0).toNat 16 7 = 0) && slotWordOk (d.getD 42 0)

/-- One more than a store's largest index. -/
def storeSize (store : Nat) : Nat :=
  if store = 2 then 4096 else if store = 3 ∨ store = 4 then 255 else if store = 5 then 32
  else 16384

/-- Whether a command is one a store takes (07 R294 point 4). -/
def kindOk (cmd store : Nat) : Bool :=
  if 6 ≤ store then decide (cmd = 1 ∨ cmd = 6)
  else if cmd = 6 then false
  else if store = 5 then decide (cmd = 1 ∨ cmd = 2)
  else if 3 ≤ store then decide (cmd ≠ 3 ∧ cmd ≠ 4)
  else true

/-- SLOTS and DISABLED of a TCAM entry or pattern. -/
def slotsOf (c : Cls) (store index : Nat) : Nat × Bool :=
  if store = 2 then
    let p := Tab.get (fun _ => Pattern.empty) c.patterns index
    (p.slots, p.disabled)
  else
    let e := Tab.get (fun _ => TcamEntry.empty) (c.tcam (decide (store = 1))) index
    (e.slots, e.disabled)

/-- Whether 07 R281 refuses a WRITE, JOIN or LEAVE, `pend` being the PENDING slot. -/
def liveRefuses (c : Cls) (pend cmd store slotN index : Nat) : Bool :=
  if store ≤ 2 then
    let (sl, dis) := c.slotsOf store index
    if cmd = 2 then decide (sl ≠ 0 ∧ sl ≠ 2 ^ pend)
    else if cmd = 3 then dis
    else false
  else decide (slotN ≠ pend)

/-- Whether the data of a WRITE or REPAIR are refused with BAD_CONFIG. -/
def dataBad (store index : Nat) (d : List Word) : Bool :=
  if store ≤ 1 then !tcamOk d
  else if store = 2 then !patternOk d
  else if store ≤ 4 then !nodeOk (ofWords (d.take 24))
  else !pairOk index (ofWords (d.take 4))

/-- Whether a REPAIR finds nothing to repair (07 R289). -/
def notDisabled (c : Cls) (store slotN index : Nat) : Bool :=
  if store ≤ 2 then !(c.slotsOf store index).2
  else !((c.slot slotN).faulty.contains (faultyKey (decide (store = 4)) index))

/-- The refusal of an access, in the order of 07 R294, or none. -/
def accessRefusal (c : Cls) (a : ClsAccess) : Option Nat :=
  if c.acc.isSome then some 0x01
  else if a.cmd = 0 ∨ 6 < a.cmd then some 0x65
  else if 8 ≤ a.store ∨ storeSize a.store ≤ a.index then some 0x46
  else if !kindOk a.cmd a.store then some 0x4A
  else if (a.cmd = 2 ∨ a.cmd = 3 ∨ a.cmd = 4) ∧ c.theSlot .pending = none then some 0x44
  else if (a.cmd = 2 ∨ a.cmd = 3 ∨ a.cmd = 4) ∧
      c.liveRefuses ((c.theSlot .pending).getD 0) a.cmd a.store a.slot a.index then some 0x45
  else if (a.cmd = 2 ∨ a.cmd = 5) ∧ dataBad a.store a.index a.data then some 0x52
  else if a.cmd = 5 ∧ c.notDisabled a.store a.slot a.index then some 0x47
  else none

/-- A TCAM entry changed. -/
def updTcam (c : Cls) (dec : Bool) (i : Nat) (f : TcamEntry → TcamEntry) : Cls :=
  c.setTcam dec (Tab.upd (fun _ => TcamEntry.empty) (c.tcam dec) i f)

/-- A pattern changed. -/
def updPattern (c : Cls) (i : Nat) (f : Pattern → Pattern) : Cls :=
  { c with patterns := Tab.upd (fun _ => Pattern.empty) c.patterns i f }

/-- A node replaced. -/
def putNode (c : Cls) (slotN : Nat) (dec : Bool) (i : Nat) (b : Bytes) : Cls :=
  let sl := c.slot slotN
  c.setSlot slotN (if dec then
      { sl with nodesDec := Tab.put (fun _ => zeros 96) sl.nodesDec i b }
    else { sl with nodesEnc := Tab.put (fun _ => zeros 96) sl.nodesEnc i b })

/-- SLOTS of a TCAM entry or pattern changed. -/
def updSlots (c : Cls) (store i : Nat) (f : Nat → Nat) : Cls :=
  if store = 2 then c.updPattern i (fun p => { p with slots := f p.slots })
  else c.updTcam (decide (store = 1)) i (fun e => { e with slots := f e.slots })

/-- A WRITE (07 R281). -/
def write (c : Cls) (a : ClsAccess) : Cls :=
  let pend := (c.theSlot .pending).getD 0
  if a.store ≤ 1 then c.updTcam (decide (a.store = 1)) a.index (fun _ => tcamOf a.data (2 ^ pend))
  else if a.store = 2 then c.updPattern a.index (fun _ => patternOf a.data (2 ^ pend))
  else if a.store ≤ 4 then c.putNode pend (decide (a.store = 4)) a.index (ofWords (a.data.take 24))
  else
    let sl := c.slot pend
    c.setSlot pend { sl with
      pairs := Tab.put (fun p => BitVec.ofNat 8 p :: zeros 15) sl.pairs a.index
        (ofWords (a.data.take 4)) }

/-- A REPAIR (07 R289): content rewritten, DISABLED or the fault cleared, SLOTS kept. -/
def repair (c : Cls) (a : ClsAccess) : Cls :=
  if a.store ≤ 1 then c.updTcam (decide (a.store = 1)) a.index (fun e => tcamOf a.data e.slots)
  else if a.store = 2 then c.updPattern a.index (fun p => patternOf a.data p.slots)
  else
    let dec := decide (a.store = 4)
    let c := c.putNode a.slot dec a.index (ofWords (a.data.take 24))
    let sl := c.slot a.slot
    c.setSlot a.slot { sl with faulty := sl.faulty.filter (fun k => decide (k ≠ faultyKey dec a.index)) }

/-- The words a READ returns (07 R294). -/
def readWords (c : Cls) (a : ClsAccess) : List Word :=
  if a.store ≤ 1 then
    tcamWords (Tab.get (fun _ => TcamEntry.empty) (c.tcam (decide (a.store = 1))) a.index)
  else if a.store = 2 then patternWords (Tab.get (fun _ => Pattern.empty) c.patterns a.index)
  else if a.store ≤ 4 then toWords 24 (c.node a.slot (decide (a.store = 4)) a.index)
  else if a.store = 5 then toWords 4 (c.pairEntry a.slot a.index)
  else [Tab.get (fun _ => 0) (if a.store = 6 then c.hitEnc else c.hitDec) a.index]

/-- The effect of an access on the stores (07 R294); a READ has none. -/
def apply (c : Cls) (a : ClsAccess) : Cls :=
  let bit := 2 ^ ((c.theSlot .pending).getD 0)
  if a.cmd = 2 then c.write a
  else if a.cmd = 3 then c.updSlots a.store a.index (fun s => s ||| bit)
  else if a.cmd = 4 then c.updSlots a.store a.index (fun s => s - (s &&& bit))
  else if a.cmd = 5 then c.repair a
  else if a.cmd = 6 then
    if a.store = 6 then { c with hitEnc := Tab.del c.hitEnc a.index }
    else { c with hitDec := Tab.del c.hitDec a.index }
  else c

/-- A slot's bit cleared from every TCAM entry and pattern (07 R279, R284). -/
def clearBit (c : Cls) (n : Nat) : Cls :=
  let f := fun s : Nat => s - (s &&& 2 ^ n)
  { c with
    tcamEnc := Tab.mapv c.tcamEnc (fun _ e => { e with slots := f e.slots })
    tcamDec := Tab.mapv c.tcamDec (fun _ e => { e with slots := f e.slots })
    patterns := Tab.mapv c.patterns (fun _ p => { p with slots := f p.slots }) }

/-- A slot's bit added wherever another slot's bit stands (07 R280). -/
def copyBit (c : Cls) (src dst : Nat) : Cls :=
  let f := fun s : Nat => if s.testBit src then s ||| 2 ^ dst else s
  { c with
    tcamEnc := Tab.mapv c.tcamEnc (fun _ e => { e with slots := f e.slots })
    tcamDec := Tab.mapv c.tcamDec (fun _ e => { e with slots := f e.slots })
    patterns := Tab.mapv c.patterns (fun _ p => { p with slots := f p.slots }) }

end Cls

/-! ### The RULE_SET record (07 R290, R291) -/

namespace RuleSet

/-- Where the encrypt nodes begin. -/
def nodesAt : Nat := 528

/-- Offsets of the record's parts. -/
def tcamAt (b : Bytes) : Nat := 528 + 96 * (leAt b 4 1 + leAt b 5 1)

/-- Where the patterns begin. -/
def patsAt (b : Bytes) : Nat := tcamAt b + 176 * (leAt b 6 2 + leAt b 8 2)

/-- Strictly rising. -/
def rising : List Nat → Bool
  | a :: b :: r => decide (a < b) && rising (b :: r)
  | _ => true

/-- The node numbers a node names. -/
def nexts (nd : Bytes) : List Nat :=
  leAt nd 11 1 :: (List.range (leAt nd 12 1)).map (fun t => leAt nd (44 + 6 * t) 1)

/-- The next and start nodes lie within the graph (07 R291). -/
def inGraph (count n : Nat) : Bool := decide (n < count ∨ n = 0xFF)

/-- Byte j of VALUE and MASK holds key bits [639 - 8j : 632 - 8j]. -/
def keyBytes (b : Bytes) : BitVec 640 := BitVec.ofNat 640 (beNat b)

/-- The i-th TCAM entry of the record from an offset, with its index. -/
def tcamAtIdx (b : Bytes) (base i slotBit : Nat) : Nat × TcamEntry :=
  let o := base + 176 * i
  (leAt b o 2, { value := keyBytes (sliceZ b (o + 8) 80), mask := keyBytes (sliceZ b (o + 88) 80),
                 result := BitVec.ofNat 64 (leAt b (o + 168) 8), slots := slotBit,
                 disabled := false })

/-- The i-th pattern of the record. -/
def patAtIdx (b : Bytes) (i slotBit : Nat) : Nat × Pattern :=
  let o := patsAt b + 40 * i
  let fl := leAt b (o + 3) 1
  (leAt b o 2, { value := sliceZ b (o + 8) 16, mask := sliceZ b (o + 24) 16,
                 length := leAt b (o + 6) 1, group := leAt b (o + 2) 1, enc := fl.testBit 0,
                 dec := fl.testBit 1, minStart := leAt b (o + 4) 1, maxStart := leAt b (o + 5) 1,
                 slots := slotBit, disabled := false })

/-- The n-th node of the record. -/
def nodeAt (b : Bytes) (n : Nat) : Bytes := sliceZ b (528 + 96 * n) 96

/-- Whether the record passes 07 R290 and R291. -/
def ok (inst : Nat) (b : Bytes) : Bool :=
  let ne := leAt b 4 1
  let nd := leAt b 5 1
  let te := leAt b 6 2
  let td := leAt b 8 2
  let np := leAt b 10 2
  let idx := fun (base n : Nat) => (List.range n).map (fun i => leAt b (base + 176 * i) 2)
  let tres := fun (base n : Nat) => (List.range n).all (fun i =>
    decide (leAt b (base + 176 * i) 2 < 16384) && decide (leAt b (base + 176 * i + 2) 6 = 0) &&
    decide (field (leAt b (base + 176 * i + 168) 8) 16 7 = 0))
  decide (leAt b 0 2 = 1 ∧ leAt b 2 2 = inst ∧ 1 ≤ ne ∧ ne ≤ 255 ∧ 1 ≤ nd ∧ nd ≤ 255 ∧
    te ≤ 16384 ∧ td ≤ 16384 ∧ np ≤ 4096 ∧ 1 ≤ leAt b 12 2 ∧ leAt b 14 2 = 0 ∧
    b.length = 528 + 96 * (ne + nd) + 176 * (te + td) + 40 * np) &&
  (List.range 32).all (fun i =>
    let e := sliceZ b (16 + 16 * i) 16
    Cls.pairOk i e && inGraph ne (leAt e 4 1) && inGraph nd (leAt e 5 1) && inGraph nd (leAt e 6 1)) &&
  (List.range ne).all (fun n => Cls.nodeOk (nodeAt b n) && (nexts (nodeAt b n)).all (inGraph ne)) &&
  (List.range nd).all (fun n =>
    Cls.nodeOk (nodeAt b (ne + n)) && (nexts (nodeAt b (ne + n))).all (inGraph nd)) &&
  rising (idx (tcamAt b) te) && rising (idx (tcamAt b + 176 * te) td) &&
  tres (tcamAt b) te && tres (tcamAt b + 176 * te) td &&
  rising ((List.range np).map (fun i => leAt b (patsAt b + 40 * i) 2)) &&
  (List.range np).all (fun i =>
    let o := patsAt b + 40 * i
    decide (leAt b o 2 < 4096 ∧ leAt b (o + 2) 1 < 16 ∧ leAt b (o + 3) 1 < 4 ∧
      leAt b (o + 4) 1 ≤ leAt b (o + 5) 1 ∧ 1 ≤ leAt b (o + 6) 1 ∧ leAt b (o + 6) 1 ≤ 16 ∧
      leAt b (o + 7) 1 = 0))

/-- The slot's graphs and pair table from the record. -/
def slotOf (b : Bytes) (st : SlotState) (ensign : Nat) : ClsSlot :=
  let ne := leAt b 4 1
  { state := st, ensign := ensign,
    nodesEnc := (List.range ne).map (fun n => (n, nodeAt b n)),
    nodesDec := (List.range (leAt b 5 1)).map (fun n => (n, nodeAt b (ne + n))),
    pairs := (List.range 32).map (fun i => (i, sliceZ b (16 + 16 * i) 16)), faulty := [] }

/-- The record's TCAM entries of a direction. -/
def tcamOf (b : Bytes) (dec : Bool) (slotBit : Nat) : Tab TcamEntry :=
  if dec then
    (List.range (leAt b 8 2)).map (fun i => tcamAtIdx b (tcamAt b + 176 * leAt b 6 2) i slotBit)
  else (List.range (leAt b 6 2)).map (fun i => tcamAtIdx b (tcamAt b) i slotBit)

/-- The record's patterns. -/
def patternsOf (b : Bytes) (slotBit : Nat) : Tab Pattern :=
  (List.range (leAt b 10 2)).map (fun i => patAtIdx b i slotBit)

/-- Loading at bring-up: slot 0 becomes CURRENT (07 R287). -/
def load (c : Cls) (inst : Nat) (b : Bytes) : Cls :=
  { (c.setSlot 0 (slotOf b .current inst)) with
    tcamEnc := tcamOf b false 1, tcamDec := tcamOf b true 1, patterns := patternsOf b 1 }

/-- Whether an entry stands as the record gives it (07 R287 step 2). -/
def sameTcam (a b : TcamEntry) : Bool :=
  decide (a.value = b.value ∧ a.mask = b.mask ∧ a.result = b.result)

/-- Whether a pattern stands as the record gives it. -/
def samePat (a b : Pattern) : Bool :=
  decide ({ a with slots := 0, disabled := false } = { b with slots := 0, disabled := false })

/-- One table of the record carried into the PENDING slot `pend` (07 R287 steps 2 to 4); none
where a WRITE would be refused with LIVE_ENTRY. -/
def mergeTab {α : Type} (slotsOf : α → Nat) (setSlots : α → Nat → α) (same : α → α → Bool)
    (old : Tab α) (new : Tab α) (pend : Nat) : Option (Tab α) :=
  let bit := 2 ^ pend
  let left := old.map (fun e =>
    match Tab.find new e.1 with
    | some v => if same e.2 v then e else (e.1, setSlots e.2 (slotsOf e.2 - (slotsOf e.2 &&& bit)))
    | none => (e.1, setSlots e.2 (slotsOf e.2 - (slotsOf e.2 &&& bit))))
  new.foldl (fun acc e =>
    match acc with
    | none => none
    | some t =>
      match Tab.find t e.1 with
      | none => some (Tab.ins t e.1 (setSlots e.2 bit))
      | some o =>
        if same o e.2 && (slotsOf o).testBit pend then some t
        else if slotsOf o = 0 then some (Tab.ins t e.1 (setSlots e.2 bit))
        else none) (some left)

/-- The record carried into the PENDING slot (07 R287), or none for NO_ROOM. -/
def merge (c : Cls) (b : Bytes) (pend ensign : Nat) : Option Cls :=
  let st := fun (e : TcamEntry) (s : Nat) => { e with slots := s }
  match mergeTab TcamEntry.slots st sameTcam c.tcamEnc (tcamOf b false 0) pend,
        mergeTab TcamEntry.slots st sameTcam c.tcamDec (tcamOf b true 0) pend,
        mergeTab Pattern.slots (fun p s => { p with slots := s }) samePat c.patterns
          (patternsOf b 0) pend with
  | some te, some td, some ps =>
    some { (c.setSlot pend (slotOf b .pending ensign)) with
           tcamEnc := te, tcamDec := td, patterns := ps }
  | _, _, _ => none

end RuleSet

end Sys2Proof.Machine
end

