-- ==== Sys2Proof/Machine/FrameTypes.lean ====
section
/-! DEFINITION. A frame in the module: where it came from, what each stage has found, and what it
is to become (01 R29–R43; 07; 08; 11; 18 R610). -/

namespace Sys2Proof.Machine
open Sys2Proof.Bits

/-- The core header of a trunk frame as received (06 R208, R216, R249). `chan`, `pn`, `circuit` and
`seq` are 0 where the TYPE has none; `errored` says that its block was errored (R234). -/
structure TrunkHdr where
  typ : Nat
  an : Nat
  len : Nat
  pad : Nat
  chan : Nat
  pn : Nat
  circuit : Nat
  seq : Nat
  peer : Nat
  errored : Bool
deriving DecidableEq, Repr

/-- How far the reception of a frame has come (05 R185). `refused`: still arriving, and not passed on at
its hand-off because its pair was not in service. -/
inductive RxState where
  | arriving | refused | good | bad
deriving DecidableEq, Repr

/-- Where a frame stands. `arriving`: before the hand-off; `handed`: handed on with a PROGRAM, not
yet dispatched; `engine`: in a context, or with a verdict waiting out the engine stage; `held`:
held under 08 R305; `cipher`: in the cipher stage; `decided`: its output fixed, waiting for its
departure; `leaving`: its output has begun and its reception has not ended; `gone`: it was dropped, and
its reception has not ended. -/
inductive FrStage where
  | arriving | handed | engine | held | cipher | decided | leaving | gone
deriving DecidableEq, Repr

/-- The verdicts of 08 R323. -/
inductive Verdict where
  | encrypt | decrypt | bypass | drop | divert
deriving DecidableEq, Repr

/-- How the cipher stage ended for a decrypt frame: its plain output and whether its tag
verified. -/
structure CipherOut where
  bytes : Bytes
  tagOk : Bool
deriving DecidableEq, Repr

/-- A frame. `pair` is the pair and `port` the port at which it entered: the host port where
`dec` is false, the line port otherwise. `wire` holds the bytes as received: destination address to
FCS, or core header to PAD. `arrival` is the core cycle and `count` the corrected counter value of its
arrival (14 R524, R525), `phase` the part of a cycle, in 2^-16 ns, by which its start-of-frame passed
after that cycle began, `tbase` the time base that converts its times (R520); `seq` is its sequence
number of 18 R610, `cnts` the count entries that take its octets when it has fully arrived (08 R322). `injected` marks a frame the steward put in, `waited` the cycles
spent parked and ready, `hold` the cycles held under R305. `meta_` is the metadata its context held
when its verdict fell; and `head` the frame bytes it held then; `depart` the cycle of its start-of-frame, once known. -/
structure Frame where
  pair : Nat
  dec : Bool
  seq : Nat
  phase : Nat
  wire : Bytes
  trunk : Option TrunkHdr
  arrival : Nat
  count : Int
  tbase : Option (Nat × TimeBase)
  slot : Nat
  ensign : Nat
  tag : Nat
  sampled : Bool
  rx : RxState
  stage : FrStage
  verdict : Option Verdict
  reason : Nat
  program : Nat
  meta_ : Bytes
  sectag : Option Nat
  bounded : Bool
  far : Bool
  bind : Option Binding
  circuit : Option Nat
  waited : Nat
  hold : Nat
  cipherAt : Nat
  out : Option CipherOut
  blocks : Nat
  depart : Option Nat
  injected : Bool
  cnts : List Nat
  head : Bytes
deriving DecidableEq, Repr

namespace Frame

/-- The reception has not ended. -/
def receiving (f : Frame) : Bool := decide (f.rx = .arriving ∨ f.rx = .refused)

/-- The frame is in the module: it has not been dropped, nor its program's DROP waits out its budget. -/
def here (f : Frame) : Bool := decide (f.stage ≠ .gone ∧ f.verdict ≠ some .drop)

end Frame

end Sys2Proof.Machine
end

