-- ==== Sys2Proof/Machine/LookupUnit.lean ====
section
/-! DEFINITION. The lookup tables as data and what a lookup, an insertion, a prefix change and a
TABLE_SEED record do to them (09). -/

namespace Sys2Proof.Machine
open Sys2Proof.Bits

/-- An EXACT entry that is VALID (09 R349). -/
structure ExactEntry where
  key : Bytes
  d0 : BitVec 64
  d1 : BitVec 64
  static : Bool
  faulty : Bool
  seq : Nat
  stamp : Nat
deriving DecidableEq, Repr

/-- An LPM entry that has been written (09 R352): VALID, or as a WRITE with VALID 0 left it. -/
structure LpmEntry where
  valid : Bool
  pref : Nat
  origLen : Nat
  faulty : Bool
  result : Word
deriving DecidableEq, Repr

/-- A filter or chunk entry and whether it is FAULTY (09 R351, R356). -/
structure FilterEntry where
  bits : BitVec 64
  faulty : Bool
deriving DecidableEq, Repr

/-- An original prefix of an LPM table: its length, the key integer with the bits below it 0, and
its result (09 R354, R369). -/
structure Prefix where
  len : Nat
  value : Nat
  result : Word
deriving DecidableEq, Repr

/-- A defined table (09 R343–R369). `exact` is keyed by bucket × 4 + way, `lpm` by
(probe index × 2^20 + bucket) × 8 + way, `filter` by region; `prefixes` is the set the loader and
the steward expand (R354). -/
structure LkTable where
  kind : Nat
  place : Nat
  keywords : Nat
  datawords : Nat
  learn : Nat
  blog2 : Nat
  rbits : Nat
  kbits : Nat
  lengths : List Nat
  seq : Nat
  exact : Tab ExactEntry
  lpm : Tab LpmEntry
  filter : Tab FilterEntry
  prefixes : List Prefix
deriving DecidableEq, Repr

/-- A learn report (09 R358). -/
structure LearnReport where
  table : Nat
  key : Bytes
  d0 : BitVec 64
  d1 : BitVec 64
  engine : Nat
  pair : Nat
  dec : Bool
  ensign : Nat
deriving DecidableEq, Repr

/-- A learned write not yet visible to lookups: where, and the entry lookups still read
(09 R361). -/
structure LearnWrite where
  table : Nat
  loc : Nat
  old : Option ExactEntry
deriving DecidableEq, Repr

/-- A lookup command in progress (09 R364). -/
structure LkpCmd where
  cmd : Nat
  static : Bool
  target : Nat
  way : Nat
  probe : Nat
  table : Nat
  index : Nat
  data : Bytes
deriving DecidableEq, Repr

/-- The lookup and learning unit. `chunks` is keyed by chunk × 65,536 + entry. -/
structure Lkp where
  tables : Tab LkTable
  chunks : Tab FilterEntry
  input : List LearnReport
  writes : List LearnWrite
  queue : List Bytes
  lostMark : Bool
  armed : Bool
  cmd : Option LkpCmd
deriving DecidableEq, Repr

/-- No table defined. -/
def Lkp.empty : Lkp :=
  { tables := [], chunks := [], input := [], writes := [], queue := [], lostMark := false,
    armed := true, cmd := none }

/-- What a lookup answers: hit, the result words, and what it read: whether an HBM line was read,
the target and location of the entry read (for an error in it), and the probe index. -/
structure LkOut where
  hit : Bool
  w0 : BitVec 64
  w1 : BitVec 64
  hbmRead : Bool
  target : Nat
  loc : Option Nat
  probe : Nat
deriving DecidableEq, Repr

/-- A miss that read nothing. -/
def LkOut.miss : LkOut :=
  { hit := false, w0 := 0, w1 := 0, hbmRead := false, target := 0, loc := none, probe := 0 }

namespace LkTable

/-- The bucket of a key (09 R348). -/
def bucket (t : LkTable) (key : Bytes) : Nat := crc32 key % 2 ^ t.blog2

/-- The way of a bucket that holds a key, faulty ways included. -/
def wayOf (t : LkTable) (key : Bytes) : Option (Nat × ExactEntry) :=
  let base := t.bucket key * 4
  [0, 1, 2, 3].findSome? (fun w =>
    match Tab.find t.exact (base + w) with
    | some e => if e.key = key then some (base + w, e) else none
    | none => none)

/-- A free way of a key's bucket, lowest first. -/
def freeWay (t : LkTable) (key : Bytes) : Option Nat :=
  let base := t.bucket key * 4
  ([0, 1, 2, 3].find? (fun w => (Tab.find t.exact (base + w)).isNone)).map (fun w => base + w)

/-- How far a SEQ lies behind the table's current one (09 R359). -/
def behind (t : LkTable) (seq : Nat) : Nat := (t.seq + 2 ^ 27 - seq) % 2 ^ 27

/-- The oldest learned entry of a key's bucket (09 R359). -/
def oldestLearned (t : LkTable) (key : Bytes) : Option (Nat × ExactEntry) :=
  let base := t.bucket key * 4
  [0, 1, 2, 3].foldl (fun acc w =>
    match Tab.find t.exact (base + w) with
    | some e =>
      if e.static then acc
      else match acc with
        | none => some (base + w, e)
        | some (l, o) => if t.behind o.seq < t.behind e.seq then some (base + w, e) else some (l, o)
    | none => acc) none

/-- An entry put at a location with the next SEQ (09 R349). -/
def putEntry (t : LkTable) (loc : Nat) (e : ExactEntry) : LkTable :=
  { t with seq := (t.seq + 1) % 2 ^ 27,
           exact := Tab.ins t.exact loc { e with seq := (t.seq + 1) % 2 ^ 27 } }

/-- A lookup of an EXACT key (09 R348, R350). -/
def lookupExact (t : LkTable) (key : Bytes) : LkOut :=
  match t.wayOf key with
  | some (loc, e) =>
    if e.faulty then { LkOut.miss with hbmRead := decide (t.place = 1) }
    else { hit := true, w0 := e.d0, w1 := e.d1, hbmRead := decide (t.place = 1), target := 0,
           loc := some loc, probe := 0 }
  | none => { LkOut.miss with hbmRead := decide (t.place = 1) }

/-- The region of a prefix or key value (09 R353). -/
def region (t : LkTable) (v : Nat) : Nat := v / 2 ^ (t.kbits - t.rbits)

/-- Whether a prefix covers a region. -/
def covers (t : LkTable) (r : Nat) (p : Prefix) : Bool :=
  decide (p.len ≤ t.rbits ∧ p.value / 2 ^ (t.kbits - p.len) = r / 2 ^ (t.rbits - p.len))

/-- The longest prefix of a list. -/
def longest (ps : List Prefix) : Option Prefix :=
  ps.foldl (fun acc p => match acc with
    | none => some p
    | some q => if q.len < p.len then some p else some q) none

/-- The prefixes longer than REGION_BITS that lie in a region (09 R354). -/
def inRegion (t : LkTable) (r : Nat) : List Prefix :=
  t.prefixes.filter (fun p => decide (t.rbits < p.len ∧ t.region p.value = r))

/-- The index in LENGTHS of the probe length a region needs (09 R354). -/
def probeOf (t : LkTable) (r : Nat) : Option Nat :=
  match longest (t.inRegion r) with
  | none => none
  | some p => (List.range t.lengths.length).find? (fun i => decide (p.len ≤ t.lengths.getD i 0))

/-- The default fields of a region's filter entry (09 R351, R354). -/
def defaultBits (t : LkTable) (r : Nat) : List (Nat × Nat × Nat) :=
  match longest (t.prefixes.filter (t.covers r)) with
  | none => []
  | some p => [(1, 40, 1), (p.len, 32, 8), (p.result.toNat, 0, 32)]

/-- The filter entry the expansion rule gives an LPM_HASH region (09 R354). -/
def ruleFilter (t : LkTable) (r : Nat) : FilterEntry :=
  { bits := BitVec.ofNat 64 (pack ((match t.probeOf r with
      | some i => [(1, 63, 1), (i, 59, 4)]
      | none => []) ++ t.defaultBits r)), faulty := false }

/-- The filter entry of a region. -/
def filterAt (t : LkTable) (r : Nat) : FilterEntry := (Tab.find t.filter r).getD (t.ruleFilter r)

/-- The stored entries of a region: the prefixes of the probe length beneath each original, each
with the longest original that covers it (09 R354). -/
def expand (t : LkTable) (r : Nat) : List LpmEntry :=
  match t.probeOf r with
  | none => []
  | some i =>
    let l := t.lengths.getD i 0
    let add := fun (acc : Tab LpmEntry) (p : Prefix) =>
      let base := p.value / 2 ^ (t.kbits - l)
      (List.range (2 ^ (l - p.len))).foldl (fun a j =>
        match Tab.find a (base + j) with
        | some e => if e.origLen ≤ p.len then
            Tab.ins a (base + j) { valid := true, pref := base + j, origLen := p.len, faulty := false, result := p.result }
          else a
        | none =>
          Tab.ins a (base + j) { valid := true, pref := base + j, origLen := p.len, faulty := false, result := p.result }) acc
    ((t.inRegion r).foldl add []).map Prod.snd

/-- The first way of the bucket of a prefix of the probe length of index i (09 R352). -/
def lpmBase (t : LkTable) (i pref : Nat) : Nat :=
  (i * 2 ^ 20 + crc32 (beBytes 16 pref ++ [BitVec.ofNat 8 (t.lengths.getD i 0)]) % 2 ^ t.blog2) * 8

/-- The way that holds a prefix. -/
def lpmWay (t : LkTable) (i pref : Nat) : Option (Nat × LpmEntry) :=
  let base := t.lpmBase i pref
  (List.range 8).findSome? (fun w =>
    match Tab.find t.lpm (base + w) with
    | some e => if e.valid ∧ e.pref = pref then some (base + w, e) else none
    | none => none)

/-- An entry put in its bucket: over its own prefix, else in a free way; none when full. -/
def lpmPut (t : LkTable) (i : Nat) (e : LpmEntry) : Option LkTable :=
  match t.lpmWay i e.pref with
  | some (loc, _) => some { t with lpm := Tab.ins t.lpm loc e }
  | none =>
    let base := t.lpmBase i e.pref
    match (List.range 8).find? (fun w => ((Tab.find t.lpm (base + w)).map LpmEntry.valid).getD false = false) with
    | some w => some { t with lpm := Tab.ins t.lpm (base + w) e }
    | none => none

/-- The stored entries of a region removed. -/
def lpmDropRegion (t : LkTable) (r : Nat) : LkTable :=
  { t with lpm := t.lpm.filter (fun e =>
      let l := t.lengths.getD (e.1 / 8 / 2 ^ 20) 0
      !e.2.valid || decide (e.2.pref / 2 ^ (l - t.rbits) ≠ r)) }

/-- A region's stored entries and filter entry rebuilt from the prefixes (09 R354, R355); none
where a bucket overflows. -/
def rebuild (t : LkTable) (r : Nat) : Option LkTable :=
  let es := t.expand r
  let i := (t.probeOf r).getD 0
  let t := t.lpmDropRegion r
  let t := { t with filter := Tab.del t.filter r }
  es.foldl (fun acc e => match acc with
    | none => none
    | some u => u.lpmPut i e) (some t)

/-- The regions a prefix of an LPM_HASH table touches. -/
def regionsOf (t : LkTable) (p : Prefix) : List Nat :=
  if t.rbits < p.len then [t.region p.value]
  else (List.range (2 ^ (t.rbits - p.len))).map (fun i => t.region p.value + i)

/-- The same prefix and length. -/
def samePrefix (p q : Prefix) : Bool := decide (p.len = q.len ∧ p.value = q.value)

/-- A prefix added or replaced, its regions rebuilt; none for FULL. -/
def addPrefix (t : LkTable) (p : Prefix) : Option LkTable :=
  let t := { t with prefixes := t.prefixes.filter (fun q => !samePrefix p q) ++ [p] }
  if t.rbits < p.len then t.rebuild (t.region p.value)
  else some { t with filter := t.filter.filter (fun e => !t.covers e.1 p) }

/-- A prefix removed, its regions rebuilt; none when it is absent. -/
def delPrefix (t : LkTable) (p : Prefix) : Option LkTable :=
  if t.prefixes.any (samePrefix p) then
    let t := { t with prefixes := t.prefixes.filter (fun q => !samePrefix p q) }
    if t.rbits < p.len then t.rebuild (t.region p.value)
    else some { t with filter := t.filter.filter (fun e => !t.covers e.1 p) }
  else none

/-- The key integer of an LPM table: the low KEY_BITS bits of the key words (09 R350). -/
def lpmKey (t : LkTable) (key : Bytes) : Nat := beNat key % 2 ^ t.kbits

/-- The answer the default fields of a filter entry give (09 R353). -/
def defaultOut (f : Nat) (hbmRead : Bool) : LkOut :=
  if f.testBit 40 then
    { LkOut.miss with hit := true, hbmRead := hbmRead,
                      w0 := BitVec.ofNat 64 (field f 32 8 * 2 ^ 32 + field f 0 32) }
  else { LkOut.miss with hbmRead := hbmRead }

/-- A lookup of an LPM_HASH key (09 R353); a FAULTY filter entry misses (R367). -/
def lookupHash (t : LkTable) (key : Bytes) : LkOut :=
  let k := t.lpmKey key
  let r := t.region k
  let fe := t.filterAt r
  let f := fe.bits.toNat
  if fe.faulty then LkOut.miss
  else if f.testBit 63 then
    let i := field f 59 4
    let p := k / 2 ^ (t.kbits - t.lengths.getD i 0)
    match t.lpmWay i p with
    | some (loc, e) =>
      if e.faulty then { (defaultOut f true) with probe := i }
      else { hit := true, w0 := BitVec.ofNat 64 (e.origLen * 2 ^ 32 + e.result.toNat), w1 := 0,
             hbmRead := true, target := 0, loc := some (loc % 2 ^ 23), probe := i }
    | none => { (defaultOut f true) with probe := i }
  else { (defaultOut f false) with target := 1, loc := some r }

end LkTable

namespace LkTable

/-- The chunks a trie table's first level names (09 R356). -/
def ownChunks (t : LkTable) : List Nat :=
  if t.kind = 2 then (t.filter.filter (fun f => f.2.bits.toNat.testBit 63)).map (fun f => field f.2.bits.toNat 48 8) else []

end LkTable

namespace Lkp

/-- The filter entry of a first-level index of a trie table. -/
def trieFilter (t : LkTable) (r : Nat) : FilterEntry :=
  (Tab.find t.filter r).getD
    { bits := BitVec.ofNat 64 (pack (t.defaultBits r)), faulty := false }

/-- A lookup of an LPM_TRIE key (09 R356). -/
def lookupTrie (l : Lkp) (t : LkTable) (key : Bytes) : LkOut :=
  let k := beNat key % 2 ^ 32
  let fe := trieFilter t (k / 65536)
  let f := fe.bits.toNat
  if fe.faulty then LkOut.miss
  else if f.testBit 63 then
    let loc := field f 48 8 * 65536 + k % 65536
    match Tab.find l.chunks loc with
    | some e =>
      let b := e.bits.toNat
      if e.faulty then { LkOut.miss with hbmRead := true }
      else if b.testBit 63 then
        { hit := true, w0 := BitVec.ofNat 64 (field b 32 8 * 2 ^ 32 + field b 0 32), w1 := 0,
          hbmRead := true, target := 2, loc := some loc, probe := 0 }
      else LkTable.defaultOut f true
    | none => LkTable.defaultOut f true
  else { (LkTable.defaultOut f false) with target := 1, loc := some (k / 65536) }

/-- The place an LKI reads, way 0 of its bucket (09 R346–R356): with `hbm` the HBM line its lookup reads, else the
on-die entry; none where it reads none there. -/
def place (l : Lkp) (n : Nat) (key : Bytes) (hbm : Bool) : Option LkOut :=
  match Tab.find l.tables n with
  | none => none
  | some t =>
    if t.kind = 0 then
      if decide (t.place = 1) = hbm then some { LkOut.miss with loc := some (t.bucket key * 4) } else none
    else
      let r := if t.kind = 2 then beNat key % 2 ^ 32 / 65536 else t.region (t.lpmKey key)
      if hbm = false then some { LkOut.miss with target := 1, loc := some r }
      else
        let fe := if t.kind = 2 then trieFilter t r else t.filterAt r
        let f := fe.bits.toNat
        if fe.faulty ∨ f.testBit 63 = false then none
        else if t.kind = 2 then
          some { LkOut.miss with target := 2, loc := some (field f 48 8 * 65536 + beNat key % 65536) }
        else
          let i := field f 59 4
          some { LkOut.miss with probe := i, loc := some (t.lpmBase i (t.lpmKey key / 2 ^ (t.kbits - t.lengths.getD i 0)) % 2 ^ 23) }

/-- A table as lookups see it: learned writes still under way show the old entry (09 R361). -/
def seen (l : Lkp) (n : Nat) (t : LkTable) : LkTable :=
  { t with exact := l.writes.foldr (fun w acc =>
      if w.table = n then
        match w.old with
        | some e => Tab.ins acc w.loc e
        | none => Tab.del acc w.loc
      else acc) t.exact }

/-- What an LKI to a table answers (09 R345–R356). -/
def lookup (l : Lkp) (n : Nat) (key : Bytes) : LkOut :=
  match Tab.find l.tables n with
  | none => LkOut.miss
  | some t =>
    if t.kind = 0 then (l.seen n t).lookupExact key
    else if t.kind = 1 then t.lookupHash key
    else l.lookupTrie t key

/-- Whether a table's lookups count as HBM accesses (09 R347). -/
def inHbm (l : Lkp) (n : Nat) : Bool :=
  match Tab.find l.tables n with
  | none => false
  | some t => decide (t.place = 1 ∨ t.kind ≠ 0)

/-- A table replaced. -/
def setTable (l : Lkp) (n : Nat) (t : LkTable) : Lkp := { l with tables := Tab.ins l.tables n t }

/-- Whether a table can learn (09 R357). -/
def learns (l : Lkp) (n : Nat) : Bool :=
  match Tab.find l.tables n with
  | none => false
  | some t => decide (t.kind = 0 ∧ t.learn ≠ 0)

/-- Whether any learnable table holds a learned entry (01 R51). -/
def anyLearned (l : Lkp) : Bool :=
  l.tables.any (fun t => decide (t.2.learn ≠ 0) && t.2.exact.any (fun e => !e.2.static))

end Lkp

/-! ### Entries as bytes (09 R349, R352) -/

namespace LkTable

/-- An EXACT entry's 64 bytes; zeros where no entry is valid. -/
def exactBytes (t : LkTable) (e : Option ExactEntry) : Bytes :=
  match e with
  | none => zeros 64
  | some e =>
    let ks := (List.range 4).flatMap (fun i => (sliceZ e.key (8 * i) 8).reverse)
    ks ++ leBytes 8 e.d0.toNat ++ leBytes 8 e.d1.toNat ++
      leBytes 8 (pack [(1, 63, 1), (b2n e.static, 62, 1), (b2n e.faulty, 61, 1),
        (t.keywords - 1, 59, 2), (e.seq, 32, 27), (e.stamp, 0, 32)]) ++ zeros 8

/-- The key bytes of an entry's 32 KEY bytes: KEYWORDS words, each big-endian (09 R348, R349). -/
def keyOfBytes (t : LkTable) (b : Bytes) : Bytes :=
  (List.range t.keywords).flatMap (fun i => (sliceZ b (8 * i) 8).reverse)

/-- An LPM entry's 32 bytes. -/
def lpmBytes (e : Option LpmEntry) : Bytes :=
  match e with
  | none => zeros 32
  | some e => leBytes 16 e.pref ++ [BitVec.ofNat 8 e.origLen, BitVec.ofNat 8 (b2n e.valid + 2 * b2n e.faulty)] ++
      zeros 10 ++ leBytes 4 e.result.toNat

/-- An LPM entry from its bytes, FAULTY cleared (09 R364); none where nothing else is left in it. -/
def lpmOfBytes (b : Bytes) : Option LpmEntry :=
  let e : LpmEntry := { valid := (leAt b 17 1).testBit 0, pref := leAt b 0 16, origLen := leAt b 16 1, faulty := false,
                        result := BitVec.ofNat 32 (leAt b 28 4) }
  if e = { valid := false, pref := 0, origLen := 0, faulty := false, result := 0 } then none else some e

/-- Whether a filter entry's reserved bits are 0: bits [58:56] and [47:41], and [55:48] outside a
trie (09 R351). -/
def filterReservedOk (b : Nat) (trie : Bool) : Bool :=
  decide (field b 56 3 = 0 ∧ field b 41 7 = 0 ∧ (trie = true ∨ field b 48 8 = 0))

/-- Whether a chunk entry's reserved bits are 0 (09 R356). -/
def chunkReservedOk (b : Nat) : Bool := decide (field b 40 23 = 0)

end LkTable

/-! ### The TABLE_SEED record (09 R369, R370) -/

namespace Seed

/-- The table the header defines, empty. -/
def header (b : Bytes) : LkTable :=
  { kind := leAt b 3 1, place := leAt b 4 1, keywords := leAt b 5 1, datawords := leAt b 6 1,
    learn := leAt b 7 1, blog2 := leAt b 8 1, rbits := leAt b 9 1, kbits := leAt b 10 1,
    lengths := (List.range (leAt b 11 1)).map (fun i => leAt b (16 + i) 1), seq := 0, exact := [],
    lpm := [], filter := [], prefixes := [] }

/-- Strictly ascending. -/
def ascending : List Nat → Bool
  | a :: b :: r => decide (a < b) && ascending (b :: r)
  | _ => true

/-- Whether the header keeps the ranges of 09 R369 (and R343, R357 for placement and learning). -/
def headerOk (inst : Nat) (b : Bytes) : Bool :=
  let t := header b
  let common := decide (leAt b 0 2 = 1 ∧ leAt b 2 1 = inst ∧ inst < 64 ∧ t.kind ≤ 2 ∧ t.place ≤ 1 ∧
    t.learn ≤ 2 ∧ leAt b 14 2 = 0 ∧ leAt b 36 28 = 0 ∧ b.length = 64 + 64 * leAt b 32 4) &&
    ((List.range 16).drop t.lengths.length).all (fun i => decide (leAt b (16 + i) 1 = 0))
  let byKind :=
    if t.kind = 0 then
      decide (1 ≤ t.keywords ∧ t.keywords ≤ 4 ∧ 1 ≤ t.datawords ∧ t.datawords ≤ 2 ∧ 2 ≤ t.blog2 ∧
        t.blog2 ≤ 18 ∧ t.rbits = 0 ∧ t.kbits = 0 ∧ t.lengths = [] ∧ (t.learn = 0 ∨ t.place = 1) ∧
        (t.learn ≠ 0 ∨ leAt b 12 2 = 0))
    else if t.kind = 1 then
      decide (1 ≤ t.keywords ∧ t.keywords ≤ 2 ∧ t.datawords = 1 ∧ t.place = 1 ∧ t.learn = 0 ∧
        2 ≤ t.blog2 ∧ t.blog2 ≤ 20 ∧ 8 ≤ t.rbits ∧ t.rbits ≤ 20 ∧ 8 ≤ t.kbits ∧ t.kbits ≤ 128 ∧
        t.kbits ≤ 64 * t.keywords ∧ 1 ≤ t.lengths.length ∧ t.lengths.length ≤ 16 ∧ leAt b 12 2 = 0) &&
      ascending t.lengths && t.lengths.all (fun l => decide (t.rbits < l ∧ l ≤ t.kbits))
    else
      decide (t.keywords = 1 ∧ t.datawords = 1 ∧ t.place = 1 ∧ t.learn = 0 ∧ t.blog2 = 0 ∧
        t.rbits = 16 ∧ t.kbits = 32 ∧ t.lengths = [] ∧ leAt b 12 2 = 0)
  common && byKind

/-- The i-th seed entry of an EXACT table. -/
def exactEntry (t : LkTable) (b : Bytes) (i stamp : Nat) : ExactEntry :=
  let e := sliceZ b (64 + 64 * i) 64
  { key := t.keyOfBytes (e.take 32), d0 := BitVec.ofNat 64 (leAt e 32 8),
    d1 := BitVec.ofNat 64 (if t.datawords = 2 then leAt e 40 8 else 0), static := true,
    faulty := false, seq := 0, stamp := stamp }

/-- The i-th seed prefix of an LPM table. -/
def prefixEntry (b : Bytes) (i : Nat) : Prefix :=
  let e := sliceZ b (64 + 64 * i) 64
  { len := leAt e 16 1, value := leAt e 0 16, result := BitVec.ofNat 32 (leAt e 24 4) }

/-- How many seed entries the record holds. -/
def count (b : Bytes) : Nat := leAt b 32 4

/-- The seed prefixes. -/
def prefixes (b : Bytes) : List Prefix := (List.range (count b)).map (prefixEntry b)

/-- Whether the seed entries keep the record's own ranges (reserved bytes, unused words). -/
def entriesOk (b : Bytes) : Bool :=
  let t := header b
  (List.range (count b)).all (fun i =>
    let e := sliceZ b (64 + 64 * i) 64
    if t.kind = 0 then
      decide (leAt e 48 16 = 0 ∧ (t.datawords = 2 ∨ leAt e 40 8 = 0)) &&
        decide (leAt e (8 * t.keywords) (32 - 8 * t.keywords) = 0)
    else
      let p := prefixEntry b i
      decide (leAt e 17 7 = 0 ∧ leAt e 28 36 = 0 ∧ p.len ≤ t.kbits ∧ p.value < 2 ^ t.kbits ∧
        p.value % 2 ^ (t.kbits - p.len) = 0))

/-- An EXACT table's seeds put in its buckets; none on a duplicate key or an overfull bucket. -/
def fillExact (b : Bytes) (stamp : Nat) : Option LkTable :=
  let t := header b
  (List.range (count b)).foldl (fun acc i => match acc with
    | none => none
    | some u =>
      let e := exactEntry t b i stamp
      match u.wayOf e.key, u.freeWay e.key with
      | none, some loc => some (u.putEntry loc e)
      | _, _ => none) (some t)

/-- An LPM_HASH table's seeds expanded; none on a duplicate, an overlong prefix or an overfull
bucket (09 R370). -/
def fillHash (b : Bytes) : Option LkTable :=
  let t := header b
  let ps := prefixes b
  if ps.all (fun p => decide ((ps.filter (LkTable.samePrefix p)).length = 1 ∧
      p.len ≤ max t.rbits (t.lengths.foldl max 0))) = false then none
  else
    let t := { t with prefixes := ps }
    let regs := ((ps.filter (fun p => decide (t.rbits < p.len))).map (fun p => t.region p.value)).eraseDups
    regs.foldl (fun acc r => match acc with
      | none => none
      | some u => u.rebuild r) (some t)

/-- The entries with VALID set. -/
def validEntries (t : LkTable) : Nat := (t.lpm.filter (fun e => e.2.valid)).length

/-- The first chunk, from 0, that no table's filter entry names. -/
def freeChunk (l : Lkp) : Option Nat :=
  (List.range 256).find? (fun c => !(l.chunks.any (fun e => decide (e.1 / 65536 = c))) &&
    !(l.tables.any (fun t => t.2.filter.any (fun f =>
      f.2.bits.toNat.testBit 63 && decide (field f.2.bits.toNat 48 8 = c ∧ t.2.kind = 2)))))

/-- The chunk entries of a first-level index: each low half covered by a prefix longer than 16
bits, with the longest such prefix. -/
def chunkEntries (t : LkTable) (r : Nat) : Tab FilterEntry :=
  let ps := t.inRegion r
  let add := fun (acc : Tab FilterEntry) (p : Prefix) =>
    (List.range (2 ^ (32 - p.len))).foldl (fun a j =>
      let k := p.value % 65536 + j
      let bits := BitVec.ofNat 64 (pack [(1, 63, 1), (p.len, 32, 8), (p.result.toNat, 0, 32)])
      let new : FilterEntry := { bits := bits, faulty := false }
      match Tab.find a k with
      | some e => if field e.bits.toNat 32 8 ≤ p.len then Tab.ins a k new else a
      | none => Tab.ins a k new) acc
  ps.foldl add []

/-- One first-level index of a trie given its chunk; none when no chunk is free. -/
def trieRegion (n r : Nat) (l : Lkp) : Option Lkp :=
  match Tab.find l.tables n, freeChunk l with
  | some t, some c =>
    let ents := chunkEntries t r
    let f : FilterEntry := { bits := BitVec.ofNat 64 (pack ([(1, 63, 1), (c, 48, 8)] ++ t.defaultBits r)), faulty := false }
    some { (l.setTable n { t with filter := Tab.ins t.filter r f }) with
           chunks := ents.foldl (fun acc e => Tab.ins acc (c * 65536 + e.1) e.2) l.chunks }
  | _, _ => none

/-- A trie table's seeds (09 R356). -/
def fillTrie (n : Nat) (b : Bytes) (l : Lkp) : Option Lkp :=
  let t := header b
  let ps := prefixes b
  if ps.all (fun p => decide ((ps.filter (LkTable.samePrefix p)).length = 1)) = false then none
  else
    let t := { t with prefixes := ps }
    let regs := ((ps.filter (fun p => decide (16 < p.len))).map (fun p => t.region p.value)).eraseDups
    regs.foldl (fun acc r => match acc with
      | none => none
      | some u => trieRegion n r u) (some (l.setTable n t))

/-- The chunk entry of one low half of a first-level index: that of the longest prefix beneath the index that covers it
(09 R356). -/
def chunkAt (t : LkTable) (r k : Nat) : Option FilterEntry :=
  (LkTable.longest ((t.inRegion r).filter (fun p =>
      decide (p.value % 65536 / 2 ^ (32 - p.len) = k / 2 ^ (32 - p.len))))).map
    (fun p => { bits := BitVec.ofNat 64 (pack [(1, 63, 1), (p.len, 32, 8), (p.result.toNat, 0, 32)]), faulty := false })

/-- The chunk entries beneath a prefix brought in line with the table's prefixes, in the chunk of its first-level
index: a chunk is taken where the index has none, and freed where no entry is left; none where no chunk is free. -/
def trieLow (n : Nat) (p : Prefix) (l : Lkp) : Option Lkp :=
  match Tab.find l.tables n with
  | none => none
  | some t =>
    let r := t.region p.value
    let f := (Lkp.trieFilter t r).bits.toNat
    let c := if f.testBit 63 then some (field f 48 8) else freeChunk l
    match c with
    | none => none
    | some c =>
      let ch := (List.range (2 ^ (32 - p.len))).foldl (fun a j =>
        let k := p.value % 65536 + j
        match chunkAt t r k with
        | some e => Tab.ins a (c * 65536 + k) e
        | none => Tab.del a (c * 65536 + k)) l.chunks
      let left := ch.any (fun e => decide (e.1 / 65536 = c))
      let bits := f % 2 ^ 41 + (if left then 2 ^ 63 + c * 2 ^ 48 else 0)
      some { (l.setTable n { t with filter := Tab.ins t.filter r { bits := BitVec.ofNat 64 bits, faulty := false } }) with
             chunks := ch }

/-- The default fields of the first-level entries a prefix covers brought in line with the table's prefixes. -/
def trieHigh (n : Nat) (p : Prefix) (l : Lkp) : Lkp :=
  match Tab.find l.tables n with
  | none => l
  | some t =>
    l.setTable n { t with filter := t.filter.map (fun e =>
      if t.covers e.1 p then
        (e.1, { bits := BitVec.ofNat 64 (e.2.bits.toNat / 2 ^ 41 * 2 ^ 41 + pack (t.defaultBits e.1)), faulty := false })
      else e) }

/-- A trie table brought in line with its prefixes where one of them went, came or changed (09 R356, R365). -/
def trieFix (n : Nat) (p : Prefix) (l : Lkp) : Option Lkp :=
  if 16 < p.len then trieLow n p l else some (trieHigh n p l)

/-- Whether all tables together keep the pools of 09 R344. -/
def poolsOk (l : Lkp) : Bool :=
  let sum := fun (f : LkTable → Nat) => l.tables.foldl (fun a t => a + f t.2) 0
  decide (sum (fun t => if t.kind = 0 ∧ t.place = 0 then 2 ^ t.blog2 else 0) ≤ 32768) &&
  decide (sum (fun t => if t.kind = 0 then 0 else 2 ^ t.rbits) ≤ 1048576) &&
  decide (sum (fun t => if t.kind = 0 ∧ t.learn ≠ 0 then 2 ^ t.blog2 else 0) ≤ 262144) &&
  decide (sum (fun t => if t.kind = 0 ∧ t.place = 1 ∧ t.learn = 0 then 4 * 2 ^ t.blog2 else 0) ≤ 4194304) &&
  decide (sum validEntries ≤ 4194304)

/-- A record loaded (09 R365, R370); none where it is refused with code 0x86. -/
def load (l : Lkp) (inst : Nat) (b : Bytes) (stamp : Nat) : Option Lkp :=
  if headerOk inst b && entriesOk b then
    let r := if (header b).kind = 0 then (fillExact b stamp).map (l.setTable inst)
      else if (header b).kind = 1 then (fillHash b).map (l.setTable inst)
      else fillTrie inst b l
    match r with
    | some l' => if poolsOk l' then some l' else none
    | none => none
  else none

/-- Whether a record changes what 09 R365 lets no update change. -/
def sameShape (a b : LkTable) : Bool :=
  decide (a.kind = b.kind ∧ a.place = b.place ∧ a.keywords = b.keywords ∧ a.datawords = b.datawords ∧
    a.learn = b.learn ∧ a.blog2 = b.blog2 ∧ a.rbits = b.rbits ∧ a.kbits = b.kbits ∧
    a.lengths = b.lengths)

end Seed

end Sys2Proof.Machine
end

