-- ==== Sys2Proof/Machine/Keys.lean ====
section
/-! DEFINITION. The key hierarchy unit and the levee as data: domain slots, key commands, the DRBG's
state, the vault, the event log, the tamper sources and the unlock exchange (12, 13). -/

namespace Sys2Proof.Machine
open Sys2Proof.Bits

/-- How a domain key came to be (12 R464). -/
inductive Origin where
  | import | derive | unwrap | generate
deriving DecidableEq, Repr

/-- Their codes (12 R487). -/
def Origin.code : Origin → Nat
  | .import => 0
  | .derive => 1
  | .unwrap => 2
  | .generate => 3

/-- A domain slot (12 R464). `key` is none while the slot is EMPTY; USAGE is the four bits of
R461. -/
structure Domain where
  key : Option Cell
  gen : Nat
  usage : Nat
  origin : Origin
  depth : Nat
  derived : Bool
  parent : Nat
  parentGen : Nat
deriving DecidableEq, Repr

/-- An EMPTY slot at GENERATION 0. -/
def Domain.empty : Domain :=
  { key := none, gen := 0, usage := 0, origin := .import, depth := 0, derived := false,
    parent := 0, parentGen := 0 }

/-- An accepted domain command (12 R471): its arguments and the PARENT generation it holds by REFS, with its depth.
`refused` is the result of the checks made at acceptance, `att` the response an ATTEST captured. -/
structure KeyCmd where
  code : Nat
  host : Bool
  slot : Nat
  parent : Nat
  usage : Nat
  data : List Word
  parentGen : Nat
  parentDepth : Nat
  refused : Option Nat
  att : Option Bytes
deriving DecidableEq, Repr

/-- An invalidated generation whose sweep runs (12 R469): the slot, the channels still to visit
(near by index, far by 2^24 + index). -/
structure Sweep where
  slot : Nat
  gen : Nat
  todo : List Nat
deriving DecidableEq, Repr

/-- An invalidated key not yet destroyed (12 R470). -/
structure DeadKey where
  slot : Nat
  gen : Nat
  key : Cell
deriving DecidableEq, Repr

/-- The key hierarchy unit. `dtk`, `ak` and `uk` are the device keys, `k1`, `k2`, `kt` the boot keys of 15 R546, and
`scramble` and `check` the scrambling and check keys of R474. -/
structure Key where
  dtk : Option Cell
  ak : Option Cell
  uk : Option Cell
  k1 : Option Cell
  k2 : Option Cell
  kt : Option Cell
  scramble : Bytes
  check : Bytes
  slots : Tab Domain
  dead : List DeadKey
  sweeps : List Sweep
  cmds : List KeyCmd
  digestPending : Bool
  digest : Bytes
  drbg : Option Drbg
  healthFail : Bool
  sourceRemoved : Bool
deriving DecidableEq, Repr

/-- The unit after reset: no key stands, the scrambling and check keys read 0 (log entry 100). -/
def Key.reset : Key :=
  { dtk := none, ak := none, uk := none, k1 := none, k2 := none, kt := none, scramble := zeros 32, check := zeros 32
    slots := [], dead := [], sweeps := [], cmds := [], digestPending := false, digest := zeros 48, drbg := none
    healthFail := false, sourceRemoved := false }

namespace Key

/-- A domain slot. -/
def slot (k : Key) (n : Nat) : Domain := Tab.get (fun _ => Domain.empty) k.slots n

/-- A domain slot replaced. -/
def setSlot (k : Key) (n : Nat) (d : Domain) : Key :=
  { k with slots := Tab.put (fun _ => Domain.empty) k.slots n d }

/-- Whether a slot is VALID. -/
def valid (k : Key) (n : Nat) : Bool := (k.slot n).key.isSome

/-- The key a channel's DOMAIN and DOMAIN_GEN name, if its generation stands (10 R406). -/
def stands (k : Key) (n gen : Nat) : Bool := k.valid n && decide ((k.slot n).gen = gen)

/-- The cell of a slot's generation, while it stands or a command's reference keeps it from being destroyed (12
R470). -/
def cellOf (k : Key) (n gen : Nat) : Option Cell :=
  if k.stands n gen then (k.slot n).key
  else (k.dead.find? (fun d => decide (d.slot = n ∧ d.gen = gen))).map (fun d => d.key)

/-- Whether a sweep of a slot runs. -/
def sweeping (k : Key) (n : Nat) : Bool := k.sweeps.any (fun w => decide (w.slot = n))

/-- The slots whose PARENT and PARENT_GEN name an invalidated generation (12 R468). -/
def children (k : Key) (inv : List (Nat × Nat)) : List (Nat × Nat) :=
  k.slots.filterMap (fun e =>
    if e.2.key.isSome && e.2.derived && inv.contains (e.2.parent, e.2.parentGen) &&
        !(inv.contains (e.1, e.2.gen)) then some (e.1, e.2.gen) else none)

/-- Every generation a step invalidates, down the chain: DEPTH is at most 3. -/
def cascade (k : Key) (inv : List (Nat × Nat)) : List (Nat × Nat) :=
  Nat.repeat (fun l => l ++ k.children l) 3 inv

/-- The slot left EMPTY at the next generation; its key waits for its REFS (R470). -/
def kill (k : Key) (e : Nat × Nat) : Key :=
  let d := k.slot e.1
  match d.key with
  | none => k
  | some key =>
    let k : Key := { k with dead := k.dead ++ [DeadKey.mk e.1 d.gen key] }
    k.setSlot e.1 { Domain.empty with gen := (d.gen + 1) % 65536 }

/-- The configuration digest's domain table (12 R481); `policy` gives a slot's policy bit. -/
def table (k : Key) (policy : Nat → Bool) : Bytes :=
  (List.range 1024).flatMap (fun n =>
    let d := k.slot n
    [BitVec.ofNat 8 (b2n d.key.isSome), BitVec.ofNat 8 d.usage] ++ beBytes 2 d.gen ++
      beBytes 2 (d.parent + 32768 * b2n d.derived) ++ [BitVec.ofNat 8 (b2n (policy n)), 0])

end Key

/-! ### Blobs (12 R459–R462) -/

namespace Blob

/-- The plaintext of a domain blob (12 R461). -/
def domainPlain (key : Bytes) (slot usage dev : Nat) : Bytes :=
  padTo key 32 ++ beBytes 2 slot ++ beBytes 2 usage ++ beBytes 2 dev ++ zeros 10

/-- A domain blob unwrapped for a slot on a device; none for KEY_FAIL (12 R462). -/
def openDomain (kek blob : Bytes) (slot dev : Nat) : Option (Bytes × Nat) :=
  match Crypto.kwUnwrap kek blob with
  | none => none
  | some p =>
    let usage := beAt p 34 2
    let long := usage.testBit 0
    if beAt p 32 2 = slot ∧ (beAt p 36 2 = dev ∨ beAt p 36 2 = 0xFFFF) ∧ usage < 16 ∧
        beAt p 38 10 = 0 ∧ (long ∨ beAt p 16 16 = 0) then
      some (p.take (if long then 32 else 16), usage)
    else none

/-- Register data words as bytes: byte 4k in bits [7:0] of word k. -/
def ofWords (l : List Word) : Bytes := l.flatMap (fun w => leBytes 4 w.toNat)

/-- Bytes as data words. -/
def toWords (n : Nat) (b : Bytes) : List Word := (List.range n).map (fun i => BitVec.ofNat 32 (leAt b (4 * i) 4))

end Blob

/-! ### The levee (12 R477–R479, 13) -/

/-- One settable source's settings (13 R502). -/
structure TampSet where
  low : Nat
  high : Nat
  response : Nat
  count : Nat
  window : Nat
deriving DecidableEq, Repr

/-- What the filter of a source holds: the levee seconds that qualified, newest first, and
whether the current second qualifies (13 R492). -/
structure TampFilter where
  marks : List Nat
  now : Bool
deriving DecidableEq, Repr

/-- An outstanding challenge (13 R505): its bytes, purpose, recorded SEQ, and the second of its
START. -/
structure Challenge where
  bytes : Bytes
  purpose : Nat
  seq : Nat
deriving DecidableEq, Repr

/-- The levee domain, which keeps its state through every reset. `log` is the ring, newest
first. `bad` says that the vault check failed at the last LEVEE_CHECK (12 R477). `rtc` is the clock, `ticks` the crystal
ticks counted in the current levee second (R478), and `second` counts levee seconds. `xt32` says that the levee runs on the
crystal; `cmd` is the LEV_CMD in progress (12 R488), `checking` the response being checked. -/
structure Lev where
  root : Option Vault
  bad : Bool
  device : Nat
  prefSlot : Nat
  minSv : Nat
  lockDeferred : Bool
  lock : Bool
  rtc : Nat
  ticks : Nat
  log : List Bytes
  nextSeq : Nat
  settings : Tab TampSet
  filters : Tab TampFilter
  cond : Nat
  second : Nat
  disagree : Bool
  disagreeRun : Nat
  tempA : Nat
  tempB : Nat
  xt32 : Bool
  cfgResult : Nat
  configOpen : Bool
  chal : Option Challenge
  checking : Option Bytes
  chalCount : Nat
  fails : Nat
  holdoff : Nat
  seqLow : Nat
  derivedForm : Bool
  cmd : Option Nat
deriving DecidableEq, Repr

namespace Lev

/-- The factory settings of a source (13 R490, R502, R513). -/
def defaultSet (n : Nat) : TampSet :=
  if n = 1 ∨ n = 3 then { low := 0xFEC, high := 0x154, response := 1, count := 3, window := 10 }
  else if n = 2 ∨ n = 4 then { low := 0xF9C, high := 0x1B8, response := 2, count := 1, window := 1 }
  else { low := 0, high := 0, response := 1, count := 1, window := 1 }

/-- A source's settings. -/
def setting (l : Lev) (n : Nat) : TampSet := Tab.get defaultSet l.settings n

/-- A filter holding nothing. -/
def emptyFilter : TampFilter := { marks := [], now := false }

/-- A source's filter. -/
def filter (l : Lev) (n : Nat) : TampFilter := Tab.get (fun _ => emptyFilter) l.filters n

/-- A source's filter replaced. -/
def setFilter (l : Lev) (n : Nat) (f : TampFilter) : Lev :=
  { l with filters := Tab.put (fun _ => emptyFilter) l.filters n f }

/-- The root, none where the vault holds nothing. -/
def rootBytes (l : Lev) : Bytes := (l.root.map Vault.root).getD []

/-- Whether a LOCK is in force (13 R656). -/
def locked (l : Lev) : Bool := l.lock || l.lockDeferred

/-- Whether the condition of a source holds. -/
def holds (l : Lev) (n : Nat) : Bool := l.cond.testBit n

/-- The condition of a source begun or ended. -/
def setCond (l : Lev) (n : Nat) (b : Bool) : Lev := { l with cond := setBit l.cond n b }

/-- A log record written (12 R479): KIND, SOURCE, whether on VBAT, DETAIL. -/
def write (l : Lev) (kind source : Nat) (vbat : Bool) (detail : Nat) : Lev :=
  let r := beBytes 4 l.nextSeq ++ beBytes 6 (l.rtc / 2 ^ 15) ++ beBytes 2 (l.rtc % 2 ^ 15) ++
    [BitVec.ofNat 8 kind, BitVec.ofNat 8 source, BitVec.ofNat 8 (b2n vbat), BitVec.ofNat 8 detail]
  { l with log := (r :: l.log).take 128, nextSeq := l.nextSeq + 1 }

/-- Core cycle `n` of 0.8 ns passes: the clock counts a crystal tick where one ends in it, and all of a second's but its last,
which comes with the second's end (12 R478; log entry 73). -/
def crystal (l : Lev) (n : Nat) : Lev :=
  let k := (n + 1) * 32768 / 1250000000 - n * 32768 / 1250000000
  if k = 0 ∨ 32767 ≤ l.ticks then l else { l with rtc := (l.rtc + k) % 2 ^ 64, ticks := l.ticks + k }

/-- A second's end: the clock has counted 2^15 ticks in it (12 R478). -/
def secondTicks (l : Lev) : Lev := { l with rtc := (l.rtc + (2 ^ 15 - l.ticks)) % 2 ^ 64, ticks := 0 }

/-- The log record with a SEQ, if the ring still holds it. -/
def record (l : Lev) (seq : Nat) : Option Bytes :=
  l.log.find? (fun r => decide (beAt r 0 4 = seq % 2 ^ 32))

/-- The current count of a source: qualifying seconds within its window (13 R492). -/
def countOf (l : Lev) (n : Nat) : Nat :=
  ((l.filter n).marks.filter (fun m => decide (l.second < m + (l.setting n).window))).length

end Lev

/-! ### HBM (15) -/

/-- The stack's state (15 R554). -/
inductive HbmSt where
  | untrained | training | active | selfRefresh | waking | failed
deriving DecidableEq, Repr

/-- Their codes. -/
def HbmSt.code : HbmSt → Nat
  | .untrained => 0
  | .training => 1
  | .active => 2
  | .selfRefresh => 3
  | .waking => 4
  | .failed => 5

/-- An HBM request (08 R326): who asks (0–31 a polder, 32 the far-cache, 33 the steward, 34 the
performance monitor), its 12-bit age, the cycle it was made, the engine and context waiting, and the
tag (none for a BIND). A lookup's read is taken at its grant (09 R361): `out` is what it finds and `read` the place it
reads, way 0 of its bucket. -/
structure HbmReq where
  client : Nat
  age : Nat
  cycle : Nat
  engine : Nat
  ctx : Nat
  tag : Option Nat
  granted : Bool
  out : Option LkOut
  read : Option LkOut
deriving DecidableEq, Repr

/-- The HBM unit. `sealed_` holds the ciphertext of the far-store records written back and
`tags` their tags, by record number (R541, R547); `usedAt` is the cycle at which the last frame of tunnel-mode or
far-handle traffic left, `insertAt` that at which the insertion unit last applied a report or command (01 R51). -/
structure Hbm where
  st : HbmSt
  entered : Bool
  pcOk : Nat
  temp : Nat
  hot : Bool
  scrubPos : Nat
  reqs : List HbmReq
  sealed_ : Tab Bytes
  tags : Tab (BitVec 64)
  usedAt : Option Nat
  insertAt : Option Nat
deriving DecidableEq, Repr

/-- The stack before HBM_TRAIN. -/
def Hbm.reset : Hbm :=
  { st := .untrained, entered := false, pcOk := 0, temp := 0, hot := false, scrubPos := 0,
    reqs := [], sealed_ := [], tags := [], usedAt := none, insertAt := none }

namespace Hbm

/-- The base of a region, and the first address after the last region (15 R541). -/
def regionOf (addr : Nat) : Nat :=
  if addr < 0x40000000 then 0
  else if addr < 0x240000000 then 1
  else if addr < 0x250000000 then 2
  else if addr < 0x254000000 then 3
  else if addr < 0x264000000 then 4
  else if addr < 0x26C000000 then 5
  else if addr < 0x274000000 then 6
  else if addr < 0x284000000 then 7
  else if addr < 0x2A4000000 then 8
  else 9

/-- The byte address of far-store record r (15 R541). -/
def recordAddr (r : Nat) : Nat := 0x40000000 + 256 * r

/-- The tag of a record with ciphertext `c` (15 R547). -/
def tagOf (kt : Bytes) (u : Nat) (c : Bytes) : BitVec 64 :=
  let h := beNat (Crypto.aesEnc kt (zeros 16))
  let g := Crypto.ghash h (Crypto.blocks16 c ++ [beBytes 8 0 ++ beBytes 8 2048])
  BitVec.ofNat 64 (beNat ((xorBytes (beBytes 16 g) (Crypto.aesEnc kt (beBytes 16 u))).take 8))

/-- A record sealed and written (15 R547). -/
def sealRecord (m : Hbm) (k1 k2 kt : Bytes) (r : Nat) (p : Bytes) : Hbm :=
  let u := recordAddr r / 256
  let c := Crypto.xtsEnc k1 k2 u p
  { m with sealed_ := Tab.ins m.sealed_ r c, tags := Tab.ins m.tags r (tagOf kt u c) }

end Hbm

end Sys2Proof.Machine
end

