-- ==== Sys2Proof/Machine/State.lean ====
section
/-! DEFINITION. The state of the module as plain data: every unit's part, the register words, the
counters, the frames in flight and the queue of commands that wait; the reasons a step stops; and
the state right after reset. -/

namespace Sys2Proof.Machine
open Sys2Proof.Bits

/-- The reasons a step ends in a fault. -/
inductive Fault where
  /-- Raised by HBM_SCRUB_LINE for an address of region 9 or beyond the stack, which the spec says
  is never accessed (15 R541, R544). Safe: the machine stops where the hardware never goes. -/
  | hbmReserved (addr : Nat)
deriving DecidableEq, Repr

/-- The reasons a step is refused. -/
inductive Refusal where
  /-- Raised by an arm of `exec` whose instruction has no meaning yet. Safe: nothing happens. -/
  | notModelled (mnemonic : String)
  /-- Raised by a register access that is not naturally aligned or lies outside the 64 MiB of PF0
  BAR0: every register access is an aligned 32-bit access (00 R11) and no other address exists on
  that path. Safe: nothing happens. -/
  | badAddress (addr : Nat)
deriving DecidableEq, Repr

/-- The state. `pending` is the queue of waiting commands, oldest first. -/
structure State where
  pending : List Instr
  freeIdx : Nat
  now : Nat
  clockOn : Bool
  regs : Tab Word
  inforce : Tab Word
  live : Live
  ctr : Tab DWord
  latch : Tab Word
  bus : Bus
  flash : List Host.Cell
  pwr : Pwr
  boot : Boot
  upd : Upd
  run : Option Image
  portPolicy : Bytes
  channelPolicy : Bytes
  devNumber : Option Nat
  lanes : Tab Lane
  hostPorts : Tab Port
  linePorts : Tab Port
  hostOut : Tab PortOut
  lineOut : Tab PortOut
  pairs : Tab Pair
  framers : Tab Framer
  deskew : Tab (List DeskewBlock)
  circuits : Tab Circuit
  poolFree : Nat
  frames : Tab Frame
  nextFrame : Nat
  encSeq : Nat
  decSeq : Nat
  cls : Cls
  polders : Tab Polder
  engines : Tab Engine
  counts : Tab CountEntry
  pldAcc : Option PldAccess
  arbMax : Nat
  lkp : Lkp
  chn : Chn
  cph : Cph
  key : Key
  lev : Lev
  tim : Tim
  hbm : Hbm
  evt : Evt
  wrd : Wrd
  pp : Pp
  pmu : Pmu
  pcie : Pcie
  mbxPcie : Mbx
  mbxI2c : Mbx
  stw : Stw
  dbg : Dbg
deriving DecidableEq, Repr

/-! ### Units at reset -/

/-- A feed that is not there. -/
def Feed.absent : Feed := { present := false, cut := false, voltage := 0, current := 0 }

/-- The power and clock manager before anything is sampled. -/
def Pwr.reset : Pwr :=
  { feedA := Feed.absent, feedB := Feed.absent, level := none, shedTo := none, wait0 := none,
    wait1 := none, sysOk := false, hostRef := false, lineRef := false, aoFallback := false,
    boardId := 0, por := false, xt32 := false }

/-- Bring-up at its first state. -/
def Boot.reset : Boot :=
  { state := .powerOk, halted := false, code := 0, altSlotUsed := false, lanesIncomplete := false,
    keyImportFail := false, programFault := false, noTable := false, slot := 0, second := false,
    tries := 0, tryAt := 0, aborts := [], timeStart := 0, timeMs := 0, img := none, hbmTrained := false, imported := [],
    badPolders := [], warm := false }

/-- No update. -/
def Upd.reset : Upd := { state := .idle, step := 0, staged := none, result := 0, waiting := none, records := [] }

/-- Taps of a lane the image has not set. -/
def TapSet.zero : TapSet :=
  { pre3 := 0, pre2 := 0, pre1 := 0, main := 0, post1 := 0, swing := 0, fomEntry := 0, fomFloor := 0 }

/-- Receiver settings before any adaptation (DESIGN CHOICE, log entry 95). -/
def RxSettings.zero : RxSettings := { ctle := 0, ffe := 0, dfe := 0, gain := 0, phase := 0 }

/-- A transmitter that has sent nothing. -/
def LaneTx.reset : LaneTx := { queue := [], debt := 0, level := 4, run := 0, pattern := 0, sent := [] }

/-- A receiver that has received nothing. -/
def LaneRx.reset : LaneRx :=
  { level := 4, run := 0, symbols := [], debt := 0, expect := none, good := 0, bad := 0, lane := 0, seq := 0, fill := 8,
    adjust := 0, elastic := [], capBytes := [], prevCap := none, mismatch := false, checker := none }

/-- A lane after reset (04 R141, R173). SEQ of its first marker is 0, which the spec leaves open (04 R157; DESIGN CHOICE, log
entry 105). -/
def Lane.reset : Lane :=
  { stage := .doze, retired := false, held := false, wakeAsked := false, present := false, training := false,
    txInvert := false, rxInvert := false, taps := TapSet.zero, signal := false, bitLock := false,
    wordLock := false, rate := 0, fom := 0, fomMin := 255, goodWindows := 0, lowUpdates := 0,
    highUpdates := 0, fomArmed := true, cap := 0, settings := RxSettings.zero, trained := false, ask := none,
    coeff := none, tx := LaneTx.reset, rx := LaneRx.reset }

/-- A port after reset (05 R201). -/
def Port.reset : Port :=
  { pcsLock := false, fecLock := false, localFault := false, remoteFault := false, sendRemote := false, looped := 0,
    removed := false, retired := false, active := false }

/-- An output on which nothing was sent. -/
def PortOut.reset : PortOut := { busyUntil := 0, deficit := 0, sent := [] }

/-- A pair without a PORT_POLICY entry. -/
def Pair.reset : Pair :=
  { mode := .none, width := 0, bypassPermit := false, wakeOnSignal := false, expectPeer := false,
    maxFrame := 0, expansion := 0, txSci := 0, defEnc := .drop, defDec := .drop, profile := 0,
    peerDevice := 0, stopped := false, retired := false, out48 := false }

/-- One end's performance state at the start. -/
def PmEnd.reset : PmEnd :=
  { blocks := 0, errored := 0, defect := false, falseLock := false, unavailable := false,
    recent := [] }

/-- A framer after reset (06 R252: SYNC_STATE 3, STOPPED); a second that begins outside SYNC holds a
defect (R235); its rows of blocks begin with SEQ 0 (04 R157 leaves the first open: DESIGN CHOICE, log entry 105). -/
def Framer.reset : Framer :=
  { sync := .stopped, v := 0, badRun := 0, byScan := false, headers := 0,
    rx := [], off := 0, aligned := false, blockTotal := 0,
    errTotal := 0, rdiRx := false, mseq := 0, farTotals := none, farSeen := false,
    farPending := 0, near := { PmEnd.reset with defect := true }, far := PmEnd.reset, resume := none, monMs := none,
    passed := [], rxPos := 0, force := false, skewed := false, txHist := List.replicate 43 true, txSeq := 0,
    txTaken := 0, txPos := 0, txRow := none, txLeft := [] }

/-- A circuit after reset. -/
def Circuit.reset : Circuit :=
  { frames := [], playing := false, rxNext := 0, txSeq := 0, last := none, missed := 0,
    waiting := none, start := 0, instants := 0, cells := 0 }

/-- A count entry at 0. -/
def CountEntry.zero : CountEntry := { frames := 0, octets := 0 }

/-- The cipher array after reset: every pipe in service, none awake (11 R453). -/
def Cph.reset : Cph :=
  { inService := 2 ^ 64 - 1, fitN := 64, awake := 0, dealt := 0, waking := 0, n := 0, lanes := 0, failed := 0, test := none }

/-- The levee as the factory left it (12 R477, 13 R502). DESIGN CHOICE (log entry 4): a provisioned
root, device number 1, preferred slot 0, minimum security version 0, an empty log, no LOCK. -/
def Lev.factory : Lev :=
  { root := some (Vault.hold (beBytes 32 Config.factoryRoot.toNat) (zeros 32)), bad := false, device := 1, prefSlot := 0, minSv := 0,
    lockDeferred := false, lock := false, rtc := 0, ticks := 0, log := [], nextSeq := 0, settings := [],
    filters := [], cond := 0, second := 0, disagree := false, disagreeRun := 0, tempA := 0,
    tempB := 0, xt32 := true, cfgResult := 0, configOpen := false, chal := none, checking := none,
    chalCount := 0, fails := 0, holdoff := 0, seqLow := 0, derivedForm := false, cmd := none }

/-- The time subsystem after reset. -/
def Tim.reset : Tim :=
  { bases := [], prior := [], pulses := [], caps := [], cal := [], tsq := [], tsqLost := false, tsqArmed := true,
    noBoardDelay := false }

/-- The event controller after a reset that clears its latch. -/
def Evt.reset : Evt :=
  { pending := 0, standing := [], hist := [], nextSeq := 0, lostMark := false, c4 := none,
    held := [], pba := 0, sent := [] }

/-- The wardens after a cold reset: neither holds the burgee (16 R654). -/
def Wrd.reset : Wrd :=
  { stateA := .inService, stateB := .inService, holder := none, lastHolder := none, guard := false,
    leaseFrom := 0, lastReport := 0, noTake := none }

/-- Pair protection after reset: SOLO (16 R573). -/
def Pp.reset : Pp :=
  { role := .solo, burgee := false, outputs := true, yielding := false, bySwitch := false,
    byLock := false, guard := false, fresh := false, lost := false, peer := none, peerRole := 0,
    seq := 0, sent := [] }

/-- The performance monitor after reset. -/
def Pmu.reset : Pmu :=
  { counters := [], admitted := 0, ring := [], ext := [], extNext := 0, asks := [], lostMark := false,
    armed := true, taken := 0 }

/-- The endpoint after reset. DESIGN CHOICE (log entry 9): PERST_N deasserted. -/
def Pcie.reset : Pcie :=
  { perst := false, cfg0 := [], cfg1 := [], msix := [], up := false, width := 0, speed := 0 }

/-- An empty mailbox. -/
def Mbx.reset : Mbx := { req := [], busy := false, answer := none, drop := false, rsp := [], rspReady := false }

/-- The steward before its firmware runs. -/
def Stw.reset : Stw := { up := false, restarting := false, halted := false, queues := [], fw := none }

/-- The debug port closed (12 R484). -/
def Dbg.reset : Dbg := { ir := 0x01, dr := .idcode jtagId, gate := false, open_ := false }

/-- The machine right after a cold reset, as the spec's Reset columns give it (00 R17, R18); the
levee holds its factory state and the flash is erased. -/
def State.reset : State :=
  { pending := [], freeIdx := 0, now := 0, clockOn := false, regs := [], inforce := [],
    live := { waiting := [], pendingUnits := [] }, ctr := [], latch := [],
    bus := { rdata := 0, status := 0, bytes := [] }, flash := [], pwr := Pwr.reset,
    boot := Boot.reset, upd := Upd.reset, run := none, portPolicy := [], channelPolicy := [],
    devNumber := none, lanes := [], hostPorts := [], linePorts := [], hostOut := [], lineOut := [],
    pairs := [], framers := [], deskew := [], circuits := [], poolFree := 16384, frames := [],
    nextFrame := 0, encSeq := 0, decSeq := 0, cls := Cls.empty, polders := [], engines := [],
    counts := [], pldAcc := none, arbMax := 0, lkp := Lkp.empty, chn := Chn.empty, cph := Cph.reset,
    key := Key.reset, lev := Lev.factory, tim := Tim.reset, hbm := Hbm.reset, evt := Evt.reset,
    wrd := Wrd.reset, pp := Pp.reset, pmu := Pmu.reset, pcie := Pcie.reset, mbxPcie := Mbx.reset,
    mbxI2c := Mbx.reset, stw := Stw.reset, dbg := Dbg.reset }

end Sys2Proof.Machine
end

