-- ==== Sys2Proof/Machine/Ops.lean ====
section
/-! DEFINITION. The named operations over the state that the commands share: register words and
counters, shadows, events with their history and messages, the performance monitor's counts and
samples, frames dropped and outputs stomped, the C4 state. -/

namespace Sys2Proof.Machine
open Sys2Proof.Bits

/-- What a meaning answers. -/
abbrev Out : Type := Host.Outcome State Fault Refusal

namespace State

/-! ### Register words and counters -/

/-- The stored word of a register: for an SH field, its shadow (00 R13). -/
def reg (s : State) (a : Nat) : Word := Tab.get Reg.resetOf s.regs a

/-- The stored word as a number. -/
def regN (s : State) (a : Nat) : Nat := (s.reg a).toNat

/-- A stored word replaced. -/
def setReg (s : State) (a : Nat) (v : Word) : State :=
  { s with regs := Tab.put Reg.resetOf s.regs a v }

/-- A field of a stored word. -/
def regField (s : State) (a lo n : Nat) : Nat := field (s.regN a) lo n

/-- A field of a stored word replaced. -/
def setField (s : State) (a lo n x : Nat) : State :=
  s.setReg a (BitVec.ofNat 32 (Bits.setField (s.regN a) lo n x))

/-- Bits of a stored word set. -/
def orReg (s : State) (a m : Nat) : State := s.setReg a (s.reg a ||| BitVec.ofNat 32 m)

/-- Several words written in order. -/
def setRegs (s : State) (l : List (Nat × Word)) : State :=
  { s with regs := Tab.putAll Reg.resetOf s.regs l }

/-- Words at rising addresses from `a`. -/
def setWords (s : State) (a : Nat) (l : List Word) : State :=
  s.setRegs ((List.range l.length).map (fun i => (a + 4 * i, l.getD i 0)))

/-- `n` words from `a`. -/
def words (s : State) (a n : Nat) : List Word := (List.range n).map (fun i => s.reg (a + 4 * i))

/-- The bytes of `n` words from `a`, byte 4k in bits [7:0] of word k. -/
def regBytes (s : State) (a n : Nat) : Bytes := (s.words a n).flatMap (fun w => leBytes 4 w.toNat)

/-- The value in force of a register with SH fields (17 R592). -/
def inForce (s : State) (a : Nat) : Nat :=
  match Tab.find s.inforce a with
  | some v => v.toNat
  | none => s.regN a

/-- A field of the value in force. -/
def forceField (s : State) (a lo n : Nat) : Nat := field (s.inForce a) lo n

/-- A 64-bit counter (05 R202). -/
def counter (s : State) (a : Nat) : DWord := Tab.get (fun _ => 0) s.ctr a

/-- A counter raised by `n`, wrapping. -/
def add (s : State) (a n : Nat) : State :=
  { s with ctr := Tab.put (fun _ => 0) s.ctr a (s.counter a + BitVec.ofNat 64 n) }

/-- A counter raised by one. -/
def bump (s : State) (a : Nat) : State := s.add a 1

/-- A 32-bit counter held in a register word, raised by `n`, wrapping (04 R175). -/
def addReg (s : State) (a n : Nat) : State := s.setReg a (s.reg a + BitVec.ofNat 32 n)

/-- The counters of a range of addresses at 0. -/
def clearCtr (s : State) (lo hi : Nat) : State :=
  { s with ctr := s.ctr.filter (fun e => decide (e.1 < lo ∨ hi ≤ e.1)) }

/-- Words of a range of addresses at their Reset values. -/
def clearRegs (s : State) (lo hi : Nat) : State :=
  { s with regs := s.regs.filter (fun e => decide (e.1 < lo ∨ hi ≤ e.1)) }

/-- The index of a fresh free value, and the state that has used it. -/
def fresh (s : State) : Nat × State := (s.freeIdx, { s with freeIdx := s.freeIdx + 1 })

/-! ### Time (14 R514–R516) -/

/-- The free-running counter after `n` core cycles (14 R514). -/
def countAt (n : Nat) : Nat := 262144 * (n / 5) + 52429 * (n % 5)

/-- The free-running counter now. -/
def count (s : State) : Nat := countAt s.now

/-- Whole nanoseconds of the counter. -/
def nanos (s : State) : Nat := s.count / 65536

/-- The free-running second (14 R516), its low 32 bits. -/
def stamp (s : State) : Nat := s.count / (65536 * 10 ^ 9) % 2 ^ 32

/-- The free-running millisecond (14 R516). -/
def milli (s : State) : Nat := s.count / (65536 * 10 ^ 6)

/-! ### Parts of the state by number -/

/-- Lane 0–31 host, 32–63 line, 64–65 PAIR. -/
def lane (s : State) (l : Nat) : Lane := Tab.get (fun _ => Lane.reset) s.lanes l
/-- A lane replaced. -/
def setLane (s : State) (l : Nat) (v : Lane) : State :=
  { s with lanes := Tab.put (fun _ => Lane.reset) s.lanes l v }
/-- A port. -/
def port (s : State) (line : Bool) (n : Nat) : Port :=
  Tab.get (fun _ => Port.reset) (if line then s.linePorts else s.hostPorts) n
/-- A port replaced. -/
def setPort (s : State) (line : Bool) (n : Nat) (v : Port) : State :=
  if line then { s with linePorts := Tab.put (fun _ => Port.reset) s.linePorts n v }
  else { s with hostPorts := Tab.put (fun _ => Port.reset) s.hostPorts n v }
/-- The output side of a port. -/
def portOut (s : State) (line : Bool) (n : Nat) : PortOut :=
  Tab.get (fun _ => PortOut.reset) (if line then s.lineOut else s.hostOut) n
/-- The output side replaced. -/
def setPortOut (s : State) (line : Bool) (n : Nat) (v : PortOut) : State :=
  if line then { s with lineOut := Tab.put (fun _ => PortOut.reset) s.lineOut n v }
  else { s with hostOut := Tab.put (fun _ => PortOut.reset) s.hostOut n v }
/-- A port pair. -/
def pair (s : State) (n : Nat) : Pair := Tab.get (fun _ => Pair.reset) s.pairs n
/-- A port pair replaced. -/
def setPair (s : State) (n : Nat) (v : Pair) : State :=
  { s with pairs := Tab.put (fun _ => Pair.reset) s.pairs n v }
/-- A framer. -/
def framer (s : State) (n : Nat) : Framer := Tab.get (fun _ => Framer.reset) s.framers n
/-- A framer replaced. -/
def setFramer (s : State) (n : Nat) (v : Framer) : State :=
  { s with framers := Tab.put (fun _ => Framer.reset) s.framers n v }
/-- A circuit. -/
def circuit (s : State) (n : Nat) : Circuit := Tab.get (fun _ => Circuit.reset) s.circuits n
/-- A circuit replaced. -/
def setCircuit (s : State) (n : Nat) (v : Circuit) : State :=
  { s with circuits := Tab.put (fun _ => Circuit.reset) s.circuits n v }
/-- A polder. -/
def polder (s : State) (n : Nat) : Polder := Tab.get (fun _ => Polder.reset) s.polders n
/-- A polder replaced. -/
def setPolder (s : State) (n : Nat) (v : Polder) : State :=
  { s with polders := Tab.put (fun _ => Polder.reset) s.polders n v }
/-- An engine 0–1,023. -/
def engine (s : State) (n : Nat) : Engine := Tab.get (fun _ => Engine.empty) s.engines n
/-- An engine replaced. -/
def setEngine (s : State) (n : Nat) (v : Engine) : State :=
  { s with engines := Tab.put (fun _ => Engine.empty) s.engines n v }
/-- A frame in the module. -/
def frame (s : State) (id : Nat) : Option Frame := Tab.find s.frames id
/-- A frame replaced. -/
def setFrame (s : State) (id : Nat) (f : Frame) : State :=
  { s with frames := Tab.ins s.frames id f }
/-- A mailbox. -/
def mbx (s : State) : MbxId → Mbx
  | .pcie => s.mbxPcie
  | .i2c => s.mbxI2c
/-- A mailbox replaced. -/
def setMbx (s : State) (m : MbxId) (v : Mbx) : State :=
  match m with
  | .pcie => { s with mbxPcie := v }
  | .i2c => { s with mbxI2c := v }

/-! ### Conditions of the whole module -/

/-- Bring-up has reached RUN. -/
def running (s : State) : Bool := decide (s.boot.state = .run)

/-- A feed is present. -/
def fed (s : State) : Bool := s.pwr.feedA.present || s.pwr.feedB.present

/-- FAULT_N is asserted (16 R558): a source stands, a C4 fault is latched, or bring-up is halted.
Source 204 stands while a LOCK is in force (13 R512). -/
def faultN (s : State) : Bool :=
  !s.evt.standing.isEmpty || s.evt.c4.isSome || s.boot.halted || s.lev.locked

/-- A source stands; source 204 for the whole of a LOCK (13 R512). -/
def stands (s : State) (src : Nat) : Bool :=
  (Tab.find s.evt.standing src).isSome || (decide (src = 204) && s.lev.locked)

/-- EVENT_N is asserted (16 R559). -/
def eventN (s : State) : Bool :=
  (List.range 8).any (fun k =>
    decide (BitVec.extractLsb' (32 * k) 32 s.evt.pending &&& ~~~(s.reg (Reg.evtMask + 4 * k)) ≠ 0))

/-- The image digest: SHA-384 of the running image's header, kept with the image (03 R103). -/
def imageDigest (s : State) : Bytes :=
  match s.run with
  | some i => Crypto.sha384 i.header
  | none => zeros 48

/-! ### Captures -/

/-- A capture register: captured only while VALID is 0, OVERFLOW set otherwise. -/
def capture (s : State) (a : Nat) (fields : List (Nat × Nat × Nat)) : State :=
  if s.regField a 31 1 = 1 then s.orReg a 0x40000000
  else s.setReg a (BitVec.ofNat 32 (0x80000000 ||| (field (s.regN a) 30 1 * 0x40000000) ||| pack fields))

/-- The word beside a capture register, written only in the same capture. -/
def captureWith (s : State) (a : Nat) (fields : List (Nat × Nat × Nat)) (more : List (Nat × Word)) :
    State :=
  if s.regField a 31 1 = 1 then s.capture a fields else (s.capture a fields).setRegs more

end State

/-! ### Events (16 R556–R566) -/

namespace Evt

/-- Where the standing entry of a source lies in the history queue. -/
def repeatEntry (h : List HistEntry) (seq : Nat) : List HistEntry :=
  h.map (fun e => if e.seq = seq then { e with repeats := min 255 (e.repeats + 1) } else e)

end Evt

namespace State

/-- A function is in D3hot (19 R620, R625): PowerState of its Power Management capability, which lies at
0x40 (log entry 9). -/
def d3hot (cfg : Tab Word) : Bool := decide ((Tab.get (fun _ => 0) cfg 0x44).toNat % 4 = 3)

/-- MSI-X is enabled and PF0 may issue memory requests (16 R560, 19 R621): the MSI-X Enable bit and
Bus Master Enable in PF0's configuration space. The capability lies at 0x90 (log entry 9). -/
def msixOn (s : State) : Bool :=
  (Tab.get (fun _ => 0) s.pcie.cfg0 0x90).getLsbD 31 &&
    (Tab.get (fun _ => 0) s.pcie.cfg0 0x04).getLsbD 2

/-- A vector's mask, or the Function Mask (16 R560); vectors are masked at reset (log entry 9). D3hot stops
the endpoint's requests (19 R625): a message called for then waits as under a mask (log entry 28). -/
def msixMasked (s : State) (n : Nat) : Bool :=
  d3hot s.pcie.cfg0 || (Tab.get (fun _ => 0) s.pcie.cfg0 0x90).getLsbD 30 ||
    (Tab.get (fun a => if a % 16 = 12 then 1 else 0) s.pcie.msix (16 * n + 12)).getLsbD 0

/-- The message of a vector called for (16 R560). -/
def msixCall (s : State) (n : Nat) : State :=
  if !s.msixOn then s
  else if s.msixMasked n then { s with evt := { s.evt with pba := s.evt.pba ||| (1#256 <<< n) } }
  else { s with evt := { s.evt with sent := n :: s.evt.sent } }

/-- The pending bit set and the message called for (16 R559, R560). -/
def pend (s : State) (src : Nat) : State :=
  let was := s.evt.pending.getLsbD src
  let s := { s with evt := { s.evt with pending := s.evt.pending ||| (1#256 <<< src) } }
  if was ∨ (s.reg (Reg.evtMask + 4 * (src / 32))).getLsbD (src % 32) then s else s.msixCall src

/-- One history entry, or the loss of it (16 R565, R566). -/
def histWrite (s : State) (e : HistEntry) : State :=
  if 16 ≤ s.evt.hist.length then
    let s := s.bump (Reg.wrdCtr + 0x08)
    let s := s.orReg Reg.wrdEvent (2 ^ 3)
    ({ s with evt := { s.evt with lostMark := true } }).pend 232
  else
    let e := { e with seq := s.evt.nextSeq, overflow := s.evt.lostMark }
    ({ s with evt := { s.evt with
        hist := s.evt.hist ++ [e]
        nextSeq := (s.evt.nextSeq + 1) % 2 ^ 32
        lostMark := false } }).bump Reg.wrdCtr

/-- A history entry of a raise. -/
def entry (src cause cls time : Nat) (esc held : Bool) : HistEntry :=
  { seq := 0, source := src, cause := cause, cls := cls, escalated := esc, held := held,
    overflow := false, repeats := 0, time := time }

/-- A source begins to stand, or its standing changes class (16 R557, R561, R562); the raise's entry is that just written, if
the queue had room for it. -/
def stand (s : State) (src cls cause unit : Nat) (timer : Option Nat) : State :=
  let seq := if s.evt.lostMark then 2 ^ 32 else (s.evt.nextSeq + 2 ^ 32 - 1) % 2 ^ 32
  let st : Standing :=
    { cls := cls, timer := timer, escMs := s.regField Reg.evtControl 0 16, cause := cause, unit := unit, seq := seq }
  { s with evt := { s.evt with standing := Tab.ins s.evt.standing src st } }

/-- A raise delivered, its C4 consequences aside (16 R556–R562). A LOCK that was lifted before its held raise is delivered
leaves nothing standing (13 R512). -/
def deliverCore (s : State) (src cause cls time : Nat) (esc held : Bool) (unit : Nat := 0) : State :=
  let s := s.pend src
  if cls = 0 then s
  else
    let e := entry src cause cls time esc held
    match Tab.find s.evt.standing src with
    | some st =>
      if cls = st.cls then
        { s with evt := { s.evt with hist := Evt.repeatEntry s.evt.hist st.seq } }
      else if cls = 3 ∧ st.cls = 2 then (s.histWrite e).stand src 3 cause unit none
      else s.histWrite e
    | none =>
      let s := s.histWrite e
      if cls = 2 then
        if src = 204 then (if s.lev.locked then s.stand src 2 cause unit none else s) else s.stand src 2 cause unit (some s.now)
      else if cls = 3 then s.stand src 3 cause unit none
      else s

/-- A raise that is not C4: held during bring-up (03 R94), delivered otherwise. -/
def raiseLow (s : State) (src cause cls : Nat) (unit : Nat := 0) : State :=
  if s.running then s.deliverCore src cause cls s.nanos false false unit
  else { s with evt := { s.evt with held := s.evt.held ++ [{ source := src, cause := cause, unit := unit, cls := cls, time := s.nanos }] } }

end State

/-! ### Performance monitor (18) -/

namespace State

/-- One counter moved on by `n`, with its wrap (18 R603). -/
def pmuAdd (s : State) (c n : Nat) : State :=
  let v := Tab.get (fun _ => 0) s.pmu.counters c + n
  let t := { s with pmu := { s.pmu with counters := Tab.put (fun _ => 0) s.pmu.counters c (v % 2 ^ 48) } }
  if 2 ^ 48 ≤ v then
    ((t.orReg (Reg.pmuWrap + 4 * (c / 32)) (2 ^ (c % 32))).orReg Reg.pmuEvent 1).raiseLow 240 0 0
  else t

/-- The counters whose selection in force names an event (18 R606). -/
def pmuSelected (s : State) (unit inst ev : Nat) : List Nat :=
  let cand := s.regs.filterMap (fun e =>
    if Reg.pmuCntCfg ≤ e.1 ∧ e.1 < Reg.pmuCntCfg + 2048 then some e.1 else none)
  let more := s.inforce.filterMap (fun e =>
    if Reg.pmuCntCfg ≤ e.1 ∧ e.1 < Reg.pmuCntCfg + 2048 then some e.1 else none)
  (((cand ++ more).eraseDups).filter (fun a =>
    decide (s.forceField a 31 1 = 1 ∧ s.forceField a 24 5 = unit ∧ s.forceField a 16 6 = inst ∧
      s.forceField a 0 8 = ev))).map (fun a => (a - Reg.pmuCntCfg) / 4)

/-- `n` occurrences of an event counted (18 R603, R605). -/
def pmuCount (s : State) (unit inst ev n : Nat) : State :=
  if s.regField Reg.pmuControl 0 1 = 1 then s
  else (s.pmuSelected unit inst ev).foldl (fun t c => t.pmuAdd c n) s

/-- Records held in the ring, or in the ring's extension and stage (18 R612, R617). -/
def ringCount (s : State) : Nat := s.pmu.ring.length + s.pmu.ext.length

/-- RING_THRESHOLD raised or armed again (18 R614). -/
def ringThreshold (s : State) : State :=
  let t := s.regField Reg.pmuRingThreshold 0 25
  if s.pmu.armed && decide (t ≤ s.ringCount) then
    (({ s with pmu := { s.pmu with armed := false } }).orReg Reg.pmuEvent 2).raiseLow 241 1 0
  else if !s.pmu.armed && decide (2 * s.ringCount < t) then
    { s with pmu := { s.pmu with armed := true } }
  else s

/-- A record lost (18 R611). -/
def sampleLost (s : State) : State :=
  (((({ s with pmu := { s.pmu with lostMark := true } }).bump (Reg.pmuCtr + 0x08)).orReg
    Reg.pmuEvent 4)).raiseLow 242 2 1

/-- The most records the ring in use holds: 8,192 on the die, 2^EXT_LOG2 with EXTEND (18 R612). -/
def ringCap (s : State) : Nat :=
  if s.regField Reg.pmuRingCtrl 29 1 = 1 then 2 ^ s.regField Reg.pmuRingCtrl 24 5 else 8192

/-- EXTEND: the ring on the die stages records for the extension (18 R612). -/
def ringStages (s : State) : Bool := decide (s.regField Reg.pmuRingCtrl 29 1 = 1)

/-- A record put into the ring (18 R612–R614); with EXTEND its write to the extension is asked for, at most 256 at once (08
R327), and a full stage takes no more. -/
def ringPut (s : State) (r : Bytes) : State :=
  if s.regField Reg.pmuRingCtrl 31 1 = 0 then s
  else
    let wrap := decide (s.regField Reg.pmuRingCtrl 30 1 = 1)
    if (s.ringStages ∧ 8192 ≤ s.pmu.ring.length) ∨ (s.ringCap ≤ s.ringCount ∧ wrap = false) then s.sampleLost
    else
      let r := if s.pmu.lostMark then r.set 3 (r.getD 3 0 ||| 0x10) else r
      let full := decide (s.ringCap ≤ s.ringCount)
      let s := if full then s.bump (Reg.pmuCtr + 0x10) else s
      let p := s.pmu
      let p := if full then (if p.ext.isEmpty then { p with ring := p.ring.drop 1 } else { p with ext := p.ext.drop 1 }) else p
      let asks := if s.ringStages && decide (p.asks.length < 256) then p.asks ++ [s.now] else p.asks
      (({ s with pmu := { p with ring := p.ring ++ [r], asks := asks, lostMark := false, taken := p.taken + 1 } }).bump Reg.pmuCtr).ringThreshold

/-- One record of 18 R609. -/
def sampleRecord (s : State) (eng code addr : Nat) (f : Frame) (lat : Nat) : Bytes :=
  leBytes 2 eng ++ [BitVec.ofNat 8 code,
    BitVec.ofNat 8 (pack [(b2n f.dec, 0, 1), (b2n f.bounded, 1, 1), (f.slot, 2, 2)])] ++
  leBytes 2 addr ++ zeros 2 ++ leBytes 8 f.tag ++ leBytes 4 lat ++ zeros 4 ++
  leBytes 8 (s.nanos % 2 ^ 48)

/-- Whether the sampler's filter admits a frame in an engine (18 R607). -/
def sampleAdmits (s : State) (eng : Nat) (f : Frame) : Bool :=
  let c := s.inForce Reg.pmuSampleCfg
  let dir := field c 28 2
  (decide (field c 27 1 = 1) || decide (field c 22 5 = eng / 32)) &&
    (decide (dir = 0) || dir.testBit (b2n f.dec))

/-- A sample event occurs (18 R607, R608). In MODE 1 a VERDICT of a frame chosen at its dispatch
is recorded; in MODE 2 a WORD at the watched address; in MODE 3 the events of CODE_MASK. -/
def sample (s : State) (eng code addr : Nat) (f : Frame) (lat : Nat) : State :=
  let c := s.inForce Reg.pmuSampleCfg
  let mode := field c 30 2
  let take := s.sampleAdmits eng f &&
    (if mode = 1 then decide (code = 2) && f.sampled
     else if mode = 2 then decide (code = 1 ∧ addr = field c 0 14)
     else if mode = 3 then decide (code ≠ 1) && (field c 14 6).testBit code
     else false)
  if take then s.ringPut (s.sampleRecord eng code addr f lat) else s

/-! ### Two-step records (14 R530) -/

/-- A time base, with the applies made so far. -/
def base (s : State) (b : Nat) : TimeBase := Tab.get (fun _ => TimeBase.zero) s.tim.bases b

/-- A time base as its readers see it: in the cycle of an apply still as before it (14 R519). -/
def baseSeen (s : State) (b : Nat) : TimeBase :=
  if (s.base b).anchor = s.count then Tab.get (fun _ => TimeBase.zero) s.tim.prior b else s.base b

/-- A time base replaced; its readers see it from the next cycle on (14 R519). -/
def setBase (s : State) (b : Nat) (t : TimeBase) : State :=
  { s with tim := { s.tim with bases := Tab.put (fun _ => TimeBase.zero) s.tim.bases b t
                               prior := Tab.put (fun _ => TimeBase.zero) s.tim.prior b (s.baseSeen b) } }

/-- The value of a base now, as its readers see it. -/
def baseNow (s : State) (b : Nat) : Nat := (s.baseSeen b).at_ s.count

/-- The value of a base now, from which its instants run on. -/
def baseOn (s : State) (b : Nat) : Nat := (s.base b).at_ s.count

/-- TS_BASE of a pair (14 R522). -/
def tsBase (s : State) (p : Nat) : Nat := s.regField (Reg.timPairBase + 4 * (p / 8)) (4 * (p % 8)) 3

/-- The base a frame's times are converted with: the one in force when its cipher stage began, or now
where it has not begun (14 R520). -/
def frameBase (s : State) (f : Frame) : Nat × TimeBase :=
  f.tbase.getD (s.tsBase f.pair, s.baseSeen (s.tsBase f.pair))

/-- TS_CTRL of a frame's metadata (08 R312). -/
def tsCtrl (f : Frame) : Nat := leAt f.meta_ 74 1

/-- A two-step record of a frame, the overflow bit aside (14 R530); `dep` is its corrected departure
time, none for DROPPED. -/
def tsRecord (s : State) (f : Frame) (dep : Option Int) : Bytes :=
  let (b, t) := s.frameBase f
  [BitVec.ofNat 8 (b2n dep.isNone), BitVec.ofNat 8 f.pair, BitVec.ofNat 8 (pack [(b2n f.dec, 0, 1), (b, 2, 3)]), 0] ++
    leBytes 2 (beAt f.meta_ 78 2) ++ zeros 2 ++ leBytes 12 (t.at_ f.count) ++
    leBytes 12 (match dep with
      | some d => t.at_ d
      | none => 0)

/-- TSQ_THRESHOLD. -/
def tsqLimit (s : State) : Nat := s.regField Reg.timControl 0 11

/-- A record queued, or lost where the queue is full (14 R530, R535). -/
def tsqPut (s : State) (r : Bytes) : State :=
  if 1024 ≤ s.tim.tsq.length then
    ((({ s with tim := { s.tim with tsqLost := true } }).bump (Reg.timCtr + 0x08)).orReg Reg.timEvent 16).raiseLow 212 4 1
  else
    let r := if s.tim.tsqLost then r.set 2 (r.getD 2 0 ||| 2) else r
    let t := ({ s with tim := { s.tim with tsq := s.tim.tsq ++ [r], tsqLost := false } }).bump Reg.timCtr
    if t.tim.tsqArmed && decide (t.tsqLimit ≤ t.tim.tsq.length) then
      (({ t with tim := { t.tim with tsqArmed := false } }).orReg Reg.timEvent 16).raiseLow 212 4 0
    else t

/-- The DROPPED record of a frame dropped after its verdict (14 R530). -/
def tsDropped (s : State) (f : Frame) : State :=
  if f.verdict.isSome ∧ tsCtrl f = 1 then s.tsqPut (s.tsRecord f none) else s

/-! ### Frames dropped (00 R22, 05 R186, 11 R444) -/

/-- The engine and context a frame sits in. -/
def whereIs (s : State) (id : Nat) : Option (Nat × Nat) :=
  s.engines.findSome? (fun e =>
    (e.2.ctxs.find? (fun c => decide (c.2.frame = id))).map (fun c => (e.1, c.1)))

/-- The contexts of a frame freed, and its waiting HBM request withdrawn. -/
def freeCtx (s : State) (id : Nat) : State :=
  match s.whereIs id with
  | none => s
  | some (e, c) =>
    let en := s.engine e
    let wasRun : Bool := match Tab.find en.ctxs c with
      | some x => decide (x.cond = CtxCond.running ∨ x.cond = CtxCond.done)
      | none => false
    let en := { en with ctxs := Tab.del en.ctxs c }
    let en := if wasRun then { en with idleSince := s.now } else en
    let s := s.setEngine e en
    { s with hbm := { s.hbm with reqs := s.hbm.reqs.filter (fun r => decide (¬(r.engine = e ∧ r.ctx = c ∧ r.client ≤ 32))) } }

/-- The window counter of the port at which a frame entered (05 R186): the trunk framer's counters
take the place of the line port's on a trunk pair (06 R254). -/
def entryCtr (s : State) (f : Frame) (host trunk : Nat) : Nat :=
  if f.dec && decide ((s.pair f.pair).mode = .trunk) then Reg.framer f.pair + trunk
  else Reg.port f.dec f.pair + host

/-- DROP_POWER_SHED at the port of entry. -/
def ctrShed (s : State) (f : Frame) : Nat := s.entryCtr f 0x88 0xE0
/-- DROP_UNIT_REMOVED at the port of entry. -/
def ctrRemoved (s : State) (f : Frame) : Nat := s.entryCtr f 0x90 0xE8
/-- DROP_EXPANSION_OVERRUN at the port of entry. -/
def ctrOverrun (s : State) (f : Frame) : Nat := s.entryCtr f 0x98 0xF0
/-- DROP_NOT_IN_SERVICE at the port of entry. -/
def ctrIdle (s : State) (f : Frame) : Nat := s.entryCtr f 0x80 0xF8
/-- DROP_LOCKED of the direction (11 R454). -/
def ctrLocked (f : Frame) : Nat := (if f.dec then Reg.cphDecCtr else Reg.cphEncCtr) + 0x20

/-- The cipher counters of a direction. -/
def cphCtr (dec : Bool) (o : Nat) : Nat := (if dec then Reg.cphDecCtr else Reg.cphEncCtr) + o

/-- The engine array's counters of a direction. -/
def pldCtr (dec : Bool) (o : Nat) : Nat := (if dec then Reg.pldDecCtr else Reg.pldEncCtr) + o

/-- The classifier's counters of a direction. -/
def clsCtr (dec : Bool) (o : Nat) : Nat := (if dec then 0x0600200 else 0x0600100) + o

/-- Whether a port is the line port of a trunk pair. -/
def trunkSide (s : State) (line : Bool) (p : Nat) : Bool := line && decide ((s.pair p).mode = .trunk)

/-- The bytes of an output of a port already sent, at the rate of its lanes: 100 Gb/s each on an Ethernet port (05 R178),
112.5 Gb/s less the markers on a trunk port (04 R155–R162; 06 R207). -/
def sentBytes (s : State) (line : Bool) (p : Nat) (o : OutFrame) : Nat :=
  let n := (Rate.at_ s.now 0 - o.start) * (s.pair p).width
  min o.bytes.length (n / (if s.trunkSide line p then Rate.trunkByte else Rate.etherByte))

/-- The frame in output on a port, none that the module makes itself: on a trunk port the output of a frame ends with
its ICV, before its PAD (11 R444). -/
def inOutput (s : State) (line : Bool) (p : Nat) : Option OutFrame :=
  let ended := fun (o : OutFrame) => s.trunkSide line p && decide (6 + Ndoath.len o.bytes ≤ s.sentBytes line p o)
  match (s.portOut line p).sent.head? with
  | some o => if s.now < o.ends ∧ o.stomped = false ∧ o.frame.isSome ∧ ended o = false then some o else none
  | none => none

/-! ### Outputs of ports (05 R181; 06 R212, R213) -/

/-- The exact time at which a frame that departs in cycle `d` begins on its port: it keeps the phase it arrived with (01
R38, R39; DEDUCED). -/
def departAt (f : Frame) (d : Nat) : Nat := Rate.at_ d f.phase

/-- The shortfall below an average gap of 12 bytes that an output would leave on an Ethernet port if it began at `start`:
the preamble and start-of-frame delimiter take 8 bytes, and a longer gap repays a shortfall but earns none
(05 R181). -/
def etherShort (s : State) (line : Bool) (p start : Nat) : Nat :=
  let po := s.portOut line p
  if po.sent.isEmpty then 0 else po.deficit + po.busyUntil + Rate.ether (s.pair p).width 20 - start

/-- An output that begins at `start` has room behind the one before: its gap brings the deficit to at most three bytes
(05 R181). -/
def etherFits (s : State) (line : Bool) (p start : Nat) : Bool :=
  decide (s.etherShort line p start ≤ Rate.ether (s.pair p).width 3)

/-- A frame sent on an Ethernet port. -/
def etherPut (s : State) (line : Bool) (p : Nat) (o : OutFrame) : State :=
  s.setPortOut line p { sent := o :: (s.portOut line p).sent, deficit := s.etherShort line p o.start
                        busyUntil := o.start + Rate.ether (s.pair p).width o.bytes.length }

/-- The width of a framer's port. -/
def framerWidth (s : State) (n : Nat) : Nat := if n < 32 then (s.pair n).width else 1

/-- The stream position at which the last output of a framer ends, PAD included. -/
def streamEnd (s : State) (n : Nat) : Nat :=
  match (s.portOut true n).sent.head? with
  | some o => Ndoath.streamAt (s.framerWidth n) o.start + o.bytes.length
  | none => 0

/-- A gap below 24 bytes is filled by the PAD of the frame before it (06 R212). -/
def raisePad (s : State) (n gap : Nat) : State :=
  let po := s.portOut true n
  match po.sent with
  | [] => s
  | o :: rest =>
    let b := o.bytes
    let h := CipherFn.coreHeader (Ndoath.len b) (Ndoath.typ b) (Ndoath.an b) (Ndoath.pad b + gap)
    s.setPortOut true n { po with sent := { o with bytes := h ++ b.drop 6 ++ zeros gap } :: rest }

/-- A frame sent on a framer's output (06 R212): FILL frames take a gap of 24 bytes or more as the stream is sent. -/
def trunkPut (s : State) (n : Nat) (o : OutFrame) : State :=
  let w := s.framerWidth n
  let gap := Ndoath.streamAt w o.start - s.streamEnd n
  let t := if 0 < gap ∧ gap < 24 then s.raisePad n gap else s
  t.setPortOut true n { sent := o :: (t.portOut true n).sent, deficit := 0, busyUntil := o.start + Rate.trunk w o.bytes.length }

/-- An index of a kind. -/
def chIndex (s : State) (far : Bool) (i : Nat) : ChIndex :=
  Tab.get (fun _ => ChIndex.fresh) (if far then s.chn.far else s.chn.near) i

/-- An index replaced. -/
def setChIndex (s : State) (far : Bool) (i : Nat) (v : ChIndex) : State :=
  if far then { s with chn := { s.chn with far := Tab.put (fun _ => ChIndex.fresh) s.chn.far i v } }
  else { s with chn := { s.chn with near := Tab.put (fun _ => ChIndex.fresh) s.chn.near i v } }

/-- The record a handle names, unless it is invalid or stale (10 R375). -/
def chRecord (s : State) (h : Nat) : Option ChRec :=
  if Handle.valid h then
    let x := s.chIndex (Handle.far h) (Handle.index h)
    if x.gen = Handle.gen h then x.body else none
  else none

/-- A record of an allocated index replaced; a cached far record has changed (10 R386). -/
def setRecord (s : State) (h : Nat) (c : ChRec) : State :=
  let far := Handle.far h
  let i := Handle.index h
  let t := s.setChIndex far i { s.chIndex far i with body := some c }
  if far then { t with chn := { t.chn with cache := t.chn.cache.map (fun e => if e.index = i then { e with dirty := true } else e) } }
  else t

/-- A stomped frame is no longer among the frames protected, of the encrypt direction and of its channel (11 R444,
R454). -/
def unprotect (s : State) (charge : Option (Nat × Nat)) : State :=
  match charge with
  | none => s
  | some (h, octets) =>
    let t := s.add (cphCtr false 0) (2 ^ 64 - 1)
    match t.chRecord h with
    | some c => t.setRecord h { c with cOk := c.cOk - 1, cOctets := c.cOctets - octets }
    | none => t

/-- An output ended so that no receiver accepts it, with its bytes as they then are (11 R444). -/
def stompBytes (s : State) (line : Bool) (p : Nat) (o : OutFrame) : Bytes :=
  let k := s.sentBytes line p o
  if s.trunkSide line p then CipherFn.stompTrunk k o.bytes else o.bytes.take k ++ CipherFn.stompFcs (o.bytes.take k)

/-- An output cut short counts no longer in FRAMES_OUT and OCTETS_OUT. -/
def uncountOut (s : State) (line : Bool) (p : Nat) (o : OutFrame) : State :=
  if s.trunkSide line p then s.add (Reg.framer p + 0x90) (2 ^ 64 - 1)
  else (s.add (Reg.port line p + 0x50) (2 ^ 64 - 1)).add (Reg.port line p + 0x58) (2 ^ 64 - o.bytes.length)

/-- The frame in output on a port is ended (11 R444); a decrypt frame in the same way, which the spec leaves open (log entry
99). An encrypt frame counts as STOMPED and no longer among the frames
protected. -/
def stompOn (s : State) (line : Bool) (p : Nat) : State :=
  match s.inOutput line p with
  | none => s
  | some o =>
    let b := s.stompBytes line p o
    let po := s.portOut line p
    let po := { po with
      sent := { o with bytes := b, stomped := true } :: po.sent.drop 1
      busyUntil := if s.trunkSide line p then po.busyUntil else o.start + Rate.ether (s.pair p).width b.length }
    let t := (s.setPortOut line p po).uncountOut line p o
    let t := if o.dec then t else (t.bump (cphCtr false 0x18)).unprotect o.charge
    match o.ts with
    | some r => t.tsqPut r
    | none => t

/-- The encrypt frame in output on a pair's line side is ended. -/
def stomp (s : State) (p : Nat) : State := s.stompOn true p

/-- The pairs in use, by rising number, with their widths. -/
def pairsUsed (s : State) : List (Nat × Pair) :=
  s.pairs.filter (fun e => decide (e.2.mode ≠ .none))

/-- A frame in output on a pair's side that has left the table is dropped under a counter (11 R444, R445). -/
def endOutputOn (s : State) (line : Bool) (p ctr : Nat) : State :=
  match s.inOutput line p with
  | some _ => (s.stompOn line p).bump ctr
  | none => s

/-- A pair's encrypt frame in output is dropped under a counter. -/
def endOutput (s : State) (p ctr : Nat) : State := s.endOutputOn true p ctr

/-- A pair's frames in output are dropped, each under the counter of the port at which it entered (05 R186; 06 R254): `host`
is its offset at an Ethernet port, `trunk` at a framer. -/
def endBoth (s : State) (p host trunk : Nat) : State :=
  let dec := if (s.pair p).mode = .trunk then Reg.framer p + trunk else Reg.port true p + host
  (s.endOutput p (Reg.port false p + host)).endOutputOn false p dec

/-- Whether a frame is tunnel-mode or far-handle traffic (01 R51). -/
def farTraffic (s : State) (f : Frame) : Bool := decide ((s.pair f.pair).mode = .tunnel) || f.far

/-- A frame's entry deleted; the HBM controller notes when it last served tunnel-mode or far-handle traffic (01
R51). -/
def delFrame (s : State) (id : Nat) (f : Frame) : State :=
  let t := { s with frames := Tab.del s.frames id }
  if s.farTraffic f then { t with hbm := { t.hbm with usedAt := some s.now } } else t

/-- A frame leaves the table; what is still to arrive of it is received and goes nowhere. -/
def dismiss (s : State) (id : Nat) (f : Frame) : State :=
  if f.receiving then s.setFrame id { f with stage := .gone } else s.delFrame id f

/-- A frame dropped under a reason counter (00 R22): it leaves its context; an encrypt frame whose output
has begun is stomped. A frame whose DROP verdict is counted already is only removed. -/
def dropFrame (s : State) (id ctr : Nat) : State :=
  match s.frame id with
  | none => s
  | some f =>
    if f.stage = .gone then s
    else
      let s := if f.stage = .leaving then s.stomp f.pair else s.tsDropped f
      let s := s.freeCtx id
      let s := if f.verdict = some .drop then s else s.bump ctr
      s.dismiss id f

/-- Every frame a predicate picks, dropped under the counter of `ctr`. -/
def dropWhere (s : State) (p : Frame → Bool) (ctr : State → Frame → Nat) : State :=
  (s.frames.filter (fun e => p e.2)).foldl (fun t e => t.dropFrame e.1 (ctr t e.2)) s

/-- Frames of a pair dropped for a unit removed (01 R46, 05 R186). -/
def dropPairRemoved (s : State) (p : Nat) : State :=
  (s.dropWhere (fun f => decide (f.pair = p)) ctrRemoved).endBoth p 0x90 0xE8

/-- Every pair's frames in output are dropped for a unit removed. -/
def endOutputs (s : State) : State := s.pairsUsed.foldl (fun t e => t.endBoth e.1 0x90 0xE8) s

/-! ### Pair protection's outputs, and the C4 state (16 R563, R580) -/

/-- A CONTROL payload (16 R576) of a kind; `fatal` sets FATAL. RATE and the tags are the caller's. -/
def controlPayload (s : State) (kind rate ensign : Nat) (configTag : Bytes) (fatal : Bool) : Bytes :=
  let role := match s.pp.role with
    | .solo => 0
    | .active => 1
    | .standby => 2
    | .failed => 3
    | .starting => 4
  let flags := pack [(b2n s.pp.burgee, 0, 1),
    (b2n (s.evt.standing.isEmpty && !s.lev.locked && s.evt.c4.isNone && decide (s.cph.failed = 0)), 1, 1),
    (b2n (decide (s.wrd.stateA = .inService)), 2, 1), (b2n (decide (s.wrd.stateB = .inService)), 3, 1),
    (b2n s.lev.locked, 4, 1), (b2n (fatal || decide (s.pp.role = .failed)), 5, 1)]
  beBytes 2 1 ++ beBytes 2 (s.devNumber.getD 0) ++ [BitVec.ofNat 8 kind, BitVec.ofNat 8 role] ++
    beBytes 2 flags ++ beBytes 4 s.pp.seq ++ s.imageDigest.take 8 ++ configTag.take 8 ++
    beBytes 2 rate ++ beBytes 2 ensign ++
    beBytes 4 (s.evt.standing.length + b2n (s.lev.locked && (Tab.find s.evt.standing 204).isNone)) ++
    zeros 12

/-- Lanes kept per side by a shed level (02 R63). -/
def lanesKept (level : Nat) : Nat := if level = 0 then 32 else if level = 1 then 24 else 16

/-- The shed level that binds traffic: the level in force (02 R63). -/
def shedLevel (s : State) : Nat := s.pwr.level.getD 0

/-- Whether the warden pair, policy and power leave a pair in the running (01 R48, 02 R68, 05 R188). -/
def pairAllowed (s : State) (n : Nat) (p : Pair) : Bool :=
  decide (p.mode ≠ .none) && !p.stopped && !p.retired && !p.out48 &&
    decide (n + p.width ≤ lanesKept s.shedLevel)

/-- A pair is in service (05 R188). -/
def pairInService (s : State) (n : Nat) : Bool :=
  let p := s.pair n
  s.running && s.evt.c4.isNone && s.pairAllowed n p && (s.port false n).active && (s.port true n).active

/-- Lanes per side in pairs in service: L of 11 R433. -/
def lanesInService (s : State) : Nat :=
  s.pairsUsed.foldl (fun a e => if s.pairInService e.1 then a + e.2.width else a) 0

/-- The published rate each direction in Gb/s (19 R626). -/
def rate (s : State) : Nat := 100 * s.lanesInService

/-- The CURRENT ensign. -/
def ensign (s : State) : Nat :=
  match s.cls.theSlot .current with
  | some n => (s.cls.slot n).ensign
  | none => 0

/-- Whether a lane sends: it neither dozes nor is removed, and its reference runs (04 R141; 02 R77). -/
def laneSends (s : State) (l : Nat) : Bool :=
  let n := s.lane l
  decide (n.stage ≠ .doze ∧ n.stage ≠ .removed) && !n.held

/-- A frame that a framer makes itself, sent at the first place free in its stream (06 R212). -/
def framerSend (s : State) (n : Nat) (b : Bytes) : State :=
  let w := s.framerWidth n
  let start := Rate.trunk w (max (Ndoath.streamAt w (Rate.at_ s.now 0)) (s.streamEnd n))
  s.trunkPut n { frame := none, cycle := start / Rate.cycle, start := start, ends := Rate.ceil (start + Rate.trunk w b.length)
                 bytes := b, stomped := false, dec := false, pair := n, ts := none, charge := none }

/-- A CONTROL frame sent on both PAIR lanes (16 R576), where they send (06 R209, R212). -/
def controlSend (s : State) (kind : Nat) (fatal : Bool) : State :=
  let b := s.controlPayload kind s.rate s.ensign s.key.digest fatal
  let frame := CipherFn.coreHeader 48 4 0 2 ++ b ++ zeros 2
  let t := [32, 33].foldl (fun t n => if t.laneSends (n + 32) then t.framerSend n frame else t) s
  { t with pp := { t.pp with seq := (t.pp.seq + 1) % 2 ^ 32, sent := b :: t.pp.sent } }

/-- The module's role changes (16 R581): ROLE_CHANGED is C1 on a switchover, which is counted. -/
def roleChange (s : State) (r : Role) (cls : Nat) : State :=
  if s.pp.role = r then s
  else
    let t := if cls = 1 then s.bump (Reg.wrdCtr + 0x20) else s
    (({ t with pp := { t.pp with role := r } }).orReg Reg.wrdEvent (2 ^ 7)).raiseLow 236 7 cls

/-- A frame suppressed at its output (16 R575): counted, and gone from the module. -/
def suppress (s : State) (id : Nat) (f : Frame) : State :=
  ((s.tsDropped f).bump (Reg.wrdCtr + (if f.dec then 0x30 else 0x28))).dismiss id f

/-- A fatal yield (16 R580): outputs stop at once, YIELD is sent with FATAL, the role is FAILED. -/
def fatalYield (s : State) (byLock : Bool) : State :=
  if s.pp.role = .active then
    let s := (s.dropWhere (fun f => decide (f.stage = .leaving)) ctrRemoved).endOutputs
    let s := s.controlSend 2 true
    let s := { s with pp := { s.pp with outputs := false, burgee := false, yielding := false, byLock := byLock } }
    s.roleChange .failed 1
  else if s.pp.role = .standby ∨ s.pp.role = .starting then s
  else s

/-- The C4 state begins (16 R563). -/
def latchC4 (s : State) (src : Nat) : State :=
  if s.evt.c4.isSome then s
  else
    let s := { s with evt := { s.evt with c4 := some src } }
    let s := s.dropWhere (fun _ => true) ctrRemoved
    let s := s.endOutputs
    let s := { s with stw := { s.stw with halted := true } }
    s.fatalYield false

/-- A raise delivered, with the consequences of a C4 raise. -/
def deliver (s : State) (src cause cls time : Nat) (esc held : Bool) (unit : Nat := 0) : State :=
  let s := s.deliverCore src cause cls time esc held unit
  if cls = 4 then s.latchC4 src else s

/-- A raise (16 R556; 03 R94). -/
def raise (s : State) (src cause cls : Nat) (unit : Nat := 0) : State :=
  if s.running then s.deliver src cause cls s.nanos false false unit
  else s.raiseLow src cause cls unit

/-- A cause: its bit set in the unit's cause register, and the raise. -/
def cause (s : State) (a bit src cls : Nat) (unit : Nat := 0) : State := (s.orReg a (2 ^ bit)).raise src bit cls unit

/-- ACC_ERR set; its change from 0 to 1 raises event 252 (19 R626, R636). -/
def accErr (s : State) : State :=
  if s.regField Reg.idnStatus 31 1 = 1 then s
  else (s.orReg Reg.idnStatus 0x80000000).cause Reg.idnEvent 4 252 0

/-- A STOP write ignored (17 R596). -/
def stopRefused (s : State) (a : Nat) : State :=
  (s.capture Reg.idnStopRefused [(a, 0, 26)]).cause Reg.idnEvent 2 250 0

/-! ### Time passing -/

/-- Contexts of a polder that are parked or ready (18 R606). -/
def waitingCtxs (s : State) (p : Nat) : Nat :=
  (s.engines.map (fun e =>
    if e.1 / 32 = p then
      (e.2.ctxs.filter (fun c => decide (c.2.cond = .parked ∨ c.2.cond = .ready))).length
    else 0)).sum

end State

end Sys2Proof.Machine
end

