-- ==== Sys2Proof/Machine/Access.lean ====
section
/-! DEFINITION. What a register reads, which accesses answer, the latches of LO-then-HI pairs, and
how a write reaches stored fields by access type (00 R11–R16; 03 R91, R92; 13 R496; 16 R563;
17 R586–R597; the register tables of every chapter). -/

namespace Sys2Proof.Machine
open Sys2Proof.Bits

namespace Reg

/-- The windows of 64-bit counters (05 R202): first LO address, number of counters, where the
window repeats and how often. -/
def counterWindows : List (Nat × Nat × Nat × Nat) :=
  [(0x0400040, 16, 0x400, 64), (0x0500040, 24, 0x400, 34), (0x0600100, 23, 0x100, 2),
   (0x107F040, 5, 0x80000, 32), (0x107E100, 32, 0x100, 2), (0x0800100, 17, 0x1000, 1),
   (0x0A00100, 11, 0x1000, 1), (0x0C00100, 7, 0x80, 2), (0x0040100, 9, 0x1000, 1), (0x0100800, 10, 0x1000, 1),
   (0x0D00100, 7, 0x1000, 1), (0x0020200, 9, 0x1000, 1), (0x0000080, 2, 0x1000, 1), (0x0E00100, 4, 0x1000, 1)]

/-- The LO address of the 64-bit counter an address belongs to. -/
def counterOf (a : Nat) : Option Nat :=
  counterWindows.findSome? (fun w =>
    if w.1 ≤ a ∧ (a - w.1) / w.2.2.1 < w.2.2.2 ∧ (a - w.1) % w.2.2.1 < 8 * w.2.1 then
      some (a - (a - w.1) % w.2.2.1 % 8)
    else none)

/-- Whether software may read a stored word: WO words read 0 (00 R13). -/
def readable (a : Nat) : Bool :=
  !(decide (levUnlResp ≤ a ∧ a < levUnlResp + 48) || decide (cphTestKey ≤ a ∧ a < cphTestKey + 32))

/-- A register address: aligned and within the 64 MiB of PF0 BAR0 (00 R11). -/
def okAddr (a : Nat) : Bool := decide (a % 4 = 0 ∧ a < 0x4000000)

/-- The 64-bit counters that CLR_COUNTS of a control register zeroes, as address ranges, with the bit of
CLR_COUNTS; other counters go with the lane, framer, classifier and performance registers. -/
def clears (a : Nat) : Option (Nat × List (Nat × Nat)) :=
  if a = evtControl then some (16, [(wrdCtr, wrdCtr + 0x48)])
  else if a = keyControl then some (0, [(keyCtr, keyCtr + 0x48)])
  else if a = timControl then some (16, [(timCtr, timCtr + 0x50)])
  else if a = lkpControl then some (16, [(0x0800100, 0x0800188)])
  else if a = chnControl then some (16, [(chnCtr, chnCtr + 0x58)])
  else if a = cphControl then some (16, [(cphEncCtr, cphEncCtr + 0x38), (cphDecCtr, cphDecCtr + 0x38)])
  else if a = hbmControl then some (16, [(hbmCtr, hbmCtr + 0x38)])
  else if a = pldArrayControl then some (0, [(0x107E100, 0x107E300)])
  else if 0x1000000 ≤ a ∧ a < 0x2000000 ∧ a % 0x80000 = 0x7F014 then some (0, [(a + 0x2C, a + 0x54)])
  else if 0x0400000 ≤ a ∧ a < 0x0410000 ∧ a % 0x400 = 8 then some (8, [(a + 0x38, a + 0xB8)])
  else none

end Reg

/-! ### Codes of stages and states -/

/-- STAGE of a lane (04 R173). -/
def Stage.code : Stage → Nat
  | .doze => 0
  | .detect => 1
  | .train => 2
  | .lock => 3
  | .exchange => 4
  | .active => 5
  | .removed => 6

/-- SYNC_STATE (06 R252). -/
def SyncState.code : SyncState → Nat
  | .hunt => 0
  | .presync => 1
  | .sync => 2
  | .stopped => 3

/-- STATE of a classifier slot (07 R293). -/
def SlotState.code : SlotState → Nat
  | .free => 0
  | .opening => 1
  | .pending => 2
  | .current => 3
  | .retiring => 4
  | .sweeping => 5

/-- STATE of a polder (08 R339). -/
def PolderState.code : PolderState → Nat
  | .asleep => 0
  | .waking => 1
  | .awake => 2
  | .removed => 3
  | .retired => 4

/-- IDN_BOOT.STATE (03 R136). -/
def BootState.code : BootState → Nat
  | .powerOk => 0
  | .leveeCheck => 1
  | .imageFetch => 2
  | .imageAuth => 3
  | .keyUnseal => 4
  | .hbmTrain => 5
  | .laneBringup => 6
  | .enginesLoad => 7
  | .run => 8

/-- IDN_UPDATE.STATE (03 R136). -/
def UpdState.code : UpdState → Nat
  | .idle => 0
  | .staging => 1
  | .applying => 2
  | .restoring => 3

/-- A warden's state (16 R583). -/
def WardenState.code : WardenState → Nat
  | .inService => 0
  | .removed => 1
  | .returning => 2

/-- ROLE (16 R583). -/
def Role.code : Role → Nat
  | .solo => 0
  | .active => 1
  | .standby => 2
  | .failed => 3
  | .starting => 4

/-- MODE of a pair (05 R195, R201). -/
def Mode.code : Mode → Nat
  | .none => 0
  | .line => 1
  | .tunnel => 2
  | .trunk => 3

namespace State

/-! ### Computed fields -/

/-- The vault holds a valid root (12 R477). -/
def vaultValid (s : State) : Bool := s.lev.root.isSome && !s.lev.bad

/-- The firmware serves mailboxes (19 R626). -/
def stewardServes (s : State) : Bool := s.stw.up && !s.stw.restarting && !s.stw.halted

/-- IDN_STATUS beside ACC_ERR (19 R626). -/
def idnStatusBits (s : State) : Nat :=
  pack [(b2n s.running, 30, 1), (b2n s.faultN, 29, 1), (b2n s.evt.c4.isSome, 28, 1),
    (b2n s.stewardServes, 27, 1)]

/-- Pairs in service, by number. -/
def pairsUp (s : State) : List Nat :=
  (s.pairsUsed.filter (fun e => s.pairInService e.1)).map Prod.fst

/-- IDN_BOOT (03 R136). -/
def idnBoot (s : State) : Nat :=
  let b := s.boot
  pack [(b2n s.lev.locked, 31, 1), (b2n (!s.vaultValid), 30, 1), (b2n b.halted, 29, 1), (b.slot, 28, 1),
    (b.code, 16, 8), (b2n b.altSlotUsed, 12, 1), (b2n b.lanesIncomplete, 11, 1),
    (b2n b.keyImportFail, 10, 1), (b2n b.programFault, 9, 1), (b2n b.noTable, 8, 1), (b.state.code, 0, 4)]

/-- IDN_UPDATE (03 R136). -/
def idnUpdate (s : State) : Nat :=
  pack [(s.upd.result, 24, 8), (s.upd.step, 20, 4), (b2n (s.upd.staged.isSome && decide (s.upd.state = .idle)), 16, 1),
    (s.upd.state.code, 0, 2)]

/-- The device number with its VALID bit (06 R255, 19 R626). -/
def deviceWord (s : State) : Nat :=
  match s.devNumber with
  | some d => pack [(1, 16, 1), (d, 0, 16)]
  | none => 0

/-- The computed fields of the identity block (03 R136, 17 R601, 19 R626). -/
def idnBits (s : State) (a : Nat) : Nat :=
  let hdr := (s.run.map (fun i => i.header)).getD []
  if a = 0x00 then 0x06432F47
  else if a = 0x04 then s.idnStatusBits
  else if a = 0x10 then pack [(s.rate, 16, 13), (s.pairsUp.length, 0, 6)]
  else if a = 0x14 then
    (if s.pcie.up then pack [(1, 8, 1), (s.pcie.width, 4, 4), (s.pcie.speed, 0, 4)] else 0)
  else if a = 0x20 then s.idnBoot
  else if a = 0x24 then leAt hdr 12 4
  else if a = 0x28 then (if s.run.isSome then pack [(leAt hdr 16 2, 16, 16), (s.lev.minSv, 0, 16)] else 0)
  else if a = 0x2C then s.boot.timeMs
  else if a = 0x30 then s.idnUpdate
  else if 0x40 ≤ a ∧ a < 0x70 then (if s.run.isSome then leAt s.imageDigest (a - 0x40) 4 else 0)
  else if 0x90 ≤ a ∧ a < 0xA0 then leAt (beBytes 16 Config.dieId.toNat) (a - 0x90) 4
  else if a = 0xA0 then s.deviceWord
  else 0

/-- A feed's register (02 R86). -/
def feedWord (f : Feed) : Nat := pack [(b2n f.present, 24, 1), (f.current, 16, 8), (f.voltage, 0, 12)]

/-- The computed fields of the power block (02 R86). -/
def pwrBits (s : State) (a : Nat) : Nat :=
  let p := s.pwr
  if a = 0x0010000 then feedWord p.feedA
  else if a = 0x0010004 then feedWord p.feedB
  else if a = Reg.pwrShed then
    pack [(b2n (p.feedA.present != p.feedB.present), 16, 1), (lanesKept s.shedLevel, 8, 6), (s.shedLevel, 0, 2)]
  else if a = 0x001000C then
    pack [(b2n p.sysOk, 12, 1), (b2n p.lineRef, 11, 1), (b2n p.hostRef, 10, 1), (b2n p.aoFallback, 9, 1),
      (b2n p.xt32, 8, 1), (p.boardId, 0, 4)]
  else 0

/-- Microseconds left of the holder's lease (16 R569, R583). -/
def leaseLeft (s : State) : Nat :=
  if s.wrd.holder.isSome then 1000 - min 1000 ((s.now - s.wrd.leaseFrom) / 1250) else 0

/-- CONFIG_DIFFERS (16 R578), over the partner's last HEALTH: a differing CONFIG_TAG. -/
def configDiffers (s : State) : Bool :=
  match s.pp.peer with
  | some h => decide (h.configTag ≠ beNat (s.key.digest.take 8))
  | none => false

/-- The computed fields of the warden and event block (16 R583). `eligible` is the caller's. -/
def wrdBits (s : State) (eligible : Bool) (a : Nat) : Nat :=
  if a = 0x0020000 then
    pack [((match s.wrd.holder with
        | none => 0
        | some .a => 1
        | some .b => 2), 30, 2), (b2n s.wrd.guard, 29, 1), (s.wrd.stateA.code, 27, 2),
      (s.wrd.stateB.code, 25, 2), (b2n s.evt.c4.isSome, 24, 1), (s.evt.c4.getD 0, 16, 8), (s.leaseLeft, 0, 10)]
  else if a = 0x0020014 then s.evt.hist.length
  else if a = 0x0020034 then
    pack [(s.pp.role.code, 29, 3), (b2n s.pp.burgee, 28, 1), (b2n eligible, 27, 1), (b2n s.pp.fresh, 26, 1),
      (b2n s.configDiffers, 25, 1), (s.pp.peerRole, 16, 8), ((s.pp.peer.map (fun h => h.rate)).getD 0, 0, 16)]
  else if 0x0020100 ≤ a ∧ a < 0x0020120 then field s.evt.pending.toNat (8 * (a - 0x0020100)) 32
  else if 0x0020140 ≤ a ∧ a < 0x0020160 then
    maskOf 32 (fun j => s.stands (8 * (a - 0x0020140) + j))
  else 0

/-- A source's settings as its two registers (13 R513). -/
def tampWord (s : State) (src : Nat) (filter : Bool) : Nat :=
  let t := s.lev.setting src
  if filter then pack [(t.response, 24, 2), (t.count, 16, 4), (t.window, 0, 8)]
  else if src = 5 then 0 else pack [(t.low, 16, 12), (t.high, 0, 12)]

/-- The computed fields of the levee mirror (12 R488, 13 R513). -/
def levBits (s : State) (a : Nat) : Nat :=
  let l := s.lev
  if a = 0x0030000 then pack [(b2n s.vaultValid, 31, 1), (b2n l.lockDeferred, 30, 1), (l.prefSlot, 16, 1)]
  else if a = Reg.levCmd then pack [(b2n l.cmd.isSome, 23, 1)]
  else if a = 0x0030018 then l.nextSeq % 2 ^ 32
  else if a = 0x0030100 then
    pack [(b2n l.locked, 31, 1), (b2n (!s.vaultValid), 30, 1), (b2n l.configOpen, 29, 1), (l.cfgResult, 16, 8),
      (field l.cond 1 10, 1, 10)]
  else if a = 0x0030104 then pack [(l.tempB, 16, 12), (if s.fed then l.tempA else 0, 0, 12)]
  else if Reg.levTampLimits ≤ a ∧ a < Reg.levTampLimits + 40 then
    s.tampWord ((a - Reg.levTampLimits) / 8 + 1) (decide ((a - Reg.levTampLimits) % 8 = 4))
  else if a = 0x0030138 then pack ((List.range 5).map (fun k => (l.countOf (k + 1), 4 * k, 4)))
  else if a = Reg.levUnlCtrl then
    pack [(b2n l.checking.isSome, 23, 1), (if l.checking.isSome then 2 else if l.chal.isSome then 1 else 0, 16, 2)]
  else if Reg.levUnlChal ≤ a ∧ a < Reg.levUnlChal + 32 then
    (match l.chal with
     | some c => leAt c.bytes (a - Reg.levUnlChal) 4
     | none => 0)
  else if a = 0x00301E0 then pack [(l.seqLow, 16, 16), (b2n l.derivedForm, 15, 1), (l.holdoff, 8, 6), (l.fails, 0, 8)]
  else 0

/-- The computed fields of the key block (12 R487). -/
def keyBits (s : State) (a : Nat) : Nat :=
  if a = Reg.keyCmdStatus then b2n (s.key.cmds.any (fun c => c.host))
  else if a = 0x0040018 then
    pack [(b2n s.key.sourceRemoved, 2, 1), (b2n s.key.healthFail, 1, 1), (b2n s.key.drbg.isSome, 0, 1)]
  else if 0x00400D0 ≤ a ∧ a < 0x0040100 then leAt s.key.digest (a - 0x00400D0) 4
  else 0

/-- A capture input (14 R532). -/
def cap (s : State) (j : Nat) : Capture := Tab.get (fun _ => { queue := [], lastAt := none }) s.tim.caps j

/-- A line lane's calibration (14 R527). -/
def laneCal (s : State) (n : Nat) : LaneCal :=
  Tab.get (fun _ => { txMeas := 0, rxMeas := 0, txTemp := 0, rxTemp := 0, valid := false }) s.tim.cal n

/-- Whether TIM_LANE_TX and RX hold values: from the lane's first measurement on (14 R528). -/
def laneInternal (s : State) (n : Nat) (rx : Bool) : Nat :=
  let c := s.laneCal n
  (if rx then c.rxMeas + c.rxTemp else c.txMeas + c.txTemp) % 2 ^ 32

/-- The computed fields of the time block (14 R536). -/
def timBits (s : State) (a : Nat) : Nat :=
  if a = 0x0100000 then pack [(b2n s.tim.noBoardDelay, 8, 1)]
  else if a = 0x0100004 then maskOf 32 (fun n => (s.laneCal n).valid)
  else if a = 0x0100030 then s.tim.tsq.length
  else if a = 0x0100304 ∨ a = 0x0100344 then (s.cap ((a - 0x0100304) / 0x40)).queue.length
  else if Reg.timLane ≤ a ∧ a < Reg.timPairBase ∧ (a - Reg.timLane) % 16 < 8 then
    s.laneInternal ((a - Reg.timLane) / 16) (decide ((a - Reg.timLane) % 16 = 4))
  else 0

/-- A lane by its window (04 R140, R173): lanes 0–31 host, 32–65 line and PAIR. -/
def laneAt (a : Nat) : Nat := if a < 0x0300000 then (a - 0x0200000) / 0x400 else 32 + (a - 0x0300000) / 0x400

/-- Whether a lane runs trunk line coding: a line lane of a trunk pair, or a PAIR lane (04 R155). -/
def laneTrunk (s : State) (l : Nat) : Bool :=
  decide (64 ≤ l) ||
    (decide (32 ≤ l) && s.pairsUsed.any (fun e =>
      decide (e.2.mode = .trunk ∧ e.1 ≤ l - 32 ∧ l - 32 < e.1 + e.2.width)))

/-- The computed fields of a lane window (04 R173–R176). -/
def laneBits (s : State) (l o : Nat) : Nat :=
  let n := s.lane l
  let t := n.taps
  if o = 0x00 then
    pack [(b2n n.training, 10, 1), (b2n n.wordLock, 9, 1), (b2n n.bitLock, 8, 1), (b2n n.signal, 7, 1),
      (n.rate, 4, 3), (n.stage.code, 0, 3)]
  else if o = 0x04 then pack [(t.fomFloor, 16, 8), (n.fomMin, 8, 8), (n.fom, 0, 8)]
  else if o = 0x08 then pack [(t.main, 24, 8), (t.pre1, 16, 8), (t.pre2, 8, 8), (t.pre3, 0, 8)]
  else if o = 0x0C then pack [(t.fomEntry, 24, 8), (t.swing, 16, 8), (t.post1, 0, 8)]
  else if o = 0x34 ∧ 32 ≤ l then n.cap.toNat / 2 ^ 32
  else 0

/-- Bit n for each of 32 lanes of a side in a stage. -/
def laneMap (s : State) (base n : Nat) (st : Stage) : Nat :=
  maskOf n (fun i => decide ((s.lane (base + i)).stage = st))

/-- The computed fields of the SerDes blocks (04 R173, R176). -/
def sdBits (s : State) (a : Nat) : Nat :=
  let line := decide (0x0300000 ≤ a)
  let base := if line then 32 else 0
  let o := a % 0x100000
  if o = 0xF000 then s.laneMap base 32 .active
  else if o = 0xF004 then s.laneMap base 32 .removed
  else if o = 0xF008 ∧ line then s.laneMap 64 2 .removed * 65536 + s.laneMap 64 2 .active
  else if o < (if line then 0x8800 else 0x8000) then s.laneBits (laneAt a) (a % 0x400)
  else 0

/-- The lanes of a port (05 R189): its pair's lanes on its side. -/
def portLanes (s : State) (line : Bool) (n : Nat) : List Nat :=
  (List.range (s.pair n).width).map (fun i => n + i + (if line then 32 else 0))

/-- PRT_STATE.STAGE (05 R201). -/
def portStage (s : State) (line : Bool) (n : Nat) : Nat :=
  let p := s.port line n
  if (s.pair n).mode = .none then 0
  else if p.removed then 4
  else if p.retired ∨ (s.pair n).retired then 5
  else if p.active then 3
  else if (s.portLanes line n).all (fun l => decide ((s.lane l).stage = .doze)) then 1
  else 2

/-- The computed fields of a port window and the port maps (05 R201, R202). -/
def prtBits (s : State) (a : Nat) : Nat :=
  if a = 0x0410000 then maskOf 32 (fun n => (s.port false n).active)
  else if a = 0x0410004 then maskOf 32 (fun n => (s.port true n).active)
  else if a = 0x0410008 then maskOf 32 (fun n => s.pairInService n)
  else if 0x0410000 ≤ a then 0
  else
    let line := decide (0x0408000 ≤ a)
    let n := (a % 0x8000) / 0x400
    let p := s.port line n
    let e := s.pair n
    if a % 0x400 = 0 then
      pack [(b2n (s.pairInService n), 8, 1), (b2n p.remoteFault, 7, 1), (b2n p.localFault, 6, 1), (s.portStage line n, 0, 3)]
    else if a % 0x400 = 4 then
      pack [(e.mode.code, 30, 2), (e.width, 26, 4), (e.txSci, 24, 2), (e.expansion, 16, 8), (e.maxFrame, 0, 14)]
    else 0

/-- The first lane of a trunk port, or a PAIR framer (06 R252). -/
def framerUsed (s : State) (n : Nat) : Bool := decide (32 ≤ n) || decide ((s.pair n).mode = .trunk)

/-- The lanes of a framer: those of its trunk port, or its PAIR lane (06 R224, R250). -/
def framerLanes (s : State) (n : Nat) : List Nat :=
  if 32 ≤ n then [n + 32] else if (s.pair n).mode = .trunk then s.portLanes true n else []

/-- RDI: the framer is not in SYNC, or a lane of its port lacks marker lock (06 R222). -/
def rdi (s : State) (n : Nat) : Bool :=
  decide ((s.framer n).sync ≠ .sync) || (s.framerLanes n).any (fun l => !(s.lane l).wordLock)

/-- Whether a framer sends RDI: only one whose port sends (06 R222, R252). -/
def rdiTx (s : State) (n : Nat) : Bool := (s.framerLanes n).any s.laneSends && s.rdi n

/-- The device number a framer gives: that of the capability word of its first lane (06 R249). -/
def peerDev (s : State) (n : Nat) : Nat := field (s.lane (n + 32)).cap.toNat 40 16

/-- The computed fields of the trunk block (06 R252, R255, R256). -/
def trkBits (s : State) (a : Nat) : Nat :=
  if a = 0x050F000 then s.deviceWord
  else if a = 0x050F004 then maskOf 32 (fun n => decide ((s.framer n).sync = .sync))
  else if a = Reg.trkPool then s.poolFree
  else if a = 0x050F00C then maskOf 2 (fun n => decide ((s.framer (32 + n)).sync = .sync))
  else if 0x0510000 ≤ a ∧ a < 0x0520000 then
    let c := s.circuit ((a - 0x0510000) / 16)
    if a % 16 = 8 then pack [(c.txSeq, 16, 16), (c.rxNext, 0, 16)]
    else if a % 16 = 12 then pack [(b2n c.playing, 8, 1), (c.frames.length, 0, 6)]
    else 0
  else if a < 0x0508800 ∧ a % 0x400 = 0 then
    let n := (a - 0x0500000) / 0x400
    let f := s.framer n
    pack [(s.peerDev n, 16, 16), (b2n f.near.unavailable, 11, 1), (b2n f.rdiRx, 10, 1),
      (b2n (s.rdiTx n), 9, 1), (b2n f.aligned, 8, 1), (f.badRun, 4, 4), (f.sync.code, 0, 2)]
  else 0

/-- Frames that hold an ensign slot (07 R283). -/
def slotFrames (s : State) (k : Nat) : Nat :=
  (s.frames.filter (fun e => e.2.here && decide (e.2.slot = k))).length

/-- The computed fields of the classifier block (07 R293). -/
def clsBits (s : State) (a : Nat) : Nat :=
  if a < 0x0600010 then
    let k := (a - 0x0600000) / 4
    let sl := s.cls.slot k
    pack [(sl.state.code, 29, 3), (min 0x1FFFF (s.slotFrames k), 12, 17), (if sl.state = .free then 0 else sl.ensign, 0, 12)]
  else if a = Reg.clsEnsignStatus then
    let p := s.cls.theSlot .pending
    pack [(p.getD 0, 4, 2), (b2n p.isSome, 3, 1), ((s.cls.theSlot .current).getD 0, 0, 2)]
  else if a = Reg.clsAccStatus then b2n s.cls.acc.isSome
  else 0

/-- LKP_TDESC of a table (09 R372). -/
def tdesc (s : State) (t : Nat) : Nat :=
  match Tab.find s.lkp.tables t with
  | none => 0
  | some d => pack [(1, 31, 1), (d.kind, 29, 2), (d.place, 28, 1), (d.keywords - 1, 26, 2), (d.datawords - 1, 25, 1),
      (d.learn, 23, 2), (d.blog2, 18, 5), (d.rbits, 13, 5), (d.lengths.length, 8, 5), (d.kbits, 0, 8)]

/-- The computed fields of the lookup block (09 R372). -/
def lkpBits (s : State) (a : Nat) : Nat :=
  if a = Reg.lkpAccStatus then b2n s.lkp.cmd.isSome
  else if a = 0x0800080 then s.lkp.queue.length
  else if 0x0801000 ≤ a ∧ a < 0x0801200 ∧ a % 8 = 0 then s.tdesc ((a - 0x0801000) / 8)
  else 0

/-- Indexes of a kind allocated or held (10 R377, R417). -/
def chUsed (t : Tab ChIndex) : Nat := (t.filter (fun e => e.2.body.isSome || e.2.held)).length

/-- The computed fields of the association store (10 R417). -/
def chnBits (s : State) (a : Nat) : Nat :=
  if a = Reg.chnCmdStatus then b2n (s.chn.cmds.any (fun c => c.host))
  else if a = 0x0A00020 then chUsed s.chn.near
  else if a = 0x0A00024 then chUsed s.chn.far
  else if a = 0x0A00028 then s.chn.notes.length
  else 0

/-- Traffic slots per lane-direction per round (11 R433). -/
def cphSlots (n l : Nat) : Nat := if l = 0 then 0 else 255 * n / (2 * l)

/-- The computed fields of the cipher block (11 R453). -/
def cphBits (s : State) (a : Nat) : Nat :=
  if a = 0x0C00000 then field s.cph.inService 0 32
  else if a = 0x0C00004 then field s.cph.inService 32 32
  else if a = 0x0C00008 then field (s.cph.awake &&& s.cph.dealt) 0 32
  else if a = 0x0C0000C then field (s.cph.awake &&& s.cph.dealt) 32 32
  else if a = 0x0C00010 then pack [(s.cph.n, 24, 7), (s.cph.lanes, 16, 6), (cphSlots s.cph.n s.cph.lanes, 0, 13)]
  else if a = Reg.cphTestCtrl then pack [(b2n s.cph.test.isSome, 23, 1)]
  else 0

/-- The computed fields of the HBM block (15 R554). -/
def hbmBits (s : State) (a : Nat) : Nat :=
  if a = 0x0D00000 then pack [(b2n s.hbm.entered, 19, 1), (s.hbm.st.code, 16, 3), (s.hbm.pcOk, 0, 16)]
  else if a = 0x0D00004 then pack [(b2n s.hbm.hot, 8, 1), (s.hbm.temp, 0, 8)]
  else 0

/-- The computed fields of a polder's window and the array-wide registers (08 R339, R341). -/
def pldBits (s : State) (a : Nat) : Nat :=
  if a = Reg.pldAccStatus then b2n s.pldAcc.isSome
  else if a = 0x107E02C then maskOf 32 (fun n => decide ((s.polder n).state = .awake))
  else if a = Reg.pldArbMax then s.arbMax
  else if a % 0x80000 = 0x7F000 then
    let n := (a - 0x1000000) / 0x80000
    let running := (s.engines.filter (fun e => decide (e.1 / 32 = n) &&
      e.2.ctxs.any (fun c => decide (c.2.cond = .running ∨ c.2.cond = .done)))).length
    pack [(s.waitingCtxs n, 16, 8), (running, 8, 8), ((s.polder n).state.code, 0, 3)]
  else if a % 0x80000 = 0x7F004 then
    let q := s.polder ((a - 0x1000000) / 0x80000)
    if q.state = .removed ∨ q.state = .retired then 0 else q.inService.toNat
  else 0

/-- The computed fields of the PCIe mailbox (19 R629). -/
def stwBits (s : State) (a : Nat) : Nat :=
  if Reg.stwRsp ≤ a ∧ a < Reg.stwRsp + 4096 then leAt s.mbxPcie.rsp (a - Reg.stwRsp) 4
  else if a = Reg.stwStatus then
    pack [(b2n s.mbxPcie.rspReady, 1, 1), (b2n s.mbxPcie.busy, 0, 1)]
  else 0

/-- Eligible (16 R578): a STANDBY module in RUN, no LOCK in force, no C4 latched, and the IMAGE_TAG of the
partner's last HEALTH its own. -/
def eligible (s : State) : Bool :=
  decide (s.pp.role = .standby) && s.running && !s.lev.locked && s.evt.c4.isNone &&
    (match s.pp.peer with
     | some h => decide (h.imageTag = beNat (s.imageDigest.take 8))
     | none => false)

/-- CLR_COUNTS of a control register. -/
def clearCounts (s : State) (a : Nat) : State :=
  match Reg.clears a with
  | some (_, l) => l.foldl (fun t r => t.clearCtr r.1 r.2) s
  | none => s

/-- Whether a lane counts as running for its STOP fields (04 R174). -/
def laneRuns (s : State) (l : Nat) : Bool :=
  let n := s.lane l
  !n.retired && decide (n.stage ≠ .doze ∧ n.stage ≠ .removed)

/-- Whether a port counts as running for its STOP field (17 R597). -/
def portRuns (s : State) (line : Bool) (n : Nat) : Bool := decide (1 ≤ s.portStage line n ∧ s.portStage line n ≤ 3)

/-- The units that have a safe point (17 R597); ports 0–31 are host ports, 32–63 line ports. -/
def allUnits : List ShUnit :=
  (List.range 66).map ShUnit.lane ++ (List.range 64).map ShUnit.port ++ (List.range 34).map ShUnit.trunk ++
    (List.range 32).map ShUnit.polder ++ [.cls, .lkp, .chn, .cph, .key, .tim, .hbm, .pwr, .wrd, .lev, .pmu, .stw]

/-- Whether a unit is in service: one asleep, removed or retired does not hold PENDING (17 R592). -/
def unitServes (s : State) : ShUnit → Bool
  | .lane l => s.laneRuns l
  | .port n => s.portRuns (decide (32 ≤ n)) (n % 32)
  | .trunk n => s.framerUsed n && decide ((s.framer n).sync ≠ .stopped)
  | .polder n => decide ((s.polder n).state = .awake)
  | .hbm => decide (s.hbm.st = .active)
  | .stw => s.stewardServes
  | .cls | .lkp | .chn | .cph | .key | .tim | .pwr | .wrd | .lev | .pmu => true

/-- Every computed field of an address. -/
def roBits (s : State) (a : Nat) : Nat :=
  if a = Reg.idnApply then pack [(b2n (s.live.pendingUnits.any s.unitServes), 2, 1)]
  else if a < 0x0010000 then s.idnBits a
  else if a < 0x0020000 then s.pwrBits a
  else if a < 0x0030000 then s.wrdBits s.eligible a
  else if a < 0x0040000 then s.levBits a
  else if a < 0x0100000 then s.keyBits a
  else if a < 0x0200000 then s.timBits a
  else if a < 0x0400000 then s.sdBits a
  else if a < 0x0500000 then s.prtBits a
  else if a < 0x0600000 then s.trkBits a
  else if a < 0x0800000 then s.clsBits a
  else if a < 0x0A00000 then s.lkpBits a
  else if a < 0x0C00000 then s.chnBits a
  else if a < 0x0D00000 then s.cphBits a
  else if a < 0x0E00000 then s.hbmBits a
  else if a < 0x1000000 then (if a = Reg.pmuRingStatus then s.ringCount else 0)
  else if a < 0x2000000 then s.pldBits a
  else s.stwBits a

/-- Whether a window's words read 0 whatever is stored: windows that are no port's (05), LSD_-only lane counters of lanes running
Ethernet (04 R175), framer windows that are no trunk port's (06 R252). -/
def hidden (s : State) (a : Nat) : Bool :=
  if 0x0200000 ≤ a ∧ a < 0x0400000 then
    decide (0x24 ≤ a % 0x400 ∧ a % 0x400 ≤ 0x38) && Reg.isLane a && !s.laneTrunk (laneAt a)
  else if 0x0400000 ≤ a ∧ a < 0x0410000 then
    let n := (a % 0x8000) / 0x400
    decide ((s.pair n).mode = .none) ||
      decide (0x0408000 ≤ a ∧ (s.pair n).mode = .trunk ∧ 8 ≤ a % 0x400)
  else if 0x0500000 ≤ a ∧ a < 0x0508800 then !s.framerUsed ((a - 0x0500000) / 0x400)
  else false

/-- What a register reads, latched halves and reads with an effect aside (00 R12, R13). -/
def regValue (s : State) (a : Nat) : Word :=
  if s.hidden a then 0
  else (if Reg.readable a then s.reg a else 0) ||| BitVec.ofNat 32 (s.roBits a)

/-! ### Latches (17 R591) -/

/-- A requester's number in the latch keys; the two PF0 BARs are one requester. -/
def reqNo : Req → Nat
  | .pf0 => 0
  | .pf0Bar2 => 0
  | .pf1 => 1
  | .i2c => 2
  | .steward => 3

/-- The latch of an address and requester. -/
def latchOf (s : State) (r : Req) (a : Nat) : Word := Tab.get (fun _ => 0) s.latch (a * 4 + reqNo r)

/-- A latch set. -/
def setLatch (s : State) (r : Req) (a : Nat) (v : Word) : State :=
  { s with latch := Tab.put (fun _ => 0) s.latch (a * 4 + reqNo r) v }

/-- Whether an address lies in a polder window's view of its program store (08 R339). -/
def storeWindow (a : Nat) : Bool := decide (0x1000000 ≤ a ∧ a < 0x2000000 ∧ (a - 0x1000000) % 0x80000 < 0x20000)

/-- The action word an address of that view shows; the store of a removed polder reads 0. -/
def storeWord (s : State) (a : Nat) : Nat :=
  let p := s.polder ((a - 0x1000000) / 0x80000)
  if p.out then 0 else (p.word ((a - 0x1000000) % 0x80000 / 8)).toNat

/-- The 64-bit value read through a LO address whose HI half is latched, where there is one. -/
def pairValue (s : State) (a : Nat) : Option Nat :=
  if a = 0x0030004 then some s.lev.rtc
  else if a = Reg.hbmErrLo then some (s.regN Reg.hbmErrLo + s.regN Reg.hbmErrHi * 2 ^ 32)
  else if Reg.timBase ≤ a ∧ a < Reg.timPulse ∧ a % 0x20 = 0x18 then
    some ((s.regN a) + s.regN (a + 4) * 2 ^ 32)
  else if Reg.pmuCntLo ≤ a ∧ a < Reg.pmuCntLo + 4096 ∧ a % 8 = 0 then
    some (Tab.get (fun _ => 0) s.pmu.counters ((a - Reg.pmuCntLo) / 8))
  else if storeWindow a then (if a % 8 = 0 then some (s.storeWord a) else none)
  else match Reg.counterOf a with
    | some lo => if lo = a then some (s.counter a).toNat else none
    | none => none

/-- Whether an address is the HI half of such a pair. -/
def isHigh (a : Nat) : Bool :=
  decide (a = 0x0030008 ∨ a = Reg.hbmErrHi ∨ (Reg.timBase ≤ a ∧ a < Reg.timPulse ∧ a % 0x20 = 0x1C) ∨
    (Reg.pmuCntLo ≤ a ∧ a < Reg.pmuCntLo + 4096 ∧ a % 8 = 4)) ||
  (storeWindow a && decide (a % 8 = 4)) ||
  (match Reg.counterOf a with
   | some lo => decide (lo ≠ a)
   | none => false)

/-- A read that answers: its value, and the latch or reload it causes (00 R13; 04 R173, R176;
08 R341; 17 R591). -/
def readReg (s : State) (r : Req) (a : Nat) : Word × State :=
  if s.hidden a then (0, s)
  else
    match s.pairValue a with
    | some v => (BitVec.ofNat 32 v, s.setLatch r (a + 4) (BitVec.ofNat 32 (v / 2 ^ 32)))
    | none =>
      if isHigh a then (s.latchOf r a, s)
      else if Reg.isLane a then
        let l := laneAt a
        let n := s.lane l
        if a % 0x400 = 0x04 then (s.regValue a, s.setLane l { n with fomMin := n.fom })
        else if a % 0x400 = 0x34 ∧ 32 ≤ l then (s.regValue a, s.setLatch r (a + 4) (BitVec.ofNat 32 n.cap.toNat))
        else if a % 0x400 = 0x38 ∧ 32 ≤ l then (s.latchOf r a, s)
        else (s.regValue a, s)
      else if a = Reg.pldArbMax then (s.regValue a, { s with arbMax := 0 })
      else (s.regValue a, s)

/-! ### Which accesses answer (03 R91, R92; 13 R496; 16 R563; 19 R627) -/

/-- The unlock registers (13 R513). -/
def isUnlock (a : Nat) : Bool := decide (Reg.levUnlCtrl ≤ a ∧ a < 0x00301E4)

/-- The identity block's registers before RUN: all but those of 17 R601. -/
def isIdnEarly (a : Nat) : Bool := decide (a < 0x100 ∧ ¬(0x70 ≤ a ∧ a < 0x90))

/-- A LOCK or a vault without a root restricts access (12 R483, 13 R496). -/
def shut (s : State) : Bool := s.lev.locked || !s.vaultValid

/-- Whether an access answers: before RUN the identity block, and the unlock registers where there is a root
(03 R91, R114); under a LOCK the identity block and the unlock registers (13 R496); with a C4 latch, that of a
ZEROIZE among them (12 R483), the identity block and the warden and event block (16 R563). -/
def answers (s : State) (a : Nat) : Bool :=
  (s.running || isIdnEarly a || (isUnlock a && s.vaultValid)) &&
    (!s.lev.locked || decide (a < 0x0010000) || isUnlock a) &&
    (s.evt.c4.isNone || decide (a < 0x0010000) || decide (0x0020000 ≤ a ∧ a < 0x0030000))

/-- Whether an answering write has its effect: in bring-up only those of 03 R92; with a C4 latch
only EVT_HIST_POP and W1C writes of the warden and event block (16 R563). -/
def takes (s : State) (a : Nat) : Bool :=
  (s.running || decide (a = Reg.idnControl ∨ a = Reg.idnStatus) || isUnlock a) &&
    (s.evt.c4.isNone || decide (a < 0x0010000) || decide (a = Reg.evtHistPop) ||
      decide ((Reg.maskAt a).w1c ≠ 0) || decide (Reg.evtPending ≤ a ∧ a < Reg.evtMask))

/-- The value read put on the bus. -/
def answer (s : State) (v : Word) : State := { s with bus := { s.bus with rdata := v } }

/-- A read by a requester: its value, or 0xFFFF_FFFF with ACC_ERR (03 R91, 19 R624). -/
def busRead (s : State) (r : Req) (a : Nat) : State :=
  if s.answers a then
    let (v, t) := s.readReg r a
    t.answer v
  else (s.accErr).answer 0xFFFFFFFF

/-- A write by a requester: `f` where it takes effect; discarded with ACC_ERR where it does not
answer (03 R91, 19 R624). -/
def letIn (s : State) (a : Nat) (f : State → State) : State :=
  if !s.answers a then s.accErr
  else if s.takes a then f s
  else s

/-- The registers I²C reaches: the early identity block and the unlock registers (19 R635). -/
def i2cAddr (a : Nat) : Bool := decide (a < 0x100) || isUnlock a

/-- Whether a requester reaches a register of BAR0: PF0 needs its endpoint out of reset (00 R20) and in D0 (19 R625), the
steward a running firmware; I²C reaches its window (19 R635), PF1 and BAR2 none. -/
def reaches (s : State) (r : Req) (a : Nat) : Bool :=
  match r with
  | .pf0 => !s.pcie.perst && !d3hot s.pcie.cfg0
  | .pf0Bar2 | .pf1 => false
  | .i2c => i2cAddr a
  | .steward => s.stewardServes

/-- A requester's write of a register, `f` being its effect. -/
def wr (s : State) (r : Req) (a : Nat) (f : State → State) : State :=
  if s.reaches r a then s.letIn a f else s

/-- A requester's read of a register. -/
def rd (s : State) (r : Req) (a : Nat) : State := if s.reaches r a then s.busRead r a else s

/-! ### Plain writes (00 R13–R16; 17 R592, R596) -/

/-- The unit whose safe point puts a register's SH fields in force (17 R597); the time bases take
theirs through TIM_BASE_CTRL alone (17 R593). -/
def shUnit (a : Nat) : Option ShUnit :=
  if a < 0x0500000 then none
  else if a < 0x0600000 then some (.trunk ((a - 0x0500000) / 0x400))
  else if a < 0x0A00000 then none
  else if a < 0x0C00000 then some .chn
  else if 0x0E00000 ≤ a ∧ a < 0x1000000 then some .pmu
  else none

/-- HOLD (17 R592). -/
def hold (s : State) : Bool := decide (s.regField Reg.idnApply 0 1 = 1)

/-- A shadow written: the value in force stays until the safe point (17 R592). -/
def shadow (s : State) (a : Nat) (v : Word) : State :=
  match shUnit a with
  | none => s.setReg a v
  | some _ =>
    let old := BitVec.ofNat 32 (s.inForce a)
    let w := s.live.waiting.filter (fun e => decide (e.addr ≠ a))
    let rel := !s.hold
    { (s.setReg a v) with
      inforce := Tab.ins s.inforce a old
      live := { s.live with waiting := w ++ [{ addr := a, released := rel }] } }

/-- The STOP bits of a register that a write may not change now (17 R596, R597). -/
def stopHeld (s : State) (a : Nat) : Nat :=
  let m := (Reg.maskAt a).stop
  if m = 0 then 0
  else if a = Reg.wrdPairCfg ∨ a = Reg.pmuRingCtrl ∨ (0x0510000 ≤ a ∧ a < 0x0520000 ∧ a % 16 = 0) ∨
      (Reg.timPulse ≤ a ∧ a < Reg.timCap ∧ a % 0x40 = 0) ∨ a = Reg.timCap ∨ a = Reg.timCap + 0x40 then
    (if (s.reg a).getLsbD 31 then m else 0)
  else if 0x0510000 ≤ a ∧ a < 0x0520000 then (if (s.reg (a - a % 16)).getLsbD 31 then m else 0)
  else if Reg.timPulse ≤ a ∧ a < Reg.timCap then
    (if (s.reg (a - (a - Reg.timPulse) % 0x40)).getLsbD 31 then m else 0)
  else if 0x0200000 ≤ a ∧ a < 0x0400000 then (if s.laneRuns (laneAt a) then m else 0)
  else if 0x0400000 ≤ a ∧ a < 0x0410000 then
    (if s.portRuns (decide (0x0408000 ≤ a)) ((a % 0x8000) / 0x400) then m else 0)
  else if Reg.chnPolicy ≤ a ∧ a < Reg.chnPolicy + 128 then
    maskOf 32 (fun j => s.key.valid (8 * (a - Reg.chnPolicy) + j))
  else 0

/-- The new stored word of a write: RW, SH and STOP bits replaced, W1C bits cleared, and the word
taken as its register's table says; with whether a STOP field was refused. -/
def merged (s : State) (a : Nat) (v : Word) : Word × Bool :=
  let m := Reg.maskAt a
  let old := s.reg a
  let held := BitVec.ofNat 32 (s.stopHeld a)
  let stop := BitVec.ofNat 32 m.stop &&& ~~~held
  let take := BitVec.ofNat 32 (m.rw ||| m.sh) ||| stop
  let clr := BitVec.ofNat 32 m.w1c &&& v
  let norm := BitVec.ofNat 32 (Reg.norm a v.toNat)
  let new := (old &&& ~~~take &&& ~~~clr) ||| (norm &&& take)
  (new, decide ((norm ^^^ old) &&& held ≠ 0))

/-- A write to stored fields (00 R13–R16, 17 R596). -/
def storeReg (s : State) (a : Nat) (v : Word) : State :=
  let (w, refused) := s.merged a v
  let s := if (Reg.maskAt a).sh ≠ 0 then s.shadow a w else s.setReg a w
  if refused then s.stopRefused a else s

end State

end Sys2Proof.Machine
end

