-- ==== Sys2Proof/Machine/Links.lean ====
section
/-! DEFINITION. Operations over lanes, ports and framer stages that several families share: stage
moves and their consequences for ports and pairs, removal and retirement, the capacity rule of
01 R48, and the waking and gating of polders and pipe groups (01 R44–R50; 04 R141–R172;
05 R187–R200; 06 R206, R224; 08 R306; 11 R434, R435). -/

namespace Sys2Proof.Machine
open Sys2Proof.Bits

namespace State

/-! ### Causes (04 R172, 05 R200, 06 R251, 16 R583) -/

/-- A cause of a lane; a PAIR lane raises 234 or 235 with the warden block's bit (04 R140). -/
def laneCause (s : State) (l bit cls : Nat) : State :=
  let t := s.orReg (Reg.lane l + 0x14) (2 ^ bit)
  if l < 64 then t.raise l bit cls l else t.cause Reg.wrdEvent (l - 59) (l + 170) cls 1

/-- The trunk port of a framer is removed. -/
def framerOut (s : State) (n : Nat) : Bool := decide (n < 32) && (s.port true n).removed

/-- A cause of a framer (06 R251, R250); that of a removed port raises nothing but the removal itself (16 R562). -/
def framerCause (s : State) (n bit cls : Nat) (unit : Nat := n) : State :=
  if s.framerOut n && decide (bit ≠ 10) then s
  else
    let t := s.orReg (Reg.framer n + 0x0C) (2 ^ bit)
    if n < 32 then t.raise (80 + n / 2) bit cls unit else t.cause Reg.wrdEvent (n - 27) (n + 202) cls

/-- A cause of a port: the line port of a trunk pair raises none (05 R200), and a removed port nothing but its removal (16
R562). -/
def portCause (s : State) (line : Bool) (n bit cls : Nat) : State :=
  if (line && decide ((s.pair n).mode = .trunk)) || ((s.port line n).removed && decide (bit ≠ 5)) then s
  else s.cause (Reg.port line n + 0x0C) bit ((if line then 72 else 64) + n / 4) cls

/-! ### Pairs, lanes and framers -/

/-- The pair that covers a lane number of either side. -/
def pairOf (s : State) (n : Nat) : Option Nat :=
  (s.pairsUsed.find? (fun e => decide (e.1 ≤ n ∧ n < e.1 + e.2.width))).map Prod.fst

/-- A lane's number within its side. -/
def laneIdx (l : Nat) : Nat := if l < 32 then l else l - 32

/-- Whether a framer's lanes are all ACTIVE. -/
def framerLanesUp (s : State) (n : Nat) : Bool :=
  !(s.framerLanes n).isEmpty && (s.framerLanes n).all (fun l => decide ((s.lane l).stage = .active))

/-- The end of SYNC: LOST_SYNC is counted and raised, a frame in progress is discarded (06 R228,
R251), and a SYNC period that ends in HUNT before 64 headers is a false lock (R232). `mid` says that
the end may fall inside a frame. -/
def leaveSync (s : State) (n : Nat) (st : SyncState) (mid : Bool) : State :=
  let f := s.framer n
  let falseLock := decide (st = .hunt ∧ f.headers < 64)
  let near := { f.near with falseLock := f.near.falseLock || falseLock, defect := true }
  let t := if mid && decide (f.off < f.rx.length) then s.bump (Reg.framer n + 0x80) else s
  let t := t.setFramer n { f with sync := st, v := 0, byScan := false, near := near }
  let t := (t.bump (Reg.framer n + 0x58)).framerCause n 1 1
  if falseLock then (t.bump (Reg.framer n + 0x60)).framerCause n 2 1 else t

/-- A framer follows its lanes: STOPPED while one is not ACTIVE, to HUNT when all become so
(06 R224). -/
def framerFollow (s : State) (n : Nat) : State :=
  let f := s.framer n
  if s.framerLanesUp n then
    if f.sync = .stopped then
      s.setFramer n { f with sync := .hunt, v := 0, rx := [], off := 0, rxPos := 0, near := { f.near with defect := true },
                             aligned := f.aligned || decide (32 ≤ n ∨ (s.pair n).width = 1) }
    else s
  else if f.sync = .stopped then s
  else
    let t := if f.sync = .sync then s.leaveSync n .stopped true else s
    let g := t.framer n
    let ls := t.framerLanes n
    let t := { t with deskew := t.deskew.filter (fun e => !ls.contains e.1) }
    t.setFramer n { g with sync := .stopped, v := 0, rx := [], off := 0, aligned := false, force := false,
                           near := { g.near with defect := true } }

/-- The conditions of 05 R187, or of 06 R206 for a trunk port. -/
def portUp (s : State) (line : Bool) (n : Nat) : Bool :=
  let p := s.port line n
  !(s.portLanes line n).isEmpty && !p.removed && !p.retired &&
    (s.portLanes line n).all (fun l => decide ((s.lane l).stage = .active)) &&
    (if line && decide ((s.pair n).mode = .trunk) then
      (s.framer n).aligned && decide ((s.framer n).sync = .sync)
    else p.pcsLock && p.fecLock && !p.localFault && !p.remoteFault)

/-- No polder and no pipe group is still waking (01 R49, R50). -/
def unitsReady (s : State) : Bool :=
  decide (s.cph.waking = 0) && s.polders.all (fun e => decide (e.2.state ≠ .waking))

/-- A port takes the state its conditions give; it becomes ACTIVE only with the units its pair needs awake (01
R50). With a lane that is not ACTIVE it has no lock and receives no fault sequence. It transmits remote fault while it
receives local fault (05 R188). `own` is false where the module takes it out by shed, retirement, a PORT_POLICY stop,
removal or a lost reference (05 R200). -/
def portFollow (s : State) (line : Bool) (n : Nat) (own : Bool) : State :=
  let p := s.port line n
  let lanes := (s.portLanes line n).all (fun l => decide ((s.lane l).stage = .active))
  let p := if lanes then p else { p with pcsLock := false, fecLock := false, localFault := false, remoteFault := false }
  let p := { p with sendRemote := p.localFault }
  let up := s.portUp line n && (p.active || s.unitsReady)
  if up = p.active then s.setPort line n p
  else
    let t := s.setPort line n { p with active := up }
    if up then t.portCause line n 0 0 else if own then t.portCause line n 1 1 else t

/-- A port's receiver takes the outputs its own transmitter sends from now on (04 R173, 05 R201). -/
def loopFrom (s : State) (line : Bool) (p : Nat) : State :=
  s.setPort line p { s.port line p with looped := (s.portOut line p).sent.length }

/-- A framer moves, and with it its port (06 R206). -/
def framerPort (s : State) (n : Nat) (own : Bool) : State :=
  if n < 32 then s.portFollow true n own else s

/-! ### Capacity (01 R48, 08 R306, 11 R434) -/

/-- Engines in service in polders that are neither removed nor retired. -/
def enginesInService (s : State) : Nat :=
  ((List.range 32).map (fun p =>
    let q := s.polder p
    if q.state = .removed ∨ q.state = .retired then 0 else popCount q.inService.toNat 32)).sum

/-- Pipes in service. -/
def pipesInService (s : State) : Nat := popCount s.cph.inService 64

/-- Whether `l` lanes per side fit the engines in service and the pipes in service at the last round
boundary (01 R47, R48; 11 R434, R436). -/
def fits (s : State) (l : Nat) : Bool :=
  decide ((914 * l + 31) / 32 ≤ s.enginesInService ∧ 7 * l ≤ 4 * s.cph.fitN)

/-- The pairs that stay within the capacity, taken from the lowest number (01 R48). -/
def keep48 (s : State) : List (Nat × Nat) → Nat → List Nat → List Nat
  | [], _, out => out
  | (n, w) :: r, l, out => if s.fits (l + w) then keep48 s r (l + w) out else (n :: out) ++ r.map Prod.fst

/-- The pairs taken out of service are marked: highest-numbered first, until the rest fit (01 R48).
The holder of the burgee takes them out (16 R568). -/
def fit48 (s : State) : State :=
  if s.wrd.holder.isNone then s
  else
    let want := s.pairsUsed.filter (fun e =>
      s.pairAllowed e.1 { e.2 with out48 := false } && (s.port false e.1).active && (s.port true e.1).active)
    let out := s.keep48 (want.map (fun e => (e.1, e.2.width))) 0 []
    { s with pairs := s.pairs.map (fun e => (e.1, { e.2 with out48 := out.contains e.1 })) }

/-! ### Waking and gating (01 R49, R50; 08 R306; 11 R435) -/

/-- Lanes per side of the pairs that need polders and pipes: those with a port that is ACTIVE, or allowed with a
lane that has left DOZE, so that the units are awake before a port reaches ACTIVE and until both have left it (01
R50; log entry 22). -/
def lanesWanted (s : State) : Nat :=
  s.pairsUsed.foldl (fun a e =>
    let awake := (s.portLanes false e.1 ++ s.portLanes true e.1).any (fun l =>
      decide ((s.lane l).stage ≠ .doze ∧ (s.lane l).stage ≠ .removed))
    let up := (s.port false e.1).active || (s.port true e.1).active
    if up || (s.pairAllowed e.1 { e.2 with out48 := false } && awake) then a + e.2.width else a) 0

/-- Whether a polder holds no context. -/
def polderEmpty (s : State) (p : Nat) : Bool :=
  s.engines.all (fun e => decide (e.1 / 32 ≠ p) || e.2.ctxs.isEmpty)

/-- One polder woken or gated, with the engines that lower polders give (08 R306). -/
def polderNeed (need : Nat) (a : Nat × State) (p : Nat) : Nat × State :=
  let q := a.2.polder p
  if q.state = .removed ∨ q.state = .retired then a
  else if a.1 < need then
    (a.1 + popCount q.inService.toNat 32,
      if q.state = .asleep then a.2.setPolder p { q with state := .waking } else a.2)
  else
    (a.1, if q.state ≠ .asleep ∧ a.2.polderEmpty p then a.2.setPolder p { q with state := .asleep } else a.2)

/-- The pipe groups to keep awake for `l` lanes: the lowest with in-service pipes (11 R435). -/
def groupsWanted (s : State) (l : Nat) : Nat :=
  let need := (7 * l + 3) / 4 + 4
  ((List.range 16).foldl (fun (a : Nat × Nat) g =>
    let k := popCount (field s.cph.inService (4 * g) 4) 4
    if a.1 < need ∧ k ≠ 0 then (a.1 + k, a.2 + 2 ^ g) else a) (0, 0)).2

/-- Pipe groups woken or gated. -/
def pipeNeed (s : State) (l : Nat) : State :=
  let want := s.groupsWanted l
  let aw := maskOf 16 (fun g => decide (field s.cph.awake (4 * g) 4 = field s.cph.inService (4 * g) 4))
  let keep := maskOf 64 (fun p => want.testBit (p / 4) && s.cph.awake.testBit p)
  let wak := maskOf 16 (fun g => want.testBit g && !aw.testBit g)
  { s with cph := { s.cph with awake := keep, dealt := s.cph.dealt &&& keep, waking := wak } }

/-- The units the pairs need are woken, the others gated. -/
def wakeUnits (s : State) : State :=
  let l := s.lanesWanted
  let t := ((List.range 32).foldl (polderNeed ((914 * l + 31) / 32)) (0, s)).2
  t.pipeNeed l

/-- Capacity and sleeping units brought up to date after a change of pairs or units. -/
def settle (s : State) : State := (s.fit48).wakeUnits

/-- Units have woken: the ports that waited for them become ACTIVE (01 R50). -/
def unitsWoken (s : State) : State :=
  if s.unitsReady then
    (s.pairsUsed.foldl (fun t e => (t.portFollow false e.1 true).portFollow true e.1 true) s).settle
  else s.settle

/-! ### Lane moves -/

/-- A receiver that has to find its lock again: it hunts, with nothing buffered (04 R162–R164). -/
def unlock (r : LaneRx) : LaneRx :=
  { r with symbols := [], expect := none, good := 0, bad := 0, adjust := 0, elastic := [], capBytes := [], checker := none }

/-- A lane in a stage, with what the stage says of its locks, rate and counts (04 R141, R173). Its receiver settings
stay: the next TRAIN starts from them (R152). -/
def staged (n : Lane) (st : Stage) (trunk : Bool) : Lane :=
  let early := decide (st ≠ .exchange ∧ st ≠ .active)
  let off := decide (st = .doze ∨ st = .removed)
  let r := if early then unlock n.rx else { n.rx with bad := 0 }
  { n with
    stage := st
    wordLock := n.wordLock && !early
    bitLock := n.bitLock && (!early || decide (st = .lock))
    rate := if off then 0 else if trunk then 2 else 1
    signal := n.signal && decide (st ≠ .removed)
    goodWindows := 0
    lowUpdates := 0
    highUpdates := 0
    trained := false
    held := n.held && decide (st = .detect)
    wakeAsked := n.wakeAsked && decide (st = .doze)
    tx := if off then { n.tx with queue := [] } else n.tx
    rx := { r with mismatch := false, prevCap := none, capBytes := [] } }

/-- The framer whose stream a lane carries (06 R203, R250). -/
def framerOf (s : State) (l : Nat) : Option Nat :=
  if 64 ≤ l then some (l - 32)
  else if 32 ≤ l then (s.pairOf (l - 32)).filter (fun p => decide ((s.pair p).mode = .trunk))
  else none

/-- The stream of a framer stops when none of its lanes sends any more (06 R204, R212). -/
def streamStop (s : State) (l : Nat) : State :=
  match s.framerOf l with
  | none => s
  | some n => if (s.framerLanes n).any s.laneSends then s else s.setFramer n { s.framer n with txRow := none, txLeft := [] }

/-- The stage of a lane changed. -/
def setStage (s : State) (l : Nat) (st : Stage) : State :=
  (s.setLane l (staged (s.lane l) st (s.laneTrunk l))).streamStop l

/-- The framer and port of a lane follow its move. -/
def laneFollow (s : State) (l : Nat) (own : Bool) : State :=
  if 64 ≤ l then s.framerFollow (l - 32)
  else
    match s.pairOf (laneIdx l) with
    | none => s
    | some p =>
      let line := decide (32 ≤ l)
      let t := if line && decide ((s.pair p).mode = .trunk) then s.framerFollow p else s
      t.portFollow line p own

/-- A lane moves to a stage, and its framer, port and units follow. -/
def moveLane (s : State) (l : Nat) (st : Stage) (own : Bool) : State :=
  ((s.setStage l st).laneFollow l own).settle

/-- A lane enters ACTIVE: REACHED_ACTIVE (04 R172). -/
def laneUp (s : State) (l : Nat) : State :=
  (((s.setStage l .active).laneCause l 0 0).laneFollow l true).settle

/-- A lane leaves ACTIVE under 04 R142. -/
def laneDown (s : State) (l : Nat) (st : Stage) : State :=
  ((((s.setStage l st).addReg (Reg.lane l + 0x18) 1).laneCause l 1 1).laneFollow l true).settle

/-- A lane enters DOZE; a REMOVED lane stays (04 R154). -/
def dozeLane (s : State) (l : Nat) : State :=
  if (s.lane l).stage = .removed then s else (s.setStage l .doze).laneFollow l false

/-- Frames of the pair of a lane are dropped for a unit removed (01 R46). -/
def dropLanePair (s : State) (l : Nat) : State :=
  if 64 ≤ l then s
  else match s.pairOf (laneIdx l) with
    | none => s
    | some p => s.dropPairRemoved p

/-- The port of a lane is removed (01 R45, 05 R189): REMOVED in its own range. -/
def removePort (s : State) (line : Bool) (p : Nat) (raised : Bool) : State :=
  let t := s.setPort line p { s.port line p with removed := true, active := false }
  let t := if line && decide ((s.pair p).mode = .trunk) then
      (if raised then t.framerCause p 10 3 else t.orReg (Reg.framer p + 0x0C) (2 ^ 10))
    else (if raised then t.portCause line p 5 3 else t.orReg (Reg.port line p + 0x0C) (2 ^ 5))
  t.dropPairRemoved p

/-- A lane is removed with the consequences of 01 R44–R46. `raised` is false where an escalation
removes it: the cause bit is set and no entry is written (16 R561). -/
def removeLane (s : State) (l : Nat) (raised : Bool) : State :=
  if (s.lane l).stage = .removed then s
  else
    let t := s.dropLanePair l
    let t := t.setStage l .removed
    let t := if raised then t.laneCause l 6 3 else t.orReg (Reg.lane l + 0x14) (2 ^ 6)
    let t := if 64 ≤ l then t.framerFollow (l - 32)
      else match t.pairOf (laneIdx l) with
        | none => t
        | some p =>
          let t := if decide (32 ≤ l) && decide ((t.pair p).mode = .trunk) then t.framerFollow p else t
          if (t.port (decide (32 ≤ l)) p).removed then t else t.removePort (decide (32 ≤ l)) p true
    t.settle

/-- A lane is retired (03 R133, 05 R189): as a removal, with a C0 cause. The lanes of its port doze with it (04 R154); the
opposite port stays as it is (01 R45). -/
def retireLane (s : State) (l : Nat) : State :=
  let t := (s.dropLanePair l).setLane l { s.lane l with retired := true }
  let t := (t.setStage l .doze).laneCause l 7 0
  let t := match (if 64 ≤ l then none else t.pairOf (laneIdx l)) with
    | none => t
    | some p => (t.portLanes (decide (32 ≤ l)) p).foldl dozeLane t
  let t := if 64 ≤ l then t.framerFollow (l - 32)
    else match t.pairOf (laneIdx l) with
      | none => t
      | some p =>
        let line := decide (32 ≤ l)
        let t := t.setPort line p { t.port line p with retired := true, active := false }
        let t := if line && decide ((t.pair p).mode = .trunk) then (t.framerFollow p).framerCause p 11 0
          else t.portCause line p 6 0
        t.dropPairRemoved p
  t.settle

/-- Every lane of a pair on both sides. -/
def pairLanes (s : State) (p : Nat) : List Nat := s.portLanes false p ++ s.portLanes true p

/-- The lanes of a pair doze (04 R154). -/
def dozePair (s : State) (p : Nat) : State := (s.pairLanes p).foldl dozeLane s

/-- Whether a side's reference runs (02 R76, R77). -/
def sideRef (s : State) (l : Nat) : Bool := if l < 32 then s.pwr.hostRef else s.pwr.lineRef

/-- The lanes of a side: PAIR lanes take the line reference (04 R137). -/
def sideLanes : Side → List Nat
  | .host => List.range 32
  | .line => (List.range 34).map (fun n => n + 32)

/-- The lanes of a side are held at DETECT for a lost reference (02 R77). -/
def holdSide (s : State) (d : Side) : State :=
  (sideLanes d).foldl (fun t l =>
    let n := t.lane l
    if n.stage = .doze ∨ n.stage = .removed then t
    else
      let t := t.setStage l .detect
      (t.setLane l { t.lane l with held := true, signal := false }).laneFollow l false) s

end State

end Sys2Proof.Machine
end

