-- ==== Sys2Proof/Machine/Units.lean ====
section
/-! DEFINITION. Removal of engines, polders, pipes and pipe groups, and the resets (00 R18–R21;
08 R335; 11 R447, R452; 13 R499; 16 R564, R566, R654). -/

namespace Sys2Proof.Machine
open Sys2Proof.Bits

namespace State

/-- A cause of a polder (08 R338). -/
def pldCause (s : State) (p bit cls : Nat) : State := s.cause (Reg.polder p + 0x08) bit (112 + p) cls

/-- A cause of a pipe group, with the pipe concerned (11 R452). -/
def cphCause (s : State) (pipe bit cls : Nat) : State :=
  let a := Reg.cphEvent + 4 * (pipe / 4)
  (s.setField a 8 2 (pipe % 4)).cause a bit (176 + pipe / 4) cls

/-- The frames in the contexts of the engines a predicate picks. -/
def engineFrames (s : State) (p : Nat → Bool) : List Nat :=
  (s.engines.filter (fun e => p e.1)).flatMap (fun e => e.2.ctxs.map (fun c => c.2.frame))

/-- A frame's verdict of this cycle, if it has one: its counter (08 R336). -/
def verdictNow (s : State) (id : Nat) : Option Nat :=
  match s.whereIs id with
  | none => none
  | some (e, k) =>
    match (Tab.find (s.engine e).ctxs k).bind (fun c => c.settled) with
    | none => none
    | some (at_, o) => if at_ = s.now then some o else none

/-- A removal in the cycle of a frame's verdict takes precedence: the verdict is not given, nor counted (08 R336). -/
def takeBack (s : State) (id : Nat) (f : Frame) : State :=
  match s.verdictNow id with
  | none => s
  | some o => (s.add o (2 ^ 64 - 1)).setFrame id { f with verdict := none }

/-- The frames held by engines are dropped under unit removal (08 R335, R336). -/
def dropEngines (s : State) (p : Nat → Bool) : State :=
  (s.engineFrames p).foldl (fun t id =>
    match t.frame id with
    | some f => (t.takeBack id f).dropFrame id (t.ctrRemoved f)
    | none => t) s

/-- An engine leaves service (08 R335). -/
def engineOut (s : State) (e : Nat) : State :=
  let q := s.polder (e / 32)
  let t := s.dropEngines (fun k => decide (k = e))
  t.setPolder (e / 32) { q with inService := q.inService &&& ~~~(BitVec.ofNat 32 (2 ^ (e % 32))) }

/-- A polder leaves service in a state (08 R335). -/
def polderOut (s : State) (p : Nat) (st : PolderState) : State :=
  let t := s.dropEngines (fun k => decide (k / 32 = p))
  t.setPolder p ((t.polder p).leave st)

/-- An engine is removed: ENGINE_REMOVED, C3. -/
def removeEngine (s : State) (e : Nat) : State := ((s.engineOut e).pldCause (e / 32) 3 3).settle

/-- A polder is removed: POLDER_REMOVED, C3. -/
def removePolder (s : State) (p : Nat) : State :=
  if (s.polder p).state = .removed then s else ((s.polderOut p .removed).pldCause p 4 3).settle

/-- The encrypt and decrypt frames of the cipher stage that use block slots (11 R437, R447). -/
def inPipes (f : Frame) : Bool :=
  decide (f.stage = .cipher ∨ f.stage = .leaving) && decide (f.verdict = some .encrypt ∨ f.verdict = some .decrypt)

/-- The pairs on whose line side a protected frame of this number, received whole, is in output. -/
def sending (s : State) (id : Nat) : List Nat :=
  (s.pairsUsed.map Prod.fst).filter (fun p =>
    match s.inOutput true p with
    | some o => decide (o.frame = some id) && o.charge.isSome
    | none => false)

/-- A frame with a block in a pipe that leaves service is dropped; an encrypt frame whose output has begun is ended (11
R447). -/
def pipeDrop (s : State) (id : Nat) : State :=
  match s.frame id with
  | some f => if inPipes f then s.dropFrame id (s.ctrRemoved f) else s
  | none => (s.sending id).foldl (fun t p => t.endOutput p (Reg.port false p + 0x90)) s

/-- The pipes of a mask leave service; the frames given are dropped (11 R447). -/
def pipesOut (s : State) (m : Nat) (held : List Nat) : State :=
  let t := held.foldl pipeDrop s
  let off := fun v : Nat => v - (v &&& m)
  { t with cph := { t.cph with inService := off t.cph.inService, awake := off t.cph.awake, dealt := off t.cph.dealt } }

/-- The frames with a block or a partial tag in the pipes of a mask (11 R447): which ones is free
(log entry 24). -/
def heldIn (s : State) (mask : Nat) : List Nat :=
  let out := (s.pairsUsed.map Prod.fst).filterMap (fun p => (s.inOutput true p).bind (fun o => o.frame))
  (s.frames.filter (fun e => inPipes e.2 && Config.pipeHolds mask e.1)).map Prod.fst ++
    out.filter (fun id => (s.frame id).isNone && Config.pipeHolds mask id)

/-- A pipe group is removed: GROUP_REMOVED, C3. -/
def removeGroup (s : State) (g : Nat) : State :=
  ((s.pipesOut (15 * 16 ^ g) (s.heldIn (15 * 16 ^ g))).cphCause (4 * g) 3 3).settle

/-! ### Resets -/

/-- The conditions of the levee that stand only while a feed is present end with it (13 R490). -/
def levUnfed (l : Lev) : Lev := { l with tempA := 0, cond := (List.range 11).foldl (fun c n =>
    if n = 1 ∨ n = 2 ∨ n = 8 ∨ n = 9 then setBit c n false else c) l.cond }

/-- A reset of any kind sets LOCK_DEFERRED while a LOCK is in force (13 R499), and ends the LEV_CMD and the check of a
response in progress, whose challenge is used (12 R488; 13 R505, R513; DEDUCED, log entry 72). -/
def levReset (l : Lev) : Lev :=
  { l with lockDeferred := l.lockDeferred || l.locked, cmd := none, checking := none,
           chal := if l.checking.isSome then none else l.chal }

/-- A cold reset: every field outside the levee at its Reset value; the flash and the physical inputs
are no fields (00 R18). A reset by POR_N keeps a C4 latch (16 R564). -/
def coldReset (s : State) (byPor : Bool) : State :=
  let r := State.reset
  let p := s.pwr
  let cold := fun (f : Feed) => { f with voltage := 0, current := 0 }
  { r with
    pending := s.pending
    freeIdx := s.freeIdx
    flash := s.flash
    lev := (levReset s.lev).setCond 7 false
    pwr := if byPor then
        { r.pwr with feedA := cold p.feedA, feedB := cold p.feedB, sysOk := p.sysOk, hostRef := p.hostRef,
                     lineRef := p.lineRef, por := true }
      else r.pwr
    evt := if byPor then { r.evt with c4 := s.evt.c4 } else r.evt
    pcie := { r.pcie with perst := s.pcie.perst } }

/-- The words a warm reset keeps (00 R19); of IDN_RESYNC the COUNT alone. -/
def warmRegs (s : State) : Tab Word :=
  Tab.put Reg.resetOf (s.regs.filter (fun e => Reg.keptWarm e.1)) Reg.idnResync (BitVec.ofNat 32 ((s.reg Reg.idnResync).toNat % 2 ^ 20))

/-- The frames in flight at a warm reset are dropped under unit removal at their ports, and the encrypt frames in
output ended, before the reset (00 R22: each under one counter; which one the spec leaves open, log entry 92). -/
def warmDrop (s : State) : State := (s.dropWhere (fun _ => true) ctrRemoved).endOutputs

/-- The halt code of a module without a root: 0x8A where the levee log records a ZEROIZE (03 R114). -/
def noRootCode (s : State) : Nat := if s.lev.log.any (fun r => decide (beAt r 12 1 = 4)) then 0x8A else 0x88

/-- Where bring-up stands after a warm reset (00 R19): at IMAGE_FETCH, halted there under a LOCK (03 R118) or without
a root (03 R114; DEDUCED, log 33). Bring-up that is still in POWER_OK stays in it (02 R80; DEDUCED, log 33). -/
def warmBoot (s : State) : Boot :=
  let b := State.reset.boot
  if s.boot.state = .powerOk then b
  else
    { b with
      state := .imageFetch
      warm := true
      timeStart := s.now
      slot := s.lev.prefSlot
      halted := s.lev.locked || !s.vaultValid
      code := if s.vaultValid = false then s.noRootCode else if s.lev.locked then 0x89 else 0 }

/-- A warm reset (00 R19), the frames in flight gone. A shed begun completes (02 R67), and events held during
bring-up stay held (03 R94). The PCIe endpoint keeps its configuration spaces and link, and its MSI-X table and
pending bits return to reset (the spec says what PERST_N does to the endpoint, 00 R20, and not what a warm reset
does: DESIGN CHOICE, log entry 93). -/
def warmBase (s : State) : State :=
  let r := State.reset
  let tim := { r.tim with bases := s.tim.bases, prior := s.tim.prior }
  let t : State := { r with
    pending := s.pending
    freeIdx := s.freeIdx
    now := s.now
    clockOn := s.clockOn
    regs := s.warmRegs
    ctr := s.ctr
    flash := s.flash
    lev := levReset s.lev
    devNumber := s.devNumber
    counts := s.counts
    pwr := { s.pwr with por := s.pwr.por && decide (s.boot.state = .powerOk),
                        wait0 := s.pwr.wait0.map (fun _ => s.now), wait1 := s.pwr.wait1.map (fun _ => s.now) }
    boot := s.warmBoot
    evt := { r.evt with
      hist := s.evt.hist, nextSeq := s.evt.nextSeq, lostMark := s.evt.lostMark, c4 := s.evt.c4, held := s.evt.held }
    wrd := s.wrd
    pcie := { r.pcie with perst := s.pcie.perst, cfg0 := s.pcie.cfg0, cfg1 := s.pcie.cfg1,
                          up := s.pcie.up, width := s.pcie.width, speed := s.pcie.speed }
    tim := tim
    cls := { r.cls with hitEnc := s.cls.hitEnc, hitDec := s.cls.hitDec }
    dbg := s.dbg }
  t

/-- A warm reset (00 R19, R22). -/
def warmReset (s : State) : State := s.warmDrop.warmBase

end State

end Sys2Proof.Machine
end

