-- ==== Sys2Proof/Machine/Clock.lean ====
section
/-! DEFINITION. What reads a time base by its instants: pulse outputs, and what a jump of their base
does to them (14 R523, R531). -/

namespace Sys2Proof.Machine
open Sys2Proof.Bits

/-- The cause register of the time block raises event 208 plus the bit (14 R535). -/
def State.timCause (s : State) (bit cls : Nat) : State := s.cause Reg.timEvent bit (208 + bit) cls

namespace State

/-- The whole second of a base's value. -/
def secondOf (v : Nat) : Nat := v / (65536 * 10 ^ 9)

/-- How many of the instants start + n × period, for n from `next` on, lie before `v`. -/
def passedBefore (start period next v : Nat) : Nat :=
  if v ≤ start + next * period then 0 else (v - start - 1) / max 1 period + 1 - next

/-- A pulse output (14 R531). -/
def pulse (s : State) (k : Nat) : Pulse := Tab.get (fun _ => { next := 0, ends := none }) s.tim.pulses k

/-- A pulse output replaced. -/
def setPulse (s : State) (k : Nat) (p : Pulse) : State :=
  { s with tim := { s.tim with pulses := Tab.put (fun _ => { next := 0, ends := none }) s.tim.pulses k p } }

/-- A pulse output's window. -/
def pulseReg (k : Nat) : Nat := Reg.timPulse + 0x40 * k

/-- START of a pulse output. -/
def pulseStart (s : State) (k : Nat) : Nat := leAt (s.regBytes (pulseReg k + 8) 3) 0 12

/-- PERIOD of a pulse output; below 1 µs it is taken as 1 µs (14 R536). -/
def pulsePeriod (s : State) (k : Nat) : Nat := max 65536000 (leAt (s.regBytes (pulseReg k + 0x14) 3) 0 12)

/-- Whether a pulse output is enabled, and periodic. -/
def pulseOn (s : State) (k : Nat) : Bool := decide (s.regField (pulseReg k) 31 1 = 1)
/-- See `pulseOn`. -/
def pulsePeriodic (s : State) (k : Nat) : Bool := decide (s.regField (pulseReg k) 30 1 = 1)

/-- WIDTH of a pulse output in units of 2^-16 ns: 0 is taken as 1 ns, and at or above PERIOD as half of
it, in whole nanoseconds (14 R531). -/
def pulseWidth (s : State) (k : Nat) : Nat :=
  let w := max 1 (s.regN (pulseReg k + 4)) * 65536
  if s.pulsePeriodic k && decide (s.pulsePeriod k ≤ w) then s.pulsePeriod k / 2 / 65536 * 65536 else w

/-- The level of PPS_OUTk: active inside a pulse, but in the cycle in which its base is applied, unless INVERT turns it (14
R531). -/
def ppsOut (s : State) (k : Nat) : Bool :=
  let b := s.regField (pulseReg k) 24 3
  let on := match (s.pulse k).ends with
    | some e => s.pulseOn k && decide (s.baseOn b < e ∧ (s.base b).anchor ≠ s.count)
    | none => false
  on != decide (s.regField (pulseReg k) 29 1 = 1)

/-- Edges skipped: PULSE_SKIPPED counts them and its cause is raised (14 R523, R531). -/
def pulseSkipped (s : State) (n : Nat) : State :=
  if n = 0 then s else (s.add (Reg.timCtr + 0x18) n).timCause 1 1

/-- What a jump of its base to `v` does to a pulse output (14 R523): edges passed over are skipped; a
one-shot passed over ends as one enabled too late does (R531). -/
def pulseJump (s : State) (k v : Nat) : State :=
  let p := s.pulse k
  if s.pulsePeriodic k then
    let n := passedBefore (s.pulseStart k) (s.pulsePeriod k) p.next v
    (s.setPulse k { p with next := p.next + n }).pulseSkipped n
  else if p.next = 0 ∧ s.pulseStart k < v then
    ((s.setField (pulseReg k) 31 1 0).setPulse k { s.pulse k with next := 1 }).pulseSkipped 1
  else s

/-- The pulse outputs of a base carried over a jump forward. -/
def pulsesJump (s : State) (b v : Nat) : State :=
  [0, 1, 2, 3].foldl (fun t k =>
    if t.pulseOn k && decide (t.regField (pulseReg k) 24 3 = b) then t.pulseJump k v else t) s

/-- A pulse output starts (14 R531): its next edge is the first not before its base's value; a one-shot
whose START has passed ends with one skipped edge. -/
def pulseBegin (s : State) (k : Nat) : State :=
  let v := s.baseOn (s.regField (pulseReg k) 24 3)
  if s.pulsePeriodic k then s.setPulse k { s.pulse k with next := passedBefore (s.pulseStart k) (s.pulsePeriod k) 0 v, ends := none }
  else if s.pulseStart k < v then ((s.setField (pulseReg k) 31 1 0).setPulse k { next := 1, ends := none }).pulseSkipped 1
  else s.setPulse k { next := 0, ends := none }

/-- Whether the instant start + n × period of base `b` is reached before the core cycle ends (14 R523). -/
def due (s : State) (b start period n : Nat) : Bool :=
  decide (start + n * period < (s.base b).at_ (countAt (s.now + 1)))

/-- The base value of a pulse output's next edge; none where a one-shot has placed its edge (14 R531). -/
def pulseNext (s : State) (k : Nat) : Option Nat :=
  let p := s.pulse k
  if s.pulsePeriodic k then some (s.pulseStart k + p.next * s.pulsePeriod k)
  else if p.next = 0 then some (s.pulseStart k)
  else none

/-- A one-shot output clears ENABLE after its pulse (14 R531). -/
def pulseEnd (s : State) (k : Nat) : State :=
  match (s.pulse k).ends with
  | some e =>
    if s.pulseOn k && !s.pulsePeriodic k && decide (e ≤ s.baseOn (s.regField (pulseReg k) 24 3)) then
      s.setField (pulseReg k) 31 1 0
    else s
  | none => s

/-- The one-shot outputs whose pulse is over. -/
def pulsesEnd (s : State) : State := [0, 1, 2, 3].foldl pulseEnd s

/-- One core cycle passes with no command waiting (log entry 1): the clock moves on, and the counters and the levee's
crystal with it (12 R478; 14 R515, R531; 18 R603, R606). -/
def tick (s : State) : State :=
  if !s.clockOn then s
  else
    let n := s.now
    let t := { s with now := n + 1, lev := s.lev.crystal n }
    let t := t.pmuCount 0 0 0 1
    let t := t.pmuCount 0 0 1 ((n + 1) * 22 / 25 - n * 22 / 25)
    let t := t.pmuCount 0 0 2 ((n + 1) / 1250 - n / 1250)
    ((List.range 32).foldl (fun u p => u.pmuCount 3 p 3 (u.waitingCtxs p)) t).pulsesEnd

end State

end Sys2Proof.Machine
end

