-- ==== Sys2Proof/Machine/Framing.lean ====
section
/-! DEFINITION. Trunk framing as functions: header checks and correction, the payload scrambler, the
classification of seconds, durations on the wire, and the spillway (06 R207–R246). -/

namespace Sys2Proof.Machine
open Sys2Proof.Bits

namespace Ndoath

/-- Whether the HEC of six header bytes is right (06 R210). -/
def hecOk (h : Bytes) : Bool := decide ((crc16 (h.take 4) ^^^ 0xB6AB) = beAt h 4 2)

/-- LENGTH in range and the size a multiple of 4 (06 R224). -/
def shape (h : Bytes) : Bool := decide (16 ≤ len h ∧ len h ≤ 9216 ∧ size h % 4 = 0)

/-- A candidate valid under 06 R224. -/
def valid (h : Bytes) : Bool := hecOk h && shape h

/-- A header with the error of one bit undone, if its syndrome is that of one (06 R225). -/
def corrected (h : Bytes) : Option Bytes :=
  if hecOk h then none
  else
    match (List.range 48).find? (fun i => hecOk (beBytes 6 (beNat h ^^^ 2 ^ i))) with
    | some i => if shape (beBytes 6 (beNat h ^^^ 2 ^ i)) then some (beBytes 6 (beNat h ^^^ 2 ^ i)) else none
    | none => none

/-- Payload and PAD with the scrambler x^43 + 1 removed; `before` are the six stream bytes before the
header, payload or PAD of the frame before (06 R223). -/
def descramble (before r : Bytes) : Bytes :=
  let hist := (bitsOf before).drop 5
  let bits := bitsOf r
  bytesOfBits r.length (List.zipWith (fun x y => xor x y) bits (hist ++ bits))

/-- Payload bits scrambled, 43 at a time, and the history after them (06 R223). -/
def scramble : Nat → List Bool → List Bool → List Bool × List Bool
  | 0, hist, _ => ([], hist)
  | n + 1, hist, bits =>
    if bits.isEmpty then ([], hist)
    else
      let c := List.zipWith (fun x y => xor x y) (bits.take 43) hist
      let (rest, h) := scramble n ((hist ++ c).drop c.length) (bits.drop 43)
      (c ++ rest, h)

/-- The shape of a FILL frame of at most `most` bytes that leaves none or at least 24 of them, from a free choice: its
LENGTH and PAD (06 R211, R212). -/
def fillShape (most : Nat) (c : Nat × Nat) : Nat × Nat :=
  let top := min most 9476 / 4
  let x := 24 + 4 * (c.1 % (top - 5))
  let x := if x = most ∨ x + 24 ≤ most then x else if most ≤ 9476 then most else x - 24
  let low := x - 9222
  let p := low + c.2 % (min 255 (x - 22) - low + 1)
  (x - 6 - p, p)

/-- A FILL frame (06 R209, R220). -/
def fillFrame (shape : Nat × Nat) : Bytes := CipherFn.coreHeader shape.1 0 0 shape.2 ++ zeros (shape.1 + shape.2)

/-- A frame as the stream carries it, its payload and PAD scrambled, and the scrambler's history after it (06
R223). -/
def inStream (hist : List Bool) (frame : Bytes) : Bytes × List Bool :=
  let bits := bitsOf (frame.drop 6)
  let (c, h) := scramble bits.length hist bits
  (frame.take 6 ++ bytesOfBits (frame.length - 6) c, h)

end Ndoath

/-! ### Performance seconds (06 R233–R237) -/

namespace PmEnd

/-- How a second is classified (06 R235). Without an errored block there is no share of errored
blocks. -/
def classify (e : PmEnd) : PmClass :=
  let ses := e.defect || decide (0 < e.errored ∧ 3 * e.blocks ≤ 10 * e.errored)
  { es := ses || decide (0 < e.errored) || e.falseLock, ses := ses, bbe := if ses then 0 else e.errored }

/-- The end at the start of its next second. -/
def next (e : PmEnd) (defect : Bool) : PmEnd :=
  { e with blocks := 0, errored := 0, defect := defect, falseLock := false }

end PmEnd

namespace State

/-- A 32-bit seconds counter lowered, not below 0 (06 R236). -/
def subReg (s : State) (a n : Nat) : State := s.setReg a (BitVec.ofNat 32 (s.regN a - n))

/-- One classified second entered into the counters of an end (06 R235, R236): `es`, `ses`, `uas` are
its seconds registers, `bbe` its block counter. Answers the end and whether unavailable time began
and ended. -/
def pmEnter (s : State) (e : PmEnd) (c : PmClass) (es ses uas bbe : Nat) : State × PmEnd × Bool × Bool :=
  if e.unavailable then
    let s := s.addReg uas 1
    if c.ses then (s, { e with recent := [] }, false, false)
    else if e.recent.length = 9 then
      let l := c :: e.recent
      let s := (s.subReg uas 10).addReg es ((l.filter (fun x => x.es)).length)
      (s.add bbe ((l.map (fun x => x.bbe)).sum), { e with unavailable := false, recent := [] }, false, true)
    else (s, { e with recent := c :: e.recent }, false, false)
  else if c.ses && decide (e.recent.length = 9) then
    (((s.addReg uas 10).subReg es 9).subReg ses 9, { e with unavailable := true, recent := [] }, true, false)
  else
    let s := if c.es then s.addReg es 1 else s
    let s := if c.ses then s.addReg ses 1 else s
    (s.add bbe c.bbe, { e with recent := if c.ses then c :: e.recent else [] }, false, false)

/-- The near end's second closed (06 R235, R236, R251). -/
def closeNear (s : State) (n : Nat) : State :=
  let f := s.framer n
  let w := Reg.framer n
  let c := f.near.classify
  let (t, e, began, ended) := s.pmEnter f.near c (w + 0x10) (w + 0x14) (w + 0x18) (w + 0xA0)
  let t := t.setFramer n { t.framer n with near := e.next (decide (f.sync ≠ .sync)) }
  let t := if c.ses then t.framerCause n 5 1 else t
  let t := if began then t.framerCause n 6 2 else t
  if ended then t.framerCause n 7 0 else t

/-- One second of the far end entered (06 R237). -/
def enterFar (s : State) (n : Nat) (c : PmClass) : State :=
  let w := Reg.framer n
  let (t, e, _, _) := s.pmEnter (s.framer n).far c (w + 0x1C) (w + 0x20) (w + 0x24) (w + 0xA8)
  t.setFramer n { t.framer n with far := e }

/-- The far end's second closed: a second without a MONITOR frame waits for the next one (06 R237). -/
def closeFar (s : State) (n : Nat) : State :=
  let f := s.framer n
  if f.farSeen then
    let t := s.enterFar n f.far.classify
    let g := t.framer n
    t.setFramer n { g with far := g.far.next false, farSeen := false }
  else s.setFramer n { f with farPending := f.farPending + 1 }

/-- The time base that gives a framer its seconds (06 R235). -/
def pmBase (s : State) (n : Nat) : Nat := s.forceField (Reg.framer n + 0x04) 8 3

/-- Whether seconds are counted: not between a backward jump and the boundary after the last second
closed (14 R523). -/
def pmRuns (s : State) (n : Nat) : Bool :=
  match (s.framer n).resume with
  | some r => decide (r ≤ secondOf (s.baseOn (s.pmBase n)))
  | none => true

/-- A second of a framer ends (06 R235–R237). -/
def closeSecond (s : State) (n : Nat) : State :=
  if s.pmRuns n then
    let t := (s.closeNear n).closeFar n
    t.setFramer n { t.framer n with resume := none }
  else s

/-- A block received (06 R234). -/
def block (s : State) (n : Nat) (errored : Bool) : State :=
  let f := s.framer n
  let e := f.near
  let e := if s.pmRuns n then { e with blocks := e.blocks + 1, errored := e.errored + b2n errored } else e
  s.setFramer n { f with blockTotal := (f.blockTotal + 1) % 2 ^ 32,
                         errTotal := (f.errTotal + b2n errored) % 2 ^ 32, near := e }

/-- A block whose ICV check failed is errored, if it was not already (06 R234). -/
def blockIcv (s : State) (n : Nat) (already : Bool) : State :=
  if already then s
  else
    let f := s.framer n
    let e := f.near
    let e := if s.pmRuns n then { e with errored := e.errored + 1 } else e
    s.setFramer n { f with errTotal := (f.errTotal + 1) % 2 ^ 32, near := e }

/-- What a jump of a base from `v0` to `v1` does to a framer's seconds (14 R523). -/
def secondJump (s : State) (n v0 v1 : Nat) : State :=
  let s0 := secondOf v0
  let s1 := secondOf v1
  if s0 = s1 then s
  else
    match (s.framer n).resume with
    | some r => if r ≤ s1 then s.setFramer n { s.framer n with resume := none } else s
    | none =>
      let t := (s.closeNear n).closeFar n
      t.setFramer n { t.framer n with resume := if s1 < s0 then some (s0 + 1) else none }

/-! ### Circuits and spillways (06 R238–R246) -/

/-- A circuit's fields (06 R256). -/
def circEnabled (s : State) (c : Nat) : Bool := decide (s.regField (Reg.circuit c) 31 1 = 1)
/-- See `circEnabled`. -/
def circPair (s : State) (c : Nat) : Nat := s.regField (Reg.circuit c) 24 5
/-- See `circEnabled`. -/
def circBase (s : State) (c : Nat) : Nat := s.regField (Reg.circuit c) 20 3
/-- The largest DATA a circuit takes. -/
def circLimit (s : State) (c : Nat) : Nat := 256 * (s.regField (Reg.circuit c) 16 2 + 1)
/-- See `circEnabled`. -/
def circTarget (s : State) (c : Nat) : Nat := s.regField (Reg.circuit c) 8 6
/-- See `circEnabled`. -/
def circDepth (s : State) (c : Nat) : Nat := s.regField (Reg.circuit c) 0 6
/-- PERIOD in units of 2^-16 ns. -/
def circPeriod (s : State) (c : Nat) : Nat := 4096 * s.regN (Reg.circuit c + 4)

/-- Whether a circuit refuses DATA of `n` bytes of a pair (06 R238, R240). -/
def circRefuses (s : State) (c pair n : Nat) : Bool :=
  !s.circEnabled c || decide (s.circPair c ≠ pair ∨ s.circLimit c < n)

/-- A spillway count that is a slip (06 R240–R242, R251). -/
def slip (s : State) (c ctr n : Nat) : State :=
  if n = 0 then s
  else (s.add (Reg.framer (s.circPair c) + ctr) n).framerCause (s.circPair c) 8 1

/-- A frame is emitted: it waits for its gap (06 R241, R244). -/
def emit (s : State) (c : Nat) (b : Option Bytes) : State :=
  let q := s.circuit c
  s.setCircuit c { q with waiting := b, last := b }

/-- A play-out instant (06 R241, R242). A frame still waiting is dropped first (R244). A head whose SEQ is behind RX_NEXT has
no row in R241's table and is played as one ahead of it (DESIGN CHOICE, log entry 108). -/
def playInstant (s : State) (c : Nat) : State :=
  let q := s.circuit c
  let w := Reg.framer (s.circPair c)
  let t := if q.waiting.isSome then (s.bump (w + 0xD8)).setCircuit c { q with waiting := none } else s
  let q := t.circuit c
  let q := { q with instants := q.instants + 1 }
  match q.frames with
  | h :: r =>
    if h.seq = q.rxNext then
      (t.setCircuit c { q with frames := r, rxNext := (q.rxNext + 1) % 65536, missed := 0 }).emit c (some h.bytes)
    else
      let t := (t.setCircuit c { q with rxNext := (q.rxNext + 1) % 65536, missed := q.missed + 1 }).emit c q.last
      t.bump (w + 0xD0)
  | [] => ((t.setCircuit c { q with missed := q.missed + 1 }).emit c q.last).slip c 0xC8 1

/-- A spillway that emitted no received frame for DEPTH instants stops (06 R242). -/
def circuitDown (s : State) (c : Nat) : State :=
  let q := s.circuit c
  if s.circDepth c ≤ q.missed then
    let t := s.setCircuit c { q with playing := false, frames := [], missed := 0 }
    (t.slip c 0xC0 q.frames.length).framerCause (s.circPair c) 9 2 c
  else s

/-- A play-out instant with its end (06 R241, R242). -/
def play (s : State) (c : Nat) : State := (s.playInstant c).circuitDown c

/-- An arrival while the spillway does not play (06 R240 step 1). -/
def arriveIdle (s : State) (c : Nat) (f : SpFrame) : State :=
  let q := s.circuit c
  let full := decide (s.circDepth c ≤ q.frames.length)
  let fr := (if full then q.frames.drop 1 else q.frames) ++ [f]
  let t := s.setCircuit c { q with frames := fr }
  let t := if full then t.slip c 0xC0 1 else t
  if s.circTarget c ≤ fr.length then
    let q := t.circuit c
    let t := t.setCircuit c { q with playing := true, rxNext := (fr.head?.map (fun x => x.seq)).getD 0, missed := 0,
                                     start := t.baseOn (t.circBase c), instants := 0 }
    t.play c
  else t

/-- An arrival while the spillway plays (06 R240 step 2). -/
def arrivePlaying (s : State) (c : Nat) (f : SpFrame) : State :=
  let q := s.circuit c
  if 32768 ≤ (f.seq + 65536 - q.rxNext) % 65536 then s.bump (Reg.framer (s.circPair c) + 0xB8)
  else if s.circDepth c ≤ q.frames.length then
    let old := (q.frames.head?.map (fun x => x.seq)).getD 0
    (s.setCircuit c { q with frames := q.frames.drop 1 ++ [f], rxNext := (old + 1) % 65536 }).slip c 0xC0 1
  else s.setCircuit c { q with frames := q.frames ++ [f] }

/-- A CIRCUIT frame that passed its ICV check reaches its spillway (06 R240). -/
def spillway (s : State) (pair c seq : Nat) (data : Bytes) : State :=
  if s.circRefuses c pair data.length then s.bump (Reg.framer pair + 0xB0)
  else if (s.circuit c).playing then s.arrivePlaying c { seq := seq, bytes := data }
  else s.arriveIdle c { seq := seq, bytes := data }

/-- What a jump of its base to `v` does to a playing circuit: the instants passed over are not carried
out, and each is counted as R241 counts one (14 R523). -/
def circuitJump (s : State) (c v : Nat) : State :=
  let q := s.circuit c
  let n := passedBefore q.start (s.circPeriod c) q.instants v
  let t := s.setCircuit c { q with instants := q.instants + n }
  match q.frames with
  | [] => t.slip c 0xC8 n
  | h :: _ => if h.seq = q.rxNext then t else t.add (Reg.framer (s.circPair c) + 0xD0) n

/-- Everything that reads a base carried over its jump (14 R523). -/
def jump (s : State) (b v0 v1 : Nat) : State :=
  let t := (List.range 34).foldl (fun t n =>
    if t.framerUsed n && decide (t.pmBase n = b) then t.secondJump n v0 v1 else t) s
  if v0 < v1 then
    let t := t.pulsesJump b v1
    ((t.circuits.filter (fun e => e.2.playing && decide (t.circBase e.1 = b))).map Prod.fst).foldl
      (fun t c => t.circuitJump c v1) t
  else t

end State

end Sys2Proof.Machine
end

