-- ==== Sys2Proof/Machine/Timing.lean ====
section
/-! DEFINITION. The time subsystem's commands: applies, snapshots, pulse outputs, capture inputs and the
calibration of line lanes (14 R517–R537). -/

namespace Sys2Proof.Machine
open Sys2Proof.Bits

namespace State

/-- A base's window. -/
def baseReg (b : Nat) : Nat := Reg.timBase + 0x20 * b

/-- A base's shadow offset and rate. -/
def shadowOffset (s : State) (b : Nat) : Nat := leAt (s.regBytes (baseReg b) 3) 0 10
/-- See `shadowOffset`. -/
def shadowRate (s : State) (b : Nat) : Nat := leAt (s.regBytes (baseReg b + 0xC) 2) 0 6

/-- RESULT of TIM_BASE_CTRL. -/
def setResult (s : State) (b r : Nat) : State := s.setField (baseReg b + 0x14) 8 8 r

/-- An apply of a kind to a base (14 R518, R523, R536). -/
def applyBase (s : State) (b kind : Nat) : State :=
  if kind = 0 then s
  else if 5 ≤ kind then s.setResult b 0x52
  else
    let c0 := s.count
    match (s.base b).apply kind c0 (s.shadowOffset b) (s.shadowRate b) with
    | none => s.setResult b 0x61
    | some t =>
      let v0 := s.baseOn b
      let u := (s.setBase b t).setResult b 0
      let u := u.setRegs [(baseReg b + 0x18, BitVec.ofNat 32 c0), (baseReg b + 0x1C, BitVec.ofNat 32 (c0 / 2 ^ 32))]
      let u := u.timCause 0 0
      if kind = 3 then u else u.jump b v0 (t.at_ c0)

/-- An apply commanded through TIM_BASE_CTRL. -/
def baseCtrl (s : State) (b kind : Nat) : State :=
  s.wr .pf0 (baseReg b + 0x14) (fun s => s.applyBase b kind)

/-- Three words of a 96-bit value. -/
def words96 (v : Nat) : List Word := [BitVec.ofNat 32 v, BitVec.ofNat 32 (v / 2 ^ 32), BitVec.ofNat 32 (v / 2 ^ 64)]

/-- A capture input replaced. -/
def setCap (s : State) (j : Nat) (c : Capture) : State :=
  { s with tim := { s.tim with caps := Tab.put (fun _ => { queue := [], lastAt := none }) s.tim.caps j c } }

/-- A lane's calibration replaced. -/
def setCal (s : State) (n : Nat) (c : LaneCal) : State :=
  { s with tim := { s.tim with cal := Tab.ins s.tim.cal n c } }

end State

/-- SET (14 R518). -/
def execTimSet (b : Fin 8) (s : State) : Out := .next (s.baseCtrl b.val 1)

/-- STEP (14 R518). -/
def execTimStep (b : Fin 8) (s : State) : Out := .next (s.baseCtrl b.val 2)

/-- RATE (14 R518). -/
def execTimRate (b : Fin 8) (s : State) : Out := .next (s.baseCtrl b.val 3)

/-- STEP_RATE (14 R518). -/
def execTimStepRate (b : Fin 8) (s : State) : Out := .next (s.baseCtrl b.val 4)

/-- A write of TIM_SNAP: counter and base in one cycle. -/
def State.snap (s : State) (v : Word) : State :=
  let t := s.storeReg Reg.timSnap v
  t.setWords (Reg.timSnap + 4) (State.words96 t.count ++ State.words96 (t.baseNow (t.regField Reg.timSnap 0 3)))

/-- TIM_SNAP (14 R536). -/
def execTimSnap (v : Word) (s : State) : Out := .next (s.wr .pf0 Reg.timSnap (fun s => s.snap v))

/-- A POP of the timestamp queue. -/
def State.tsqPop (s : State) : State :=
  let r := (s.tim.tsq.head?).getD (zeros 32)
  let q := s.tim.tsq.drop 1
  let t := s.setWords Reg.timTsqData (Blob.toWords 8 r)
  { t with tim := { t.tim with tsq := q, tsqArmed := t.tim.tsqArmed || decide (2 * q.length < t.tsqLimit) } }

/-- TIM_TSQ_POP (14 R536, R530). -/
def execTimTsqPop (s : State) : Out := .next (s.wr .pf0 Reg.timTsqPop State.tsqPop)

/-- A POP of a capture input: with no entry queued nothing moves. -/
def State.capPop (s : State) (j : Nat) : State :=
  let c := s.cap j
  match c.queue with
  | [] => s
  | e :: q =>
    (s.setCap j { c with queue := q }).setWords (Reg.timCap + 0x40 * j + 0xC) (State.words96 e.time ++ [BitVec.ofNat 32 (b2n e.rising)])

/-- TIM_CAP_POP (14 R536). -/
def execTimCapPop (j : Fin 2) (s : State) : Out :=
  .next (s.wr .pf0 (Reg.timCap + 0x40 * j.val + 8) (fun s => s.capPop j.val))

/-- TIM_CLR_COUNTS (14 R536, R537). -/
def execTimClrCounts (s : State) : Out :=
  .next (s.wr .pf0 Reg.timControl (fun s => s.clearCounts Reg.timControl))

/-- A write of TIM_PULSE_CFG. -/
def State.pulseWrite (s : State) (k : Nat) (v : Word) : State :=
  let t := s.storeReg (State.pulseReg k) v
  if !s.pulseOn k && t.pulseOn k then t.pulseBegin k else t

/-- PULSE_ENABLE_WRITE (14 R531). -/
def execPulseEnableWrite (r : Req) (k : Fin 4) (v : Word) (s : State) : Out :=
  .next (s.wr r (State.pulseReg k.val) (fun s => s.pulseWrite k.val v))

/-- PULSE_EDGE (14 R523, R531): an active edge is placed once the base reaches its instant. -/
def execPulseEdge (k : Fin 4) (s : State) : Out :=
  let a := State.pulseReg k.val
  match s.pulseNext k.val with
  | some at_ =>
    if s.pulseOn k.val && s.due (s.regField a 24 3) at_ 0 0 then
      let t := s.setPulse k.val { next := (s.pulse k.val).next + 1, ends := some (at_ + s.pulseWidth k.val) }
      .next ((t.bump (Reg.timCtr + 0x10)).addReg (a + 0x20) 1)
    else .next s
  | none => .next s

/-- CAPTURE_EDGE (14 R532); `phase` is the part of a core cycle gone by, in units of 2^-16 ns. -/
def execCaptureEdge (j : Fin 2) (rising : Bool) (phase : Nat) (s : State) : Out :=
  let a := Reg.timCap + 0x40 * j.val
  let edge := s.regField a 0 2
  let edge := if edge = 0 then 1 else edge
  if s.regField a 31 1 = 1 ∧ edge.testBit (if rising then 0 else 1) then
    let c := s.cap j.val
    let at_ := s.count + phase
    let soon : Bool := match c.lastAt with
      | some l => decide (at_ ≤ l + 50 * 65536)
      | none => false
    if soon ∨ 8 ≤ c.queue.length then .next ((s.bump (Reg.timCtr + 0x28)).timCause 3 1)
    else
      let e : CapEntry := { time := (s.baseSeen (s.regField a 24 3)).at_ at_, rising := rising }
      .next (((s.setCap j.val { queue := c.queue ++ [e], lastAt := some at_ }).bump (Reg.timCtr + 0x20)).timCause 2 0)
  else .next s

/-- LANE_CAL_MEASURE_DONE (14 R527, R528): a lane in LOCK ends its measurement. -/
def execLaneCalMeasureDone (l : Fin 32) (tx rx : Nat) (inRange : Bool) (s : State) : Out :=
  if (s.lane (l.val + 32)).stage ≠ .lock then .next s
  else
    let c := s.laneCal l.val
    let t := s.bump (Reg.timCtr + 0x30)
    if inRange then .next (t.setCal l.val { c with txMeas := tx % 2 ^ 32, rxMeas := rx % 2 ^ 32, valid := true })
    else
      let t := t.setCal l.val { txMeas := (Config.nominalTx l.val).toNat, rxMeas := (Config.nominalRx l.val).toNat,
                                txTemp := 0, rxTemp := 0, valid := false }
      .next ((t.bump (Reg.timCtr + 0x38)).timCause 5 1)

/-- LANE_CAL_TEMP_UPDATE (14 R527): the temperature term of an ACTIVE, calibrated lane. -/
def execLaneCalTempUpdate (l : Fin 32) (tx rx : Nat) (s : State) : Out :=
  let c := s.laneCal l.val
  if (s.lane (l.val + 32)).stage = .active ∧ c.valid then
    .next (s.setCal l.val { c with txTemp := tx % 2 ^ 32, rxTemp := rx % 2 ^ 32 })
  else .next s

end Sys2Proof.Machine
end

