-- ==== Sys2Proof/Machine/Lanes.lean ====
section
/-! DEFINITION. Serial lanes: waking, training, locks, the figure of merit, removal, the trunk line coding of one lane,
test patterns, the capability exchange, and the rows of a trunk port in both directions (04; 06 R203–R206). -/

namespace Sys2Proof.Machine
open Sys2Proof.Bits

/-! ### Trunk line coding (04 R155–R163) -/

namespace Pam4

/-- The level of a bit pair: 00, 01, 11, 10 are levels 0, 1, 2, 3 (R155). -/
def level (b : Nat) : Nat := if b = 2 then 3 else if b = 3 then 2 else b

/-- A word as 32 levels, bit pair [63:62] first; the mapping is its own inverse. -/
def ofWord (w : BitVec 64) : List Nat :=
  (List.range 32).map (fun i => level (field w.toNat (62 - 2 * i) 2))

/-- 32 levels as a word. -/
def toWord (l : List Nat) : BitVec 64 := BitVec.ofNat 64 (l.foldl (fun a x => a * 4 + level x) 0)

/-- Words of 32 levels each; a last part word is dropped. -/
def toWords : Nat → List Nat → List (BitVec 64)
  | 0, _ => []
  | n + 1, l => toWord (l.take 32) :: toWords n (l.drop 32)

/-- Stuffing inserted (R160): the symbols sent, the level and count they end with, and how many
stuffing symbols were sent. -/
def stuff : List Nat → Nat → Nat → List Nat × Nat × Nat × Nat
  | [], lv, run => ([], lv, run, 0)
  | x :: r, lv, run =>
    let run := if x = lv then run + 1 else 1
    if run = 48 then
      let (out, l, n, k) := stuff r (3 - x) 1
      (x :: (3 - x) :: out, l, n, k + 1)
    else
      let (out, l, n, k) := stuff r x run
      (x :: out, l, n, k)

/-- Stuffing removed (R160): the symbols left, the level and count they end with, and how many deleted
symbols were not the complement. `del` says that the next symbol is to be deleted. -/
def destuff : List Nat → Nat → Nat → Bool → List Nat × Nat × Nat × Nat
  | [], lv, run, _ => ([], lv, run, 0)
  | x :: r, lv, _, true =>
    let (out, l, n, k) := destuff r x 1 false
    (out, l, n, k + (if x = 3 - lv then 0 else 1))
  | x :: r, lv, run, false =>
    let run := if x = lv then run + 1 else 1
    let (out, l, n, k) := destuff r x run (decide (run = 48))
    (x :: out, l, n, k)

/-- The additive scrambler over words, from its seed (R159). -/
def scrambleBits : List Bool → Nat → List Bool
  | [], _ => []
  | d :: r, st =>
    (d ^^ st.testBit 30) :: scrambleBits r (st * 2 % 2 ^ 31 + b2n (st.testBit 30 ^^ st.testBit 2))

/-- The level on the other leg of a pair (R148). -/
def swap (on : Bool) (x : Nat) : Nat := if on then 3 - x else x

/-- The first valid marker at any symbol offset, and the symbols behind it (R162). -/
def hunt (valid : BitVec 64 → Bool) : List Nat → Option (BitVec 64 × List Nat)
  | [] => none
  | x :: r =>
    let l := (x :: r).take 32
    if l.length < 32 then none
    else if valid (toWord l) then some (toWord l, (x :: r).drop 32)
    else hunt valid r

/-- Words scrambled or descrambled behind a marker of a LANE. -/
def scramble (lane : Nat) (ws : List (BitVec 64)) : List (BitVec 64) :=
  let bits := scrambleBits (ws.flatMap (fun w => natBits 64 w.toNat)) (0x7FFFFF00 + lane)
  (List.range ws.length).map (fun i => BitVec.ofNat 64 (ofBits ((bits.drop (64 * i)).take 64)))

/-! Test patterns (04 R139, R174; IEEE 802.3, 120.5.11.2) -/

/-- One bit of PRBS13 (x^13 + x^12 + x^2 + x + 1) or PRBS31 (x^31 + x^28 + 1), and the register behind it. -/
def prbsBit (long : Bool) (st : Nat) : Bool × Nat :=
  let b := if long then st.testBit 30 ^^ st.testBit 27 else st.testBit 12 ^^ (st.testBit 11 ^^ (st.testBit 1 ^^ st.testBit 0))
  (b, (st * 2 + b2n b) % 2 ^ (if long then 31 else 13))

/-- One symbol of PRBS13Q or PRBS31Q: two bits, Gray coded. -/
def prbsSymbol (long : Bool) (st : Nat) : Nat × Nat :=
  let (a, st) := prbsBit long st
  let (b, st) := prbsBit long st
  (level (2 * b2n a + b2n b), st)

/-- Symbols of a test pattern, and the generator behind them: a shift register, or the place in SSPRQ. -/
def patternOut (pattern : Nat) : Nat → Nat → List Nat × Nat
  | 0, st => ([], st)
  | n + 1, st =>
    let (x, st) := if pattern = 3 then ((Config.ssprq st).toNat, (st + 1) % 65535) else prbsSymbol (decide (pattern = 2)) st
    let (r, st) := patternOut pattern n st
    (x :: r, st)

/-- Received symbols that differ from the pattern's, and the checker behind them. -/
def patternErrors (long : Bool) : List Nat → Nat → Nat × Nat
  | [], st => (0, st)
  | x :: r, st =>
    let (y, st) := prbsSymbol long st
    let (k, st) := patternErrors long r st
    (k + b2n (decide (x ≠ y)), st)

/-- A checker that fills its register from the first symbols it receives. -/
def patternSeed (long : Bool) (l : List Nat) : Nat :=
  (l.take 16).foldl (fun a x => a * 4 + level x) 0 % 2 ^ (if long then 31 else 13)

end Pam4

namespace Marker

/-- A marker (R157). -/
def make (lane seq fill cap : Nat) : BitVec 64 :=
  let v := pack [(0xC35A96, 40, 24), (lane, 34, 6), (seq, 24, 8), (fill, 20, 4), (cap, 8, 8)]
  BitVec.ofNat 64 (v + crc8 ((natBits 64 v).take 56))

/-- SYNC and CHECK are correct, LANE and FILL_COUNT in range (R157). -/
def valid (m : BitVec 64) : Bool :=
  let v := m.toNat
  decide (field v 40 24 = 0xC35A96 ∧ field v 34 6 ≤ 33 ∧ field v 20 4 ≤ 8 ∧ crc8 ((natBits 64 v).take 56) = field v 0 8)

/-- LANE. -/
def lane (m : BitVec 64) : Nat := field m.toNat 34 6
/-- SEQ. -/
def seq (m : BitVec 64) : Nat := field m.toNat 24 8
/-- FILL_COUNT. -/
def fill (m : BitVec 64) : Nat := field m.toNat 20 4
/-- CAP. -/
def cap (m : BitVec 64) : Byte := BitVec.ofNat 8 (field m.toNat 8 8)

end Marker

namespace State

/-! ### Waking (04 R153) -/

/-- Bring-up has reached LANE_BRINGUP and is not halted. -/
def lanesRunning (s : State) : Bool := decide (6 ≤ s.boot.state.code) && !s.boot.halted

/-- Whether a wake request may reach a lane in DOZE (04 R147, R153, R154; 03 R124). A retired lane wakes only for a
PATTERN or NEAR_LOOP written, and not 0, while it is retired (DESIGN CHOICE, log entry 106). -/
def wakeable (s : State) (l : Nat) : Bool :=
  let n := s.lane l
  let held := match (if 64 ≤ l then none else s.pairOf (laneIdx l)) with
    | some k => (s.pair k).stopped || (s.pair k).retired || (s.port (decide (32 ≤ l)) k).retired
    | none => false
  decide (n.stage = .doze) && n.present && s.lanesRunning && decide (64 ≤ l ∨ laneIdx l < lanesKept s.shedLevel) &&
    (if n.retired then n.wakeAsked else !held)

/-- PATTERN and NEAR_LOOP of a lane. -/
def pattern (s : State) (l : Nat) : Nat := s.regField (Reg.lane l + 0x10) 0 3
/-- See `pattern`. -/
def nearLoop (s : State) (l : Nat) : Bool := decide (s.regField (Reg.lane l + 0x10) 4 1 = 1)

/-- Whether a lane runs the start-up protocol: FLAGS.TRAINING is ignored on trunk and PAIR lanes (04 R148). -/
def trains (s : State) (l : Nat) : Bool := (s.lane l).training && !s.laneTrunk l

/-- A figure of merit taken, with the lowest since the last read. -/
def takeFom (s : State) (l v : Nat) : State :=
  let n := s.lane l
  s.setLane l { n with fom := v, fomMin := min n.fomMin v }

/-- The receiver's settings adapted: all of them in TRAIN, the feed-forward and decision-feedback taps and the gain
otherwise (04 R150). Where an adaptation moves a setting is free. -/
def adapt (s : State) (l : Nat) (all : Bool) : State :=
  let (k, t) := s.fresh
  let n := t.lane l
  let r := n.settings
  t.setLane l { n with settings := {
    ctle := if all then Config.adapt k 0 r.ctle else r.ctle
    ffe := Config.adapt k 1 r.ffe
    dfe := Config.adapt k 2 r.dfe
    gain := Config.adapt k 3 r.gain
    phase := if all then Config.adapt k 4 r.phase else r.phase } }

/-- The change of its transmitter that a lane requests of the far end in TRAIN, which is free (04 R144). -/
def askFarEnd (s : State) (l : Nat) (done : Bool) : State :=
  if s.trains l then
    let (k, t) := s.fresh
    let n := t.lane l
    t.setLane l { n with ask := Config.coeffAsk k, trained := n.trained || done }
  else s

/-- Errors the checker of an Ethernet lane's test pattern finds (04 R174). -/
def prbsErrors (s : State) (l k : Nat) : State :=
  if s.laneTrunk l = false ∧ (s.pattern l = 1 ∨ s.pattern l = 2) then s.addReg (Reg.lane l + 0x20) k else s

/-! ### Capability exchange (04 R166–R168) -/

/-- WIDTH, PROFILE and the expected DEVICE of a trunk lane; a PAIR lane has no port policy (log
entry 26). -/
def capOwn (s : State) (l : Nat) : Nat × Nat × Option Nat :=
  if 64 ≤ l then (1, Config.pairProfile.toNat, none)
  else match s.pairOf (l - 32) with
    | none => (1, 0, none)
    | some p =>
      let e := s.pair p
      (e.width, e.profile, if e.expectPeer then some e.peerDevice else none)

/-- The capability word a lane sends (04 R166). -/
def capWord (s : State) (l : Nat) : Nat :=
  let (w, pr, _) := s.capOwn l
  let port := if 64 ≤ l then 0xF0 + (l - 64) else (s.pairOf (l - 32)).getD (l - 32)
  pack [(1, 56, 8), (s.devNumber.getD 0, 40, 16), (port, 32, 8), (w, 28, 4), (b2n (s.lane l).wordLock, 27, 1), (pr, 8, 16)]

/-- A word disagrees with the lane's own WIDTH, PROFILE or expected DEVICE (04 R168), or bears this
module's own device number without NEAR_LOOP (06 R248). -/
def capDiffers (s : State) (l v : Nat) : Bool :=
  let (w, pr, dev) := s.capOwn l
  decide (field v 28 4 ≠ w ∨ field v 8 16 ≠ pr) ||
    (match dev with
     | some d => decide (field v 40 16 ≠ d)
     | none => false) ||
    (decide (s.devNumber = some (field v 40 16)) && !s.nearLoop l)

/-! ### Rows of a trunk port, received (06 R203–R205) -/

/-- The first block of a lane in the deskew buffer. -/
def deskewHead (s : State) (l : Nat) : Option DeskewBlock := (Tab.get (fun _ => []) s.deskew l).head?

/-- The first `n` words of every lane in turn: word k of the stream from lane k mod w. -/
def weave : Nat → List (List (BitVec 64)) → List (BitVec 64)
  | 0, _ => []
  | n + 1, ls => ls.filterMap List.head? ++ weave n (ls.map (fun l => l.drop 1))

/-- The bytes of one row of blocks. -/
def rowBytes (ws : List (List (BitVec 64))) : Bytes := (weave Ndoath.blockWords ws).flatMap (fun x => beBytes 8 x.toNat)

/-- The time 1,024 payload words of a lane take, the depth of the deskew buffer. -/
def deskewDepth : Nat := Rate.trunk 1 8192

/-- The lanes' blocks lie too far apart: a lane has not sent the block that another sent more than the buffer's depth
before, or sent it that much later (06 R205). -/
def skewedRows (s : State) (ls : List Nat) : Bool :=
  let hs := ls.filterMap s.deskewHead
  let far := fun (a b : Nat) => decide (deskewDepth < (b - a) * Rate.cycle)
  (decide (hs.length < ls.length) && hs.any (fun h => far h.cycle s.now)) ||
    hs.any (fun h => hs.any (fun g => decide (g.seq = h.seq) && far h.cycle g.cycle))

/-- The rows of a port do not align: its deskew buffer starts anew, and DESKEW_FAIL is raised once (06 R205, R251). -/
def deskewLost (s : State) (f : Nat) : State :=
  let fr := s.framer f
  let ls := s.framerLanes f
  let t := ({ s with deskew := s.deskew.filter (fun e => !ls.contains e.1) }).setFramer f { fr with aligned := false, skewed := true }
  let t := if fr.skewed then t else t.framerCause f 3 2
  (t.framerPort f true).settle

/-- The first blocks of some lanes dropped from the deskew buffer unless kept. -/
def deskewDrop (s : State) (ls : List Nat) (keep : DeskewBlock → Bool) : State :=
  let cut := fun (l : List DeskewBlock) => match l with
    | b :: r => if keep b then b :: r else r
    | [] => []
  { s with deskew := s.deskew.map (fun e => if ls.contains e.1 then (e.1, cut e.2) else e) }

/-- Whole blocks of one SEQ on every lane are taken as a row of the stream; a block whose SEQ another lane has passed is
dropped. -/
def deskewRows (s : State) (f : Nat) : State :=
  let ls := s.framerLanes f
  let hs := ls.filterMap s.deskewHead
  if s.skewedRows ls then s.deskewLost f
  else if hs.length < ls.length ∨ hs.any (fun h => decide (h.left ≠ 0)) then s
  else
    let q := (hs.headD { seq := 0, cycle := 0, left := 0, words := [] }).seq
    if hs.all (fun h => decide (h.seq = q)) then
      let t := s.deskewDrop ls (fun _ => false)
      let fr : Framer := t.framer f
      if fr.sync = .stopped then t
      else (t.setFramer f { fr with aligned := true, skewed := false, rx := fr.rx ++ rowBytes (hs.map (fun h => h.words)) }).framerPort f true
    else
      -- the newest SEQ stays, the lanes behind it drop theirs
      let newest := hs.foldl (fun a h => if (h.seq + 256 - a) % 256 < 128 then h.seq else a) q
      s.deskewDrop ls (fun b => decide (b.seq = newest))

/-- Payload words of one SEQ join the last block of a lane's part of the deskew buffer, or begin one; a block that stayed
short is lost. -/
def deskewPart (now : Nat) (l : List DeskewBlock) (q : Nat) (ws : List (BitVec 64)) : List DeskewBlock :=
  let new : DeskewBlock := { seq := q, cycle := now, left := Ndoath.blockWords - ws.length, words := ws }
  match l.getLast? with
  | none => [new]
  | some b =>
    if b.left = 0 then l ++ [new]
    else if b.seq = q then l.dropLast ++ [{ b with left := b.left - ws.length, words := b.words ++ ws }]
    else l.dropLast ++ [new]

/-- The words a lane passes on reach its framer, each marked as fill or payload; no marker does (04 R165). The framer's
deskew buffer takes the payload words. -/
def passWords (s : State) (l : Nat) (ws : List LineWord) : State :=
  match s.framerOf l with
  | none => s
  | some f =>
    if (s.framer f).sync = .stopped then s
    else
      let pay := ws.filter (fun w => !w.fill)
      let part := fun (b : List DeskewBlock) (q : Nat) =>
        deskewPart s.now b q ((pay.filter (fun w => decide (w.seq = q))).map (fun w => w.word))
      let b := ((pay.map (fun w => w.seq)).eraseDups).foldl part (Tab.get (fun _ => []) s.deskew l)
      ({ s with deskew := Tab.ins s.deskew l b }).deskewRows f

/-! ### A lane's receiver (04 R160–R164, R167) -/

/-- The capability bytes gathered after a valid marker (04 R167). -/
def gather (old : Bytes) (seq : Nat) (c : Byte) : Bytes :=
  let k := seq % 8
  if k = 0 then [c] else if k = old.length then old ++ [c] else []

/-- Symbols received, stuffing removed and violations counted (04 R160). -/
def rxFeed (s : State) (l : Nat) (syms : List Nat) : State :=
  let n := s.lane l
  let (out, lv, run, bad) := Pam4.destuff syms n.rx.level n.rx.run (decide (n.rx.run = 48))
  let r := { n.rx with level := lv, run := run, debt := n.rx.debt + (syms.length - out.length)
                       symbols := n.rx.symbols ++ out.map (fun x => BitVec.ofNat 2 x) }
  (s.addReg (Reg.lane l + 0x24) bad).setLane l { n with rx := r }

/-- The fill words behind a marker that the elastic buffer takes out (negative) or adds at an occupancy of `occ` words (04
R163). -/
def fillAdjust (f occ : Nat) : Int := if 16 < occ then -((min (occ - 16) f : Nat) : Int) else (min (16 - occ) 8 : Nat)

/-- The adjustment decided and counted. -/
def countAdjust (s : State) (l : Nat) (a : Int) : State :=
  if a < 0 then s.addReg (Reg.lane l + 0x30) a.natAbs else if 0 < a then s.addReg (Reg.lane l + 0x2C) a.natAbs else s

/-- A marker taken at an expected position, or where a hunt found one (04 R157, R162, R167). A marker that is not valid
counts as one of 8 fill words, of the same lane and the next SEQ. -/
def afterMarker (n : Lane) (m : BitVec 64) : LaneRx :=
  let ok := Marker.valid m
  let f := if ok then Marker.fill m else 8
  { n.rx with
    expect := some (Ndoath.blockWords + f)
    fill := f
    debt := n.rx.debt - 32 * (8 - f)
    lane := if ok then Marker.lane m else n.rx.lane
    seq := if ok then Marker.seq m else (n.rx.seq + 1) % 256
    good := if ok then n.rx.good + 1 else n.rx.good
    bad := if ok then 0 else n.rx.bad + 1
    adjust := 0
    capBytes := if ok then gather n.rx.capBytes (Marker.seq m) (Marker.cap m) else [] }

/-- Marker lock is lost: a lane in ACTIVE goes back to LOCK (04 R142, R162, R164). -/
def markerLost (s : State) (l : Nat) : State :=
  let n := s.lane l
  let t := s.setLane l { n with wordLock := false, rx := unlock n.rx }
  if n.stage = .active then t.laneDown l .lock else t

/-- The lane after a marker: lock after two valid ones, and its loss after four that are not; one that is not valid
before there is lock sends it hunting again (04 R162). With lock the elastic buffer adjusts the fill words that follow
(R163). -/
def markerTake (s : State) (l : Nat) (m : BitVec 64) (expected : Bool) (occ : Nat) : State :=
  let n := s.lane l
  let r := afterMarker n m
  let t := if Marker.valid m ∨ expected = false then s else s.addReg (Reg.lane l + 0x28) 1
  if Marker.valid m = false ∧ (n.wordLock = false ∨ 4 ≤ r.bad) then t.markerLost l
  else
    let lock := n.wordLock || decide (2 ≤ r.good)
    let a := if lock then fillAdjust r.fill occ else 0
    let t := (t.setLane l { n with rx := { r with adjust := a }, wordLock := lock, bitLock := true }).countAdjust l a
    if n.stage = .lock ∧ lock then
      let t := t.moveLane l .exchange true
      t.setLane l { t.lane l with bitLock := true, wordLock := true }
    else t

/-- The words of a block behind the descrambler, its fill words as the elastic buffer leaves them (04 R159, R163). -/
def blockOut (r : LaneRx) (ws : List (BitVec 64)) : List LineWord :=
  let d := Pam4.scramble r.lane ws
  let keep := (r.fill : Int) + r.adjust
  let fills := (d.take (min r.fill keep.toNat)) ++ List.replicate (keep.toNat - r.fill) 0
  fills.map (fun w => { seq := r.seq, fill := true, word := w }) ++
    (d.drop r.fill).map (fun w => { seq := r.seq, fill := false, word := w })

/-- A block joins the elastic buffer, which keeps its `occ` newest words and passes the others on (04 R163, R165). -/
def elasticPass (s : State) (l : Nat) (ws : List (BitVec 64)) (occ : Nat) : State :=
  let n := s.lane l
  if n.wordLock then
    let b := n.rx.elastic ++ blockOut n.rx ws
    let k := b.length - occ
    (s.setLane l { n with rx := { n.rx with elastic := b.drop k } }).passWords l (b.take k)
  else s

/-- The receiver moves on by one marker where the symbols for it have come: it hunts for one at any symbol offset, or
takes the block in progress and the marker behind it (04 R162). -/
def rxTake (s : State) (l occ : Nat) : State :=
  let n := s.lane l
  let syms := n.rx.symbols.map (fun x => x.toNat)
  let left := fun (t : State) (r : List Nat) =>
    let m := t.lane l
    t.setLane l { m with rx := { m.rx with symbols := r.map (fun x => BitVec.ofNat 2 x) } }
  match n.rx.expect with
  | none =>
    match Pam4.hunt Marker.valid syms with
    | none => left s (syms.drop (syms.length - 31))
    | some (m, r) => (left s r).markerTake l m false occ
  | some k =>
    if syms.length < 32 * (k + 1) then s
    else
      let ws := Pam4.toWords (k + 1) syms
      let t := (left s (syms.drop (32 * (k + 1)))).elasticPass l (ws.take k) occ
      t.markerTake l (ws.getD k 0) true occ

/-- Symbols of a test pattern checked: the checker fills its register from its first symbols and then runs free (04
R174). -/
def patternCheck (s : State) (l : Nat) (syms : List Nat) : State :=
  let n := s.lane l
  let long := decide (s.pattern l = 2)
  match n.rx.checker with
  | none =>
    if syms.length < 16 then s
    else
      let (k, st) := Pam4.patternErrors long (syms.drop 16) (Pam4.patternSeed long syms)
      (s.addReg (Reg.lane l + 0x20) k).setLane l { n with rx := { n.rx with checker := some st } }
  | some st =>
    let (k, st) := Pam4.patternErrors long syms st
    (s.addReg (Reg.lane l + 0x20) k).setLane l { n with rx := { n.rx with checker := some st } }

/-- A lane whose receiver runs in trunk coding. -/
def coded (s : State) (l : Nat) : Bool :=
  s.laneTrunk l && decide ((s.lane l).stage = .lock ∨ (s.lane l).stage = .exchange ∨ (s.lane l).stage = .active)

end State

/-! ### Stage moves as commands -/

/-- LANE_WAKE (04 R141, R153, R169; 02 R77): a PLL that does not lock, or a failed self-check, removes
the lane; without its reference the lane is held at DETECT. -/
def execLaneWake (l : Fin 66) (pllOk : Bool) (s : State) : Out :=
  if s.wakeable l.val then
    if s.sideRef l.val then
      if pllOk then .next (s.moveLane l.val .detect true) else .next (s.removeLane l.val true)
    else
      let t := s.moveLane l.val .detect true
      .next (t.setLane l.val { t.lane l.val with held := true })
  else .next s

/-- LANE_SIGNAL_DETECT (04 R141, R173): in DOZE, or held at DETECT, the detector only shows the signal. -/
def execLaneSignalDetect (l : Fin 66) (s : State) : Out :=
  let n := s.lane l.val
  if n.stage = .detect ∧ n.held = false then
    .next ((s.setLane l.val { n with signal := true }).moveLane l.val .train true)
  else if n.stage = .doze ∨ n.stage = .detect then .next (s.setLane l.val { n with signal := true })
  else .next s

/-- FOM_WINDOW (04 R141, R144, R149, R150, R174): a window of 2^20 symbols ends in TRAIN with the openings of the three
eyes and the full decision range; `done` says that the start-up protocol has finished, `prbs` what the checker of a test
pattern found. -/
def execFomWindow (l : Fin 66) (eye : Eye) (done : Bool) (s : State) (prbs : Nat := 0) : Out :=
  if (s.lane l.val).stage = .train then
    let t := (((s.prbsErrors l.val prbs).adapt l.val true).askFarEnd l.val done).takeFom l.val eye.fom
    let n := t.lane l.val
    let g := if n.taps.fomEntry ≤ n.fom then n.goodWindows + 1 else 0
    let t := t.setLane l.val { n with goodWindows := g }
    if 16 ≤ g ∧ (t.trains l.val = false ∨ n.trained) then .next (t.moveLane l.val .lock true) else .next t
  else .next s

/-- COEFF_REQUEST_RX (04 R141, R144): training frames are sent in DETECT and TRAIN, and every request is answered as at
its limit; the lane's own taps stay. -/
def execCoeffRequestRx (l : Fin 66) (tap : Fin 5) (up : Bool) (s : State) : Out :=
  let n := s.lane l.val
  if s.trains l.val ∧ (n.stage = .detect ∨ n.stage = .train) then .next (s.setLane l.val { n with coeff := some (tap.val, up, .atLimit) })
  else .next s

/-- TRAIN_TIMEOUT (04 R141, R143). -/
def execTrainTimeout (l : Fin 66) (s : State) : Out :=
  if (s.lane l.val).stage = .train then
    .next (((s.addReg (Reg.lane l.val + 0x1C) 1).moveLane l.val .detect true).laneCause l.val 3 0)
  else .next s

/-- WORD_LOCK_ACQUIRED (04 R141): Ethernet passes EXCHANGE in the same cycle. -/
def execWordLockAcquired (l : Fin 66) (s : State) : Out :=
  if (s.lane l.val).stage = .lock then
    let up := fun (t : State) => t.setLane l.val { t.lane l.val with bitLock := true, wordLock := true }
    let t := up (s.setStage l.val .exchange)
    if s.laneTrunk l.val then .next ((t.laneFollow l.val true).settle) else .next (up t |>.laneUp l.val)
  else .next s

/-- LOCK_TIMEOUT (04 R141). -/
def execLockTimeout (l : Fin 66) (s : State) : Out :=
  if (s.lane l.val).stage = .lock then .next (s.moveLane l.val .train true) else .next s

/-- CAPABILITY_WORD_ASSEMBLED (04 R167, R168). -/
def execCapabilityWordAssembled (l : Fin 34) (s : State) : Out :=
  let i := l.val + 32
  let n := s.lane i
  if n.rx.capBytes.length ≠ 8 ∨ s.coded i = false then .next s
  else
    let w := beNat n.rx.capBytes
    let differs := s.capDiffers i w
    let ready := decide (field w 56 8 = 1 ∧ field w 27 1 = 1) && !differs && decide (n.rx.prevCap = some (BitVec.ofNat 64 w))
    let ex := decide (n.stage = .exchange)
    let t := s.setLane i { n with
      cap := BitVec.ofNat 64 w
      rx := { n.rx with prevCap := some (BitVec.ofNat 64 w), capBytes := [], mismatch := ex && differs } }
    if ex && ready then .next (t.laneUp i)
    else if ex && differs && !n.rx.mismatch then .next (t.laneCause i 5 2)
    else .next t

/-- EXCHANGE_TIMEOUT (04 R141, R168). -/
def execExchangeTimeout (l : Fin 34) (s : State) : Out :=
  let i := l.val + 32
  let n := s.lane i
  if n.stage = .exchange ∧ n.rx.mismatch = false then .next ((s.moveLane i .lock true).laneCause i 2 0) else .next s

/-- SIGNAL_LOSS (04 R142). -/
def execSignalLoss (l : Fin 66) (s : State) : Out :=
  let n := s.lane l.val
  let t := s.setLane l.val { n with signal := false }
  if n.stage = .active then .next (t.laneDown l.val .detect) else .next t

/-- BIT_LOCK_LOSS (04 R142, R173): without bit lock there is no word lock either. -/
def execBitLockLoss (l : Fin 66) (s : State) : Out :=
  let n := s.lane l.val
  if n.stage = .active then .next (s.laneDown l.val .detect)
  else .next (s.setLane l.val { n with bitLock := false, wordLock := false, rx := State.unlock n.rx })

/-- WORD_LOCK_LOSS (04 R142, R173). -/
def execWordLockLoss (l : Fin 66) (s : State) : Out :=
  let n := s.lane l.val
  if n.stage = .active then .next (s.laneDown l.val .lock)
  else .next (s.setLane l.val { n with wordLock := false, rx := State.unlock n.rx })

/-- FOM_UPDATE (04 R149–R151, R174): once per millisecond in ACTIVE. -/
def execFomUpdate (l : Fin 66) (eye : Eye) (s : State) (prbs : Nat := 0) : Out :=
  if (s.lane l.val).stage = .active then
    let t := ((s.prbsErrors l.val prbs).adapt l.val false).takeFom l.val eye.fom
    let n := t.lane l.val
    let low := if n.fom < n.taps.fomFloor then n.lowUpdates + 1 else 0
    let high := if n.taps.fomFloor + 8 ≤ n.fom then n.highUpdates + 1 else 0
    let armed := n.fomArmed || decide (1000 ≤ high)
    let raise := armed && decide (10 ≤ low)
    let t := t.setLane l.val { n with lowUpdates := low, highUpdates := high, fomArmed := armed && !raise }
    if raise then .next (t.laneCause l.val 4 1) else .next t
  else .next s

/-- PLL_LOCK_FAIL (04 R169): only while the side's reference runs. -/
def execPllLockFail (l : Fin 66) (s : State) : Out :=
  if (s.lane l.val).stage ≠ .doze ∧ s.sideRef l.val then .next (s.removeLane l.val true) else .next s

/-! ### A framer's stream, sent (06 R203, R204, R212, R223; 04 R155–R161, R166) -/

namespace State

/-- Bytes put into a framer's stream, scrambled (06 R223), with the frames of its output taken so far. -/
def streamPut (s : State) (n : Nat) (b : Bytes) (taken : Nat) : Bytes × State :=
  let f := s.framer n
  let r := Ndoath.inStream f.txHist b
  (r.1, s.setFramer n { f with txHist := r.2, txPos := f.txPos + b.length, txTaken := taken })

/-- A FILL frame of at most so many bytes put into the stream (06 R212). -/
def streamFill (s : State) (n most : Nat) : Bytes × State :=
  s.fresh.2.streamPut n (Ndoath.fillFrame (Ndoath.fillShape most (Config.fillShape s.fresh.1))) (s.framer n).txTaken

/-- The next frame of a framer's stream, as the stream carries it: the next output whose place has come, or FILL frames
for a gap of 24 bytes or more, or where there is no output (06 R212). The size of a FILL frame is free. -/
def streamNext (s : State) (n : Nat) : Bytes × State :=
  let f := s.framer n
  let sent := (s.portOut true n).sent
  match (sent.take (sent.length - f.txTaken)).getLast? with
  | none => s.streamFill n 9476
  | some o =>
    let place := Ndoath.streamAt (s.framerWidth n) o.start
    if f.txPos + 24 ≤ place then s.streamFill n (place - f.txPos) else s.streamPut n o.bytes (f.txTaken + 1)

/-- At least `need` bytes of a framer's stream; every frame has 24 or more. -/
def streamTake (n : Nat) : Nat → Nat → State → Bytes × State
  | 0, _, s => ([], s)
  | k + 1, need, s =>
    if need = 0 then ([], s)
    else
      let (b, t) := s.streamNext n
      let (r, u) := streamTake n k (need - b.length) t
      (b ++ r, u)

/-- Bytes as words, most significant byte first (06 R203). -/
def wordsOf : Nat → Bytes → List (BitVec 64)
  | 0, _ => []
  | n + 1, b => BitVec.ofNat 64 (beNat (b.take 8)) :: wordsOf n (b.drop 8)

/-- Every w-th element, from the i-th on. -/
def strand (w i : Nat) (ws : List (BitVec 64)) : List (BitVec 64) :=
  (ws.zipIdx.filter (fun e => decide (e.2 % w = i))).map Prod.fst

/-- A framer's stream begins, a row behind the place of this instant, with the frames sent from now on. -/
def streamStart (s : State) (n phase : Nat) : State :=
  let f := s.framer n
  let w := s.framerWidth n
  if f.txRow.isSome then s
  else
    let p := Ndoath.streamAt w (Rate.at_ s.now phase) - Ndoath.rowSize w
    let sent := (s.portOut true n).sent
    let old := (sent.filter (fun o => decide (Ndoath.streamAt w o.start < p))).length
    s.setFramer n { f with txRow := some p, txPos := p, txTaken := max f.txTaken old, txLeft := [] }

/-- One row of blocks cut from a framer's stream: every lane of it that sends takes its payload words under one SEQ (06
R203, R204). -/
def cutRow (s : State) (n phase : Nat) : State :=
  let s := s.streamStart n phase
  let f := s.framer n
  let w := max 1 (s.framerWidth n)
  let need := Ndoath.rowSize w - f.txLeft.length
  let (b, t) := streamTake n need need s
  let row := f.txLeft ++ b
  let ws := wordsOf (Ndoath.blockWords * w) row
  let t := t.setFramer n { t.framer n with txLeft := row.drop (Ndoath.rowSize w), txSeq := (f.txSeq + 1) % 256 }
  (t.framerLanes n).zipIdx.foldl (fun (u : State) e =>
    let m := u.lane e.1
    if u.laneSends e.1 then u.setLane e.1 { m with tx := { m.tx with queue := m.tx.queue ++ [(f.txSeq, strand w e.2 ws)] } } else u) t

/-- The symbols a lane puts on the line, looped to its own receiver with NEAR_LOOP; TX_INVERT swaps the legs (04 R148,
R173). -/
def lineSend (s : State) (l : Nat) (tx : LaneTx) (out : List Nat) : State :=
  let n := s.lane l
  let t := s.setLane l { n with tx := { tx with sent := out.map (fun x => BitVec.ofNat 2 (Pam4.swap n.txInvert x)) } }
  if s.nearLoop l ∧ s.coded l then (if s.pattern l = 1 ∨ s.pattern l = 2 then t.patternCheck l out else t.rxFeed l out) else t

/-- A block time of a test pattern (04 R174). -/
def sendPattern (s : State) (l : Nat) : State :=
  let k := s.fresh.1
  let t := s.fresh.2
  let n := t.lane l
  let p := t.pattern l
  let start := if n.tx.pattern ≠ 0 ∨ p = 3 then n.tx.pattern else 1 + Config.patternStart k % (2 ^ (if p = 2 then 31 else 13) - 1)
  let r := Pam4.patternOut p (32 * 16384) start
  t.lineSend l { n.tx with pattern := r.2 } r.1

/-- A block of a lane sent: marker, fill words and payload, which is all fill but in ACTIVE (04 R141, R155–R161). -/
def sendBlock (s : State) (l : Nat) (b : Nat × List (BitVec 64)) : State :=
  let n := s.lane l
  let short := min 8 (n.tx.debt / 32)
  let f := 8 - short
  let m := Marker.make (l - 32) b.1 f (field (s.capWord l) (56 - 8 * (b.1 % 8)) 8)
  let payload := if n.stage = .active then b.2 else List.replicate Ndoath.blockWords 0
  let body := Pam4.scramble (l - 32) (List.replicate f 0 ++ payload)
  let (out, lv, run, k) := Pam4.stuff ((m :: body).flatMap Pam4.ofWord) n.tx.level n.tx.run
  s.lineSend l { n.tx with queue := n.tx.queue.drop 1, debt := n.tx.debt - 32 * short + k, level := lv, run := run } out

end State

/-! ### Trunk line coding as commands -/

/-- MARKER_SEND (04 R155–R161, R166, R174; 06 R203, R204): one block of a lane, a row of its port being cut from the
framer's stream where the lane has none waiting, or a block time of the test pattern set; `phase` is the part of a core
cycle gone by, in 2^-16 ns. -/
def execMarkerSend (l : Fin 34) (phase : Nat) (s : State) : Out :=
  let i := l.val + 32
  match s.framerOf i with
  | none => .next s
  | some n =>
    if s.laneSends i = false then .next s
    else if s.pattern i ≠ 0 then .next (s.sendPattern i)
    else
      let t := if (s.lane i).tx.queue.isEmpty then s.cutRow n phase else s
      match (t.lane i).tx.queue.head? with
      | none => .next t
      | some b => .next (t.sendBlock i b)

/-- MARKER_RECEIVED (04 R148, R155, R159–R165, R167, R174): symbols arrive, with NEAR_LOOP the lane's own, and the
receiver takes one marker where the symbols up to it have come; `occupancy` is the elastic buffer's there. -/
def execMarkerReceived (l : Fin 34) (syms : List (BitVec 2)) (occupancy : Nat) (s : State) : Out :=
  let i := l.val + 32
  if s.coded i = false then .next s
  else
    let lv := if s.nearLoop i then [] else syms.map (fun x => Pam4.swap (s.lane i).rxInvert x.toNat)
    if s.pattern i = 1 ∨ s.pattern i = 2 then .next (s.patternCheck i lv)
    else .next ((s.rxFeed i lv).rxTake i (min 32 occupancy))

/-- ELASTIC_BUFFER_SLIP (04 R164): marker lock is lost and the block in progress with it. -/
def execElasticBufferSlip (l : Fin 34) (s : State) : Out :=
  let i := l.val + 32
  if s.coded i = false ∨ (s.lane i).wordLock = false then .next s else .next (s.markerLost i)

/-! ### Lane registers (04 R173–R176) -/

namespace State

/-- A lane's counters at 0. -/
def laneClear (s : State) (l : Nat) : State :=
  (List.range 7).foldl (fun t k => t.setReg (Reg.lane l + 0x18 + 4 * k) 0) s

/-- What a change of PATTERN or NEAR_LOOP brings about: generator and checker start anew, and a port whose lanes all loop
receives its own outputs from now on (R173). -/
def testSet (s : State) (l : Nat) : State :=
  let n := s.lane l
  let t := s.setLane l { n with tx := { n.tx with pattern := 0 }, rx := { n.rx with checker := none } }
  match (if 64 ≤ l then none else t.pairOf (laneIdx l)) with
  | none => t
  | some p => t.loopFrom (decide (32 ≤ l)) p

/-- A write of xSD_CONTROL: PATTERN and NEAR_LOOP under their STOP rule, and CLR_COUNTS. One that sets PATTERN or
NEAR_LOOP of a retired lane in DOZE asks it to wake (04 R153). -/
def laneWrite (s : State) (l : Nat) (v : Word) : State :=
  let a := Reg.lane l + 0x10
  let t := s.storeReg a v
  let t := if t.reg a = s.reg a then t else t.testSet l
  let n := t.lane l
  let t := if n.retired ∧ n.stage = .doze ∧ (t.pattern l ≠ 0 ∨ t.nearLoop l) then t.setLane l { n with wakeAsked := true } else t
  if v.getLsbD 8 then t.laneClear l else t

/-- A write of xSD_CONTROL by a requester. -/
def laneControl (s : State) (r : Req) (l : Nat) (v : Word) : State := s.wr r (Reg.lane l + 0x10) (fun s => s.laneWrite l v)

end State

/-- LANE_PATTERN_WRITE (04 R174; 17 R596). -/
def execLanePatternWrite (r : Req) (l : Fin 66) (v : Word) (s : State) : Out := .next (s.laneControl r l.val v)

/-- LANE_NEAR_LOOP_WRITE (04 R174; 17 R596). -/
def execLaneNearLoopWrite (r : Req) (l : Fin 66) (v : Word) (s : State) : Out := .next (s.laneControl r l.val v)

/-- LANE_CLR_COUNTS (04 R173, R175). -/
def execLaneClrCounts (l : Fin 66) (s : State) : Out :=
  .next (s.wr .pf0 (Reg.lane l.val + 0x10) (fun s => s.laneClear l.val))

/-- FOM_READ (04 R173): MIN is reloaded with FOM. -/
def execFomRead (r : Req) (l : Fin 66) (s : State) : Out := .next (s.rd r (Reg.lane l.val + 4))

/-- PEER_CAP_HI_READ (04 R176): the LO half is latched. -/
def execPeerCapHiRead (r : Req) (l : Fin 34) (s : State) : Out := .next (s.rd r (Reg.lane (l.val + 32) + 0x34))

end Sys2Proof.Machine
end

