-- ==== Sys2Proof/Machine/Trunk.lean ====
section
/-! DEFINITION. The trunk framer's commands: delineation, MONITOR frames, performance seconds,
circuits and their play-out (06 R205–R256). -/

namespace Sys2Proof.Machine
open Sys2Proof.Bits

namespace State

/-- DELTA and ALPHA in force (06 R229, R252). -/
def delta (s : State) (n : Nat) : Nat := s.forceField (Reg.framer n + 0x04) 0 3
/-- See `delta`. -/
def alpha (s : State) (n : Nat) : Nat := s.forceField (Reg.framer n + 0x04) 4 4

/-- A framer's stream without its first `k` bytes. -/
def skip (f : Framer) (k : Nat) : Framer := { f with rx := f.rx.drop k, rxPos := f.rxPos + k }

/-- The framer goes to HUNT and hunts from offset `at_` of its stream (06 R224, R227). -/
def toHunt (s : State) (n at_ : Nat) : State :=
  let t := if (s.framer n).sync = .sync then ((s.leaveSync n .hunt false).framerPort n true).settle
    else s.setFramer n { s.framer n with sync := .hunt, v := 0 }
  t.setFramer n { t.framer n with off := at_ }

/-- The framer enters SYNC (06 R224): the next header stands at `off`. -/
def toSync (s : State) (n off : Nat) : State :=
  let t := s.setFramer n { s.framer n with sync := .sync, v := 0, badRun := 0, byScan := false, headers := 0,
                                           farTotals := none, off := off }
  ((t.framerCause n 0 0).framerPort n true).settle

/-- What becomes of a frame passed in SYNC (06 R209, R215, R222): a drop counter, nothing, or the
frame kept for its taker. A CLEAR frame on a PAIR lane counts in DROP_TYPE (DESIGN CHOICE, log entry 107). -/
def byType (s : State) (n : Nat) (h : Bytes) : Option (Option Nat) :=
  let w := Reg.framer n
  let t := Ndoath.typ h
  let trunk := decide (n < 32)
  if t = 0 then none
  else if t = 1 then (if trunk then some none else some (some (w + 0x70)))
  else if t = 2 then (if trunk && decide (8 ≤ Ndoath.pad h) then some none else some (some (w + 0x70)))
  else if t = 3 then (if Ndoath.len h = 16 then some none else some (some (w + 0x70)))
  else if t = 4 then (if trunk then some (some (w + 0x70)) else some none)
  else if t = 5 ∧ trunk then (if (s.pair n).bypassPermit then some none else some (some (w + 0x78)))
  else some (some (w + 0x70))

/-- A header that passes in SYNC, with its frame whole in the stream (06 R225, R226, R234). `h` is the
header as used, `fixed` whether it was corrected. -/
def passHeader (s : State) (n : Nat) (h : Bytes) (fixed : Bool) : State :=
  let f := s.framer n
  let size := Ndoath.size h
  let body := Ndoath.descramble (slice f.rx (f.off - 6) 6) (slice f.rx (f.off + 6) (size - 6))
  let keep := s.byType n h
  let t := s.setFramer n { skip f (f.off + size - 6) with
    off := 6, byScan := false
    badRun := if f.byScan then f.badRun else 0
    headers := f.headers + 1
    passed := if keep = some none then f.passed ++ [(fixed, f.rxPos + f.off, h ++ body)] else f.passed }
  let t := t.bump (Reg.framer n + (if fixed then 0x48 else 0x40))
  let t := t.block n fixed
  match keep with
  | some (some c) => t.bump c
  | _ => t

/-- The first valid candidate after a failed header at `off`, in words of 4 bytes (06 R227). -/
def scanFrom (rx : Bytes) (off : Nat) : Option Nat :=
  (List.range 2369).find? (fun k =>
    decide (off + 4 * (k + 1) + 6 ≤ rx.length) && Ndoath.valid (slice rx (off + 4 * (k + 1)) 6))

/-- A header that fails in SYNC (06 R227); the check waits while the stream is too short for its scan. -/
def failHeader (s : State) (n : Nat) : State :=
  let f := s.framer n
  let w := Reg.framer n
  let count := fun (t : State) =>
    let u := ((t.bump (w + 0x50)).bump (w + 0x68)).block n true
    u.setFramer n { u.framer n with badRun := f.badRun + 1 }
  if s.alpha n ≤ f.badRun + 1 then (count s).toHunt n (f.off + 4)
  else
    match scanFrom f.rx f.off with
    | some k =>
      let t := count s
      let g := t.framer n
      t.setFramer n { skip g (f.off + 4 * (k + 1) - 6) with byScan := true, off := 6 }
    | none =>
      if f.off + 9482 ≤ f.rx.length then (count s).toHunt n (f.off + 9480) else s

/-- One header check (06 R224–R228). A check waits until the bytes it needs have arrived. -/
def headerCheck (s : State) (n : Nat) : State :=
  let f := s.framer n
  let h := slice f.rx f.off 6
  if f.rx.length < f.off + 6 then s
  else
    match f.sync with
    | .stopped => s
    | .hunt =>
      if Ndoath.valid h then
        s.setFramer n { skip f f.off with sync := .presync, v := 0, off := Ndoath.size h }
      else s.setFramer n { skip f (f.off + 4) with off := 0 }
    | .presync =>
      if Ndoath.valid h then
        if s.delta n ≤ f.v + 1 then s.toSync n (f.off + Ndoath.size h)
        else s.setFramer n { f with v := f.v + 1, off := f.off + Ndoath.size h }
      else s.toHunt n 4
    | .sync =>
      if Ndoath.valid h then
        if f.off + Ndoath.size h ≤ f.rx.length then s.passHeader n h false else s
      else
        match Ndoath.corrected h with
        | some g => if f.off + Ndoath.size g ≤ f.rx.length then s.passHeader n g true else s
        | none => s.failHeader n

/-- The first frame of some TYPEs that a framer passed on, taken from it. -/
def takePassed (s : State) (n : Nat) (types : List Nat) : Option ((Bool × Nat × Bytes) × State) :=
  let f := s.framer n
  match f.passed.findIdx? (fun p => types.contains (Ndoath.typ p.2.2)) with
  | none => none
  | some i =>
    match f.passed[i]? with
    | none => none
    | some p => some (p, s.setFramer n { f with passed := f.passed.eraseIdx i })

/-- The payload of a MONITOR frame (06 R222). -/
def monitorPayload (s : State) (n : Nat) : Bytes :=
  let f := s.framer n
  beBytes 2 (s.devNumber.getD 0) ++ [BitVec.ofNat 8 (if n < 32 then n else 0xF0 + (n - 32)), BitVec.ofNat 8 (b2n (s.rdi n))] ++
    beBytes 4 f.errTotal ++ beBytes 4 f.blockTotal ++ beBytes 4 f.mseq

/-- Whether a MONITOR frame has room: 24 bytes free before the next frame scheduled (06 R212). -/
def monitorRoom (s : State) (n : Nat) : Bool :=
  let w := s.framerWidth n
  let here := Ndoath.streamAt w (Rate.at_ s.now 0)
  decide (s.streamEnd n ≤ here) &&
    s.frames.all (fun e => decide (e.2.dec ∨ e.2.pair ≠ n ∨ 32 ≤ n) ||
      (match e.2.depart with
       | some d => decide (here + 24 ≤ Ndoath.streamAt w (departAt e.2 d))
       | none => true))

/-- A CIRC_CFG write that changes ENABLE (06 R239). A frame that waits for its gap keeps waiting when it is cleared (06 R244;
DESIGN CHOICE, log entry 109). -/
def circuitSwitch (s : State) (c : Nat) (was : Bool) : State :=
  let a := Reg.circuit c
  let q := s.circuit c
  if !was ∧ s.circEnabled c then
    let cells := s.circDepth c * (s.regField a 16 2 + 1)
    if s.poolFree < cells then s.setField a 31 1 0
    else ({ s with poolFree := s.poolFree - cells }).setCircuit c
      { q with frames := [], playing := false, missed := 0, last := none, cells := cells }
  else if was ∧ s.circEnabled c = false then
    ({ s with poolFree := s.poolFree + q.cells }).setCircuit c
      { q with frames := [], playing := false, missed := 0, cells := 0 }
  else s

end State

/-- DESKEW_FAIL (06 R205): the rows of a trunk port do not align. -/
def execDeskewFail (n : Fin 32) (s : State) : Out :=
  if (s.pair n.val).mode = .trunk then .next (s.deskewLost n.val) else .next s

/-- A forced hunt acts at the boundary where the framer stands (06 R229). -/
def State.forceNow (s : State) (n : Nat) : State :=
  let f := s.framer n
  let t := (if f.sync = .sync then s else s.bump (Reg.framer n + 0x58)).toHunt n f.off
  t.setFramer n { t.framer n with force := false }

/-- A forced hunt that waits for its boundary acts there: behind the frame in progress (06 R229). -/
def State.forcedCheck (s : State) (n : Nat) : State :=
  let f := s.framer n
  if f.sync = .presync then (if f.off ≤ f.rx.length then s.forceNow n else s)
  else
    let t := s.headerCheck n
    if t.framer n = f then s else if (t.framer n).sync = .sync then t.forceNow n else t.setFramer n { t.framer n with force := false }

/-- TRUNK_HEADER_CHECK (06 R224–R232): `more` arrives, then one header is checked. -/
def execTrunkHeaderCheck (n : Fin 34) (more : Bytes) (s : State) : Out :=
  let f := s.framer n.val
  if f.sync = .stopped ∨ s.framerUsed n.val = false then .next s
  else
    let t := s.setFramer n.val { f with rx := f.rx ++ more }
    if f.force then .next (t.forcedCheck n.val) else .next (t.headerCheck n.val)

/-- A forced hunt: with no frame in progress the framer stands at a boundary; otherwise it waits for the next (06
R229). -/
def State.forceHunt (s : State) (n : Nat) : State :=
  let f := s.framer n
  if s.framerUsed n = false ∨ f.sync = .stopped then s
  else if f.sync = .hunt ∨ f.rx.length = f.off then s.forceNow n
  else s.setFramer n { f with force := true }

/-- Every counter of a framer's window zeroed, the seconds among them. -/
def State.framerClear (s : State) (n : Nat) : State :=
  let w := Reg.framer n
  (s.clearCtr (w + 0x40) (w + 0x100)).clearRegs (w + 0x10) (w + 0x28)

/-- FORCE_HUNT (06 R229). -/
def execForceHunt (n : Fin 34) (s : State) : Out :=
  .next (s.wr .pf0 (Reg.framer n.val + 0x08) (fun s => s.forceHunt n.val))

/-- TRK_CLR_COUNTS (06 R252). -/
def execTrkClrCounts (n : Fin 34) (s : State) : Out :=
  .next (s.wr .pf0 (Reg.framer n.val + 0x08) (fun s => s.framerClear n.val))

/-- MONITOR_SEND (06 R212, R222): one MONITOR frame in a free-running millisecond, where a gap has room; a framer that is
STOPPED sends it too, while a lane of its port sends. -/
def execMonitorSend (n : Fin 34) (s : State) : Out :=
  let f := s.framer n.val
  if s.framerUsed n.val = false ∨ (s.framerLanes n.val).any s.laneSends = false ∨ f.monMs = some s.milli ∨
      s.monitorRoom n.val = false then .next s
  else
    let t := s.framerSend n.val (CipherFn.coreHeader 16 3 0 2 ++ s.monitorPayload n.val ++ zeros 2)
    .next (t.setFramer n.val { t.framer n.val with mseq := (f.mseq + 1) % 2 ^ 32, monMs := some s.milli })

/-- What a received MONITOR frame does (06 R237, R251). -/
def State.monitorTake (s : State) (n : Nat) (p : Bytes) : State :=
  let f := s.framer n
  let rdi := (p.getD 3 0).getLsbD 0
  let eb := beAt p 4 4
  let bl := beAt p 8 4
  let t := s.bump (Reg.framer n + 0x98)
  let t := if rdi && !f.rdiRx then t.framerCause n 4 1 else t
  let t := t.setFramer n { t.framer n with rdiRx := rdi, farTotals := some (eb, bl) }
  match f.farTotals with
  | none => t
  | some (eb0, bl0) =>
    let de := (eb + 2 ^ 32 - eb0) % 2 ^ 32
    let db := (bl + 2 ^ 32 - bl0) % 2 ^ 32
    let one := ({ PmEnd.reset with blocks := db, errored := de, defect := rdi }).classify
    let t := Nat.repeat (fun u => u.enterFar n one) f.farPending t
    let g := t.framer n
    if t.pmRuns n then
      t.setFramer n { g with farPending := 0, farSeen := true, far := { g.far with
        blocks := g.far.blocks + db, errored := g.far.errored + de, defect := g.far.defect || rdi } }
    else t.setFramer n { g with farPending := 0 }

/-- MONITOR_RX (06 R237, R222): the payload given, or that of the next MONITOR frame passed on. -/
def execMonitorRx (n : Fin 34) (payload : Bytes) (s : State) : Out :=
  if payload.isEmpty then
    match s.takePassed n.val [3] with
    | none => .next s
    | some (p, t) => .next (t.monitorTake n.val (slice p.2.2 6 16))
  else if (s.framer n.val).sync ≠ .sync then .next s
  else if payload.length ≠ 16 then .next (s.bump (Reg.framer n.val + 0x70))
  else .next (s.monitorTake n.val payload)

/-- PM_SECOND_CLOSE (06 R235–R237). -/
def execPmSecondClose (n : Fin 34) (s : State) : Out :=
  if s.framerUsed n.val then .next (s.closeSecond n.val) else .next s

/-- A write of TRK_CIRC_CFG. -/
def State.circuitWrite (s : State) (c : Nat) (v : Word) : State :=
  (s.storeReg (Reg.circuit c) v).circuitSwitch c (s.circEnabled c)

/-- CIRCUIT_ENABLE_WRITE (06 R239, R256). -/
def execCircuitEnableWrite (r : Req) (c : Fin 4096) (v : Word) (s : State) : Out :=
  .next (s.wr r (Reg.circuit c.val) (fun s => s.circuitWrite c.val v))

/-- PLAYOUT_INSTANT (06 R241–R244; 14 R523): once the circuit's base reaches the instant. -/
def execPlayoutInstant (c : Fin 4096) (s : State) : Out :=
  let q := s.circuit c.val
  if q.playing && s.due (s.circBase c.val) q.start (s.circPeriod c.val) q.instants then .next (s.play c.val) else .next s

/-- A packet frame scheduled on the host port of a pair: one that comes from a circuit is none (01 R39; 06 R212). -/
def State.scheduled (f : Frame) (p : Nat) : Bool :=
  let circuit : Bool := match f.trunk with
    | some h => decide (h.typ = 2)
    | none => false
  f.dec && decide (f.pair = p) && !circuit

/-- A host output that begins now is complete, with its gap and the next preamble, before the next packet frame
scheduled (06 R244; 05 R181). -/
def State.playoutRoom (s : State) (p len : Nat) : Bool :=
  let ends := Rate.at_ s.now 0 + Rate.ether (s.pair p).width (len + 20)
  s.etherFits false p (Rate.at_ s.now 0) && s.frames.all (fun e => !State.scheduled e.2 p ||
    (match e.2.depart with
     | some d => decide (ends ≤ State.departAt e.2 d)
     | none => true))

/-- PLAYOUT_EMIT (06 R244): the frame waiting goes out on the host port, with a fresh FCS (05 R182), in a gap it fits. -/
def execPlayoutEmit (c : Fin 4096) (s : State) : Out :=
  let q := s.circuit c.val
  let p := s.circPair c.val
  match q.waiting with
  | none => .next s
  | some b =>
    let frame := b ++ fcs b
    let start := Rate.at_ s.now 0
    let clear := s.playoutRoom p frame.length
    if clear && s.pairInService p && s.pp.outputs = false then
      .next ((s.bump (Reg.wrdCtr + 0x30)).setCircuit c.val { q with waiting := none })
    else if clear && s.pairInService p then
      let o : OutFrame := { frame := none, cycle := s.now, start := start, ends := Rate.ceil (start + Rate.ether (s.pair p).width frame.length)
                            bytes := frame, stomped := false, dec := true, pair := p, ts := none, charge := none }
      let t := s.etherPut false p o
      let t := (t.bump (Reg.port false p + 0x50)).add (Reg.port false p + 0x58) frame.length
      .next (t.setCircuit c.val { q with waiting := none })
    else .next s

end Sys2Proof.Machine
end

