-- ==== Sys2Proof/Machine/Image.lean ====
section
/-! DEFINITION. The Clody image: its header, authentication, directory and record bodies, each checked
and then put where it belongs (03 R99–R112; 04 R145–R147; 05 R195, R196; 06 R219; 10 R413; 12 R463;
14 R533, R534; 19 R638). A check answers a boot code where it fails. -/

namespace Sys2Proof.Machine
open Sys2Proof.Bits

namespace Flash

/-- `n` flash bytes from an address; an unlisted byte is erased and reads 0xFF (03 R100). -/
def read : List Host.Cell → Nat → Nat → Bytes
  | _, _, 0 => []
  | cells, a, n + 1 =>
    let c := cells.dropWhile (fun e => decide (e.1 < a))
    (match c with
     | e :: _ => if e.1 = a then e.2 else 0xFF
     | [] => 0xFF) :: read c (a + 1) n

/-- Bytes from an address on made to hold given values; erased bytes are not listed. -/
def set (cells : List Host.Cell) (a : Nat) (b : Bytes) : List Host.Cell :=
  (List.range b.length).foldl (fun t i => Tab.put (fun _ => (0xFF : BitVec 8)) t (a + i) (b.getD i 0)) cells

/-- Bytes programmed from an address: programming NOR flash only clears bits (PRESUMED, log entry 27). -/
def put (cells : List Host.Cell) (a : Nat) (b : Bytes) : List Host.Cell :=
  set cells a ((read cells a b.length).zipWith (fun x y => x &&& y) b)

/-- Bytes of a range erased. -/
def erase (cells : List Host.Cell) (a n : Nat) : List Host.Cell :=
  cells.filter (fun e => decide (e.1 < a ∨ a + n ≤ e.1))

/-- The first byte of a slot (03, Flash slots). -/
def slotBase (slot : Nat) : Nat := 0x4000000 * slot

end Flash

namespace Image

/-- RECORD_COUNT, DIRECTORY_OFFSET, IMAGE_LENGTH and the other header fields (03 R100). -/
def count (h : Bytes) : Nat := leAt h 10 2
/-- See `count`. -/
def dirOff (h : Bytes) : Nat := leAt h 24 4
/-- See `count`. -/
def length (h : Bytes) : Nat := leAt h 20 4
/-- SECURITY_VERSION. -/
def security (h : Bytes) : Nat := leAt h 16 2
/-- RAISE_MIN_SV. -/
def raises (h : Bytes) : Bool := (leAt h 18 2).testBit 0

/-- The header passes 03 R100. -/
def headerOk (h : Bytes) : Bool :=
  decide (leAt h 0 4 = 0x434C4459 ∧ leAt h 4 2 = 3 ∧ leAt h 6 2 = 0x07A3 ∧ leAt h 8 2 = 0x6432 ∧
    leAt h 18 2 < 2 ∧ leAt h 28 4 = 0 ∧ leAt h 176 16 = 0 ∧ 1 ≤ count h ∧ count h ≤ 64 ∧
    dirOff h % 64 = 0 ∧ 320 ≤ dirOff h ∧ length h ≤ 67108864 ∧ dirOff h + 64 * count h ≤ length h)

/-- One directory entry (03 R105). -/
def entryAt (d : Bytes) (i : Nat) : DirEntry :=
  let e := sliceZ d (64 * i) 64
  { typ := leAt e 0 2, inst := leAt e 2 2, off := leAt e 8 4, len := leAt e 12 4, digest := slice e 16 48 }

/-- An entry's layout (03 R106). -/
def entryOk (h d : Bytes) (i : Nat) : Bool :=
  let e := entryAt d i
  decide (leAt d (64 * i + 4) 4 = 0 ∧ e.off % 64 = 0 ∧ dirOff h + 64 * count h ≤ e.off ∧ e.off + e.len ≤ length h)

/-- A record type without its optional bit (03 R107). -/
def baseType (t : Nat) : Nat := t % 32768

/-- Whether a type is in the table of 03 R108. -/
def known (t : Nat) : Bool := decide (1 ≤ baseType t ∧ baseType t ≤ 9)

/-- Every entry of the directory. -/
def allEntries (h d : Bytes) : List DirEntry := (List.range (count h)).map (entryAt d)

/-- The entries that are not skipped, by type without the optional bit (03 R107). -/
def kept (h d : Bytes) : List DirEntry :=
  ((allEntries h d).filter (fun e => known e.typ)).map (fun e => { e with typ := baseType e.typ })

/-- The directory passes 03 R106 to R108: layout, types, no TYPE and INSTANCE twice. Skipped optional entries are not
compared, as the spec does not say whether they count (DESIGN CHOICE, log entry 104). -/
def dirOk (h d : Bytes) : Bool :=
  (List.range (count h)).all (entryOk h d) &&
  (allEntries h d).all (fun e => known e.typ || decide (32768 ≤ e.typ)) &&
  decide ((kept h d).map (fun e => (e.typ, e.inst))).Nodup

/-- An image read from its slot: header, signature block and directory (03 R87). -/
def fetch (flash : List Host.Cell) (slot : Nat) : Image :=
  let b := Flash.slotBase slot
  let h := Flash.read flash b 192
  { slot := slot, header := h, sig := Flash.read flash (b + 192) 128,
    dirBytes := if headerOk h then Flash.read flash (b + dirOff h) (64 * count h) else [], entries := [] }

/-- The four checks of 03 R102, then those of R106 to R108; a boot code where one fails. -/
def auth (i : Image) (minSv : Nat) : Option Nat :=
  let h := i.header
  let key := slice h 80 96
  if Crypto.sha384 key ≠ beBytes 48 Config.signerHash.toNat then some 0x82
  else if Crypto.ecdsaVerify (beAt key 0 48) (beAt key 48 48) (beAt i.sig 0 48) (beAt i.sig 48 48)
      (beNat (Crypto.sha384 h)) = false then some 0x83
  else if security h < minSv then some 0x84
  else if Crypto.sha384 i.dirBytes ≠ slice h 32 48 then some 0x85
  else if dirOk h i.dirBytes = false then some 0x81
  else none

/-- The entries of a type. -/
def ofType (i : Image) (t : Nat) : List DirEntry := i.entries.filter (fun e => decide (e.typ = t))

/-- A record's body, checked against its DIGEST (03 R106). -/
def body (i : Image) (flash : List Host.Cell) (e : DirEntry) : Except Nat Bytes :=
  let b := Flash.read flash (Flash.slotBase i.slot + e.off) e.len
  if Crypto.sha384 b = e.digest then .ok b else .error 0x85

/-- The one record of a type whose INSTANCE is 0xFFFF (03 R108). -/
def single (i : Image) (flash : List Host.Cell) (t : Nat) : Except Nat Bytes :=
  match i.ofType t with
  | [e] => if e.inst = 0xFFFF then i.body flash e else .error 0x86
  | _ => .error 0x86

/-- An optional record of a type whose INSTANCE is 0xFFFF. -/
def optional (i : Image) (flash : List Host.Cell) (t : Nat) : Except Nat (Option Bytes) :=
  match i.ofType t with
  | [] => .ok none
  | [e] => if e.inst = 0xFFFF then (i.body flash e).map some else .error 0x86
  | _ => .error 0x86

/-- Every record of a type with its instance, in directory order. -/
def bodies (i : Image) (flash : List Host.Cell) (t : Nat) : Except Nat (List (Nat × Bytes)) :=
  (i.ofType t).foldr (fun e acc =>
    match i.body flash e with
    | .error c => .error c
    | .ok b => acc.map (fun l => (e.inst, b) :: l)) (.ok [])

end Image

/-! ### FIRMWARE (19 R638) -/

namespace Firmware

/-- The body passes 19 R638. -/
def ok (b : Bytes) : Bool :=
  let code := leAt b 24 4
  decide (64 ≤ b.length ∧ leAt b 0 2 = 1 ∧ leAt b 2 6 = 0 ∧ leAt b 8 8 % 4096 = 0 ∧ leAt b 16 8 < code ∧
    leAt b 32 32 = 0 ∧ b.length = 64 + code ∧ leAt b 8 8 + code + leAt b 28 4 ≤ 2 ^ 30)

end Firmware

/-! ### PORT_POLICY (05 R195, R196) -/

namespace PortPolicy

/-- A default action by its code. -/
def action (n : Nat) : DefAct := if n = 0 then .drop else if n = 1 then .divert else .bypass

/-- A mode by its code. -/
def mode (n : Nat) : Mode := if n = 1 then .line else if n = 2 then .tunnel else if n = 3 then .trunk else .none

/-- Entry i as a pair in the state a loaded policy leaves it. -/
def pair (b : Bytes) (i : Nat) : Pair :=
  let e := sliceZ b (16 + 32 * i) 32
  let fl := leAt e 3 1
  if leAt e 1 1 = 0 then Pair.reset
  else { Pair.reset with
    mode := mode (leAt e 1 1), width := leAt e 2 1, bypassPermit := fl.testBit 0, wakeOnSignal := fl.testBit 1,
    expectPeer := fl.testBit 2, maxFrame := leAt e 4 2, expansion := leAt e 6 1, txSci := leAt e 7 1,
    defEnc := action (leAt e 8 1), defDec := action (leAt e 9 1), profile := leAt e 10 2, peerDevice := leAt e 12 2 }

/-- Entry i keeps its ranges and the conditions of 05 R196 and 06 R219, which bind entries with MODE
other than 0; `present` says which lanes have PRESENT set. -/
def entryOk (b : Bytes) (present : Nat → Bool) (i : Nat) : Bool :=
  let e := sliceZ b (16 + 32 * i) 32
  let m := leAt e 1 1
  let w := leAt e 2 1
  let bypass := (leAt e 3 1).testBit 0
  decide (leAt e 0 1 = i ∧ m ≤ 3) &&
  (if m = 0 then decide (w = 0)
   else
    decide (leAt e 3 1 < 8 ∧ leAt e 8 1 ≤ 2 ∧ leAt e 9 1 ≤ 2 ∧ leAt e 14 18 = 0) &&
    decide ((w = 1 ∨ w = 2 ∨ w = 4 ∨ w = 8) ∧ i % max 1 w = 0 ∧ 1518 ≤ leAt e 4 2 ∧ leAt e 4 2 ≤ 9216) &&
    decide (if m = 1 then leAt e 6 1 = 32 else if m = 2 then leAt e 6 1 ≤ 128 else leAt e 6 1 = 0) &&
    decide (if m = 1 then leAt e 7 1 ≤ 2 else leAt e 7 1 = 0) &&
    decide (m = 3 ∨ leAt e 10 2 = 0) && decide (m ≠ 3 ∨ leAt e 4 2 ≤ 9194) &&
    (bypass || decide (leAt e 8 1 ≠ 2 ∧ leAt e 9 1 ≠ 2)) &&
    (List.range w).all (fun k =>
      decide (k = 0 ∨ leAt b (16 + 32 * (i + k) + 1) 1 = 0) && present (i + k) && present (32 + i + k)))

/-- The body passes 05 R195, R196 and 06 R219. -/
def ok (b : Bytes) (present : Nat → Bool) : Bool :=
  decide (b.length = 1040 ∧ leAt b 0 2 = 1 ∧ leAt b 2 2 = 32 ∧ leAt b 4 12 = 0) &&
    (List.range 32).all (entryOk b present)

/-- The pairs of a body. -/
def pairs (b : Bytes) : Tab Pair :=
  (List.range 32).foldl (fun t i => Tab.put (fun _ => Pair.reset) t i (pair b i)) []

end PortPolicy

/-! ### EQUALISATION (04 R145–R147) -/

/-- A lane without what an EQUALISATION entry gives, its stage as it is (03 R96). -/
def Lane.bare (n : Lane) : Lane :=
  { n with present := false, training := false, txInvert := false, rxInvert := false, taps := TapSet.zero }

namespace Equalisation

/-- LANE_ID of the entry of lane l. -/
def laneId (l : Nat) : Nat := if l < 32 then l else if l < 64 then 256 + (l - 32) else 512 + (l - 64)

/-- FLAGS of lane l. -/
def flags (b : Bytes) (l : Nat) : Nat := leAt b (16 + 32 * l + 2) 2

/-- PRESENT of lane l. -/
def present (b : Bytes) (l : Nat) : Bool := (flags b l).testBit 0

/-- The tap set lane l uses, `trunk` saying which rate it runs at. -/
def setAt (b : Bytes) (l : Nat) (trunk : Bool) : Bytes := sliceZ b (16 + 32 * l + (if trunk then 20 else 8)) 12

/-- A tap set as a lane holds it, with the substitutions of 0. -/
def taps (t : Bytes) : TapSet :=
  let f := fun i => leAt t i 1
  { pre3 := f 0, pre2 := f 1, pre1 := f 2, main := f 3, post1 := f 4, swing := f 5,
    fomEntry := if f 6 = 0 then 96 else f 6, fomFloor := if f 7 = 0 then 80 else f 7 }

/-- A tap set in use passes 04 R146. -/
def setOk (t : Bytes) : Bool :=
  let p := taps t
  let mag := ((List.range 5).map (fun i => (signed 8 (leAt t i 1)).natAbs)).sum
  decide (64 ≤ signed 8 p.main ∧ mag ≤ 128 ∧ 80 ≤ p.swing ∧ p.swing ≤ 240 ∧ p.fomFloor ≤ p.fomEntry)

/-- Lane l's entry passes 04 R145 and, for the set the lane uses, R146. -/
def laneOk (b : Bytes) (trunk : Nat → Bool) (l : Nat) : Bool :=
  let o := 16 + 32 * l
  decide (leAt b o 2 = laneId l ∧ flags b l < 16 ∧ leAt b (o + 4) 4 = 0) &&
    (decide (64 ≤ l) || decide (leAt b (o + 16) 4 = 0)) && (decide (l < 32) || decide (leAt b (o + 28) 4 = 0)) &&
    (!present b l || setOk (setAt b l (trunk l)))

/-- The body passes 04 R145 and R146. -/
def ok (b : Bytes) (board : Nat) (trunk : Nat → Bool) : Bool :=
  decide (b.length = 2128 ∧ leAt b 0 2 = board ∧ leAt b 2 2 = 66 ∧ leAt b 4 2 = 1 ∧ leAt b 6 10 = 0) &&
    (List.range 66).all (laneOk b trunk)

/-- A lane given its entry (04 R145, R148). -/
def give (b : Bytes) (l : Nat) (trunk : Bool) (n : Lane) : Lane :=
  let f := flags b l
  { n with present := f.testBit 0, txInvert := f.testBit 1, rxInvert := f.testBit 2, training := f.testBit 3 && !trunk,
           taps := taps (setAt b l trunk) }

end Equalisation

/-! ### KEY_IMPORT (12 R463) -/

namespace KeyImport

/-- The key and USAGE of a body for a slot; none where it fails R462 or its own layout. -/
def openBody (dtk b : Bytes) (slot dev : Nat) : Option (Bytes × Nat) :=
  if b.length = 64 ∧ leAt b 0 2 = 1 ∧ leAt b 2 2 = slot ∧ leAt b 4 4 = 0 ∧ slot < 1024 then
    Blob.openDomain dtk (slice b 8 56) slot dev
  else none

end KeyImport

/-! ### TIME_CONFIG (14 R533, R534) -/

namespace TimeConfig

/-- BOARD_COUNT. -/
def boards (b : Bytes) : Nat := leAt b 2 1

/-- The section of a board. -/
def section_ (b : Bytes) (board : Nat) : Option Nat :=
  ((List.range (boards b)).find? (fun m => decide (leAt b (544 + 264 * m) 1 = board))).map (fun m => 544 + 264 * m)

/-- The body passes 14 R534. -/
def ok (b : Bytes) : Bool :=
  let n := boards b
  decide (1 ≤ b.length ∧ leAt b 0 2 = 1 ∧ n ≤ 16 ∧ leAt b 3 13 = 0 ∧ b.length = 544 + 264 * n) &&
  (List.range 8).all (fun k => decide (leAt b (16 + 32 * k) 10 < 2 ^ 79 ∧ leAt b (32 + 32 * k) 16 = 0)) &&
  (List.range 32).all (fun i => decide (leAt b (272 + 4 * i) 1 < 8 ∧ leAt b (273 + 4 * i) 3 = 0)) &&
  (List.range 4).all (fun k =>
    let o := 400 + 32 * k
    decide (leAt b o 1 < 8 ∧ leAt b (o + 1) 1 < 8 ∧ leAt b (o + 2) 2 = 0 ∧ leAt b (o + 30) 2 = 0 ∧
      65536000 ≤ leAt b (o + 20) 10 ∧ leAt b (o + 20) 10 ≤ 2 ^ 48 * 10 ^ 9)) &&
  (List.range 2).all (fun j =>
    let o := 528 + 8 * j
    decide (leAt b o 1 < 8 ∧ 1 ≤ field (leAt b o 1) 1 2 ∧ leAt b (o + 1) 1 < 8 ∧ leAt b (o + 2) 6 = 0)) &&
  (List.range n).all (fun m => decide (leAt b (544 + 264 * m) 1 < 16 ∧ leAt b (545 + 264 * m) 7 = 0)) &&
  decide ((List.range n).map (fun m => leAt b (544 + 264 * m) 1)).Nodup

/-- The register words of the pairs, pulse outputs and capture inputs. -/
def words (b : Bytes) : List (Nat × Word) :=
  (List.range 4).map (fun k => (Reg.timPairBase + 4 * k,
    word ((List.range 8).map (fun p => (leAt b (272 + 4 * (8 * k + p)) 1, 4 * p, 3))))) ++
  (List.range 4).flatMap (fun k =>
    let o := 400 + 32 * k
    let r := Reg.timPulse + 0x40 * k
    let fl := leAt b o 1
    [(r, word [(field fl 0 1, 31, 1), (field fl 1 1, 30, 1), (field fl 2 1, 29, 1), (leAt b (o + 1) 1, 24, 3)]),
     (r + 4, BitVec.ofNat 32 (leAt b (o + 4) 4))] ++
    (List.range 3).map (fun i => (r + 8 + 4 * i, BitVec.ofNat 32 (leAt b (o + 8 + 4 * i) 4))) ++
    [(r + 0x14, BitVec.ofNat 32 (leAt b (o + 20) 4)), (r + 0x18, BitVec.ofNat 32 (leAt b (o + 24) 4)),
     (r + 0x1C, BitVec.ofNat 32 (leAt b (o + 28) 2))]) ++
  (List.range 2).map (fun j =>
    let o := 528 + 8 * j
    (Reg.timCap + 0x40 * j, word [(field (leAt b o 1) 0 1, 31, 1), (leAt b (o + 1) 1, 24, 3), (field (leAt b o 1) 1 2, 0, 2)]))

/-- The board delays of a section, or of none: every delay 0 (14 R534). -/
def boardWords (b : Bytes) (sec : Option Nat) : List (Nat × Word) :=
  (List.range 32).flatMap (fun n =>
    let v := fun k => match sec with
      | some o => BitVec.ofNat 32 (leAt b (o + 8 + 8 * n + 4 * k) 4)
      | none => 0
    [(Reg.timLane + 16 * n + 8, v 0), (Reg.timLane + 16 * n + 12, v 1)])

/-- The shadow words of base k. -/
def shadowWords (b : Bytes) (k : Nat) : List (Nat × Word) :=
  let r := Reg.timBase + 0x20 * k
  let o := 16 + 32 * k
  [(r, BitVec.ofNat 32 (leAt b o 4)), (r + 4, BitVec.ofNat 32 (leAt b (o + 4) 4)), (r + 8, BitVec.ofNat 32 (leAt b (o + 8) 2)),
   (r + 12, BitVec.ofNat 32 (leAt b (o + 10) 4)), (r + 16, BitVec.ofNat 32 (leAt b (o + 14) 2))]

/-- Base k in force after a SET at c0 with its RATE (14 R533). -/
def base (b : Bytes) (k c0 : Nat) : TimeBase :=
  { offset := wrap 80 ((leAt b (16 + 32 * k) 10 : Int) - c0), rate := leAt b (26 + 32 * k) 6, anchor := c0 }

end TimeConfig

namespace State

/-- A TIME_CONFIG record put in force; its bases only where `bases` says so (14 R521, R533, R534). -/
def takeTimeConfig (s : State) (b : Option Bytes) (bases : Bool) : State :=
  match b with
  | none => { s with tim := { s.tim with noBoardDelay := true } }
  | some b =>
    let sec := TimeConfig.section_ b s.pwr.boardId
    let t := s.setRegs (TimeConfig.words b ++ TimeConfig.boardWords b sec)
    let t := if bases then
        (List.range 8).foldl (fun t k =>
          ((t.setRegs (TimeConfig.shadowWords b k)).setBase k (TimeConfig.base b k t.count))) t
      else t
    let t := { t with tim := { t.tim with noBoardDelay := sec.isNone } }
    (List.range 4).foldl (fun t k => if t.pulseOn k then t.pulseBegin k else t) t

/-- An EQUALISATION record given to the lanes; one without PRESENT dozes (04 R147). -/
def takeEqualisation (s : State) (b : Bytes) : State :=
  (List.range 66).foldl (fun t l =>
    let t := t.setLane l (Equalisation.give b l (t.laneTrunk l) (t.lane l))
    if Equalisation.present b l then t else t.dozeLane l) s

/-- The registers a CHANNEL_POLICY body gives (10 R413, R417). -/
def takeChannelPolicy (s : State) (b : Bytes) : State :=
  let t := (List.range 16).foldl (fun t p =>
    t.setRegs ((ChannelPolicy.profileWords b p).map (fun w => (Reg.chnProfile + 0x20 * p + w.1, w.2)))) s
  { (t.setRegs ((List.range 32).map (fun k => (Reg.chnPolicy + 4 * k, ChannelPolicy.policyWord b k)))) with channelPolicy := b }

end State

end Sys2Proof.Machine
end

