-- ==== Sys2Proof/Machine/Power.lean ====
section
/-! DEFINITION. Power feeds, shed levels, reference clocks, regulators and the resets as commands
(02; 00 R18–R20). -/

namespace Sys2Proof.Machine
open Sys2Proof.Bits

namespace State

/-- A feed. -/
def feed (s : State) : FeedId → Feed
  | .a => s.pwr.feedA
  | .b => s.pwr.feedB

/-- A feed replaced. -/
def setFeed (s : State) (f : FeedId) (v : Feed) : State :=
  match f with
  | .a => { s with pwr := { s.pwr with feedA := v } }
  | .b => { s with pwr := { s.pwr with feedB := v } }

/-- The number of a feed's event beyond 224. -/
def feedNo : FeedId → Nat
  | .a => 0
  | .b => 1

/-- Both feeds present. -/
def bothFed (s : State) : Bool := s.pwr.feedA.present && s.pwr.feedB.present

/-- The voltage of the one feed present, in 10 mV. -/
def loneVolt (s : State) : Nat :=
  if s.pwr.feedA.present then s.pwr.feedA.voltage else s.pwr.feedB.voltage

/-- The shed level R63 calls for. -/
def levelCalled (s : State) : Nat :=
  if s.bothFed then 0
  else if 700 ≤ s.loneVolt then 0
  else if 570 ≤ s.loneVolt then 1
  else 2

/-- PWR_CONTROL.MIN_LEVEL. -/
def minLevel (s : State) : Nat := s.regField Reg.pwrControl 0 2

/-- Whether the wait of a level below the one in force may run (02 R65): MIN_LEVEL allows the level
and the feed stands at its threshold plus 0.2 V, or both feeds are present. -/
def waitOk (s : State) (lv : Nat) : Bool :=
  (match s.pwr.level with
   | some c => decide (lv < c)
   | none => false) &&
  decide (s.minLevel ≤ lv) && (s.bothFed || (s.fed && decide ((if lv = 0 then 720 else 590) ≤ s.loneVolt)))

/-- The waits of R65 begun or ended as their conditions stand now. -/
def refreshWaits (s : State) : State :=
  let w := fun (lv : Nat) (old : Option Nat) => if s.waitOk lv then some (old.getD s.now) else none
  { s with pwr := { s.pwr with wait0 := w 0 s.pwr.wait0, wait1 := w 1 s.pwr.wait1 } }

/-- A shed level takes effect: event 226, and pairs outside the kept lanes leave service (02 R64,
R84). -/
def applyLevel (s : State) (lv : Nat) (down : Bool) : State :=
  let t := { s with pwr := { s.pwr with level := some lv, shedTo := none } }
  let t := (t.setField Reg.pwrEvent 9 1 (b2n down)).cause Reg.pwrEvent 2 226 1
  let out := (t.pairsUsed.filter (fun e => decide (lanesKept lv < e.1 + e.2.width))).map Prod.fst
  let t := t.dropWhere (fun f => out.contains f.pair) ctrShed
  let t := out.foldl (fun u p => u.endBoth p 0x88 0xE0) t
  let t := (List.range 64).foldl (fun t l => if lanesKept lv ≤ laneIdx l then t.dozeLane l else t) t
  let t := out.foldl dozePair t
  t.settle.refreshWaits

/-- Whether bring-up has reached LANE_BRINGUP, from which on the side references are needed (02
R81). -/
def lanesRun (s : State) : Bool := decide (6 ≤ s.boot.state.code)

/-- The loss of a side's reference (02 R77): the side is removed whole under one C3 raise. -/
def sideLost (s : State) (d : Side) : State :=
  let ev := if d = .host then 229 else 230
  let t := (s.setField Reg.pwrEvent 8 1 0).cause Reg.pwrEvent (ev - 224) ev 3
  let t := t.holdSide d
  ((t.dropWhere (fun _ => true) ctrRemoved).endOutputs).settle

end State

/-- POR_N_ASSERT (02 R82, 00 R18). -/
def execPorNAssert (s : State) : Out := .next (s.coldReset true)

/-- BOTH_FEEDS_LOST (02 R70, 16 R564, R580): an ACTIVE module's fatal YIELD is still carried. -/
def execBothFeedsLost (s : State) : Out :=
  let t := s.coldReset false
  .next { t with lev := State.levUnfed t.lev, pp := { t.pp with sent := (s.fatalYield false).pp.sent } }

/-- FEED_PRESENT (02 R58, R84): a feed escalated away returns only after it fell below 4.5 V. -/
def execFeedPresent (f : FeedId) (s : State) : Out :=
  let d := s.feed f
  if d.present ∨ d.cut then .next s
  else
    let t := s.setFeed f { d with present := true }
    let t := { t with lev := t.lev.setCond 6 false }
    let t := if s.boot.state = .powerOk then t
      else t.cause Reg.pwrEvent (State.feedNo f) (224 + State.feedNo f) 1
    .next t.refreshWaits

/-- FEED_ABSENT (02 R58, R61, R84). The loss of the last feed present is BOTH_FEEDS_LOST (R70). -/
def execFeedAbsent (f : FeedId) (s : State) : Out :=
  let d := s.feed f
  let t := s.setFeed f { d with present := false, cut := false }
  if !d.present then .next t
  else if !t.fed then execBothFeedsLost s
  else
    let t := if s.boot.state = .powerOk then t
      else t.cause Reg.pwrEvent (State.feedNo f) (224 + State.feedNo f) 1
    .next t.refreshWaits

/-- FEED_SAMPLE (02 R63, R66, R86): voltages in 10 mV, currents in 125 mA; XT32_RUN is measured with them. -/
def execFeedSample (va vb ia ib : Nat) (s : State) : Out :=
  let t := (s.setFeed .a { s.pwr.feedA with voltage := va % 4096, current := ia % 256 }).setFeed .b
    { s.pwr.feedB with voltage := vb % 4096, current := ib % 256 }
  let t := { t with pwr := { t.pwr with xt32 := s.lev.xt32 } }
  if !t.fed ∨ t.boot.state = .powerOk then .next t
  else
    let lv := max t.levelCalled t.minLevel
    match t.pwr.level with
    | none =>
      if lv = 0 then .next { t with pwr := { t.pwr with level := some 0 } }
      else .next (t.applyLevel lv false)
    | some c =>
      let t := if c < lv then { t with pwr := { t.pwr with shedTo := some (max lv (t.pwr.shedTo.getD 0)) } } else t
      .next t.refreshWaits

/-- SHED_UP (02 R64, R67): the move begun takes effect. -/
def execShedUp (s : State) : Out :=
  match s.pwr.shedTo with
  | none => .next s
  | some lv => .next (s.applyLevel lv false)

/-- SHED_DOWN_WAIT_EXPIRY (02 R65): the wait of a lower level is complete. -/
def execShedDownWaitExpiry (level : Fin 2) (s : State) : Out :=
  let w := if level.val = 0 then s.pwr.wait0 else s.pwr.wait1
  if w.isSome ∧ s.waitOk level.val then .next (s.applyLevel level.val true) else .next s

/-- PWR_CONTROL written: the level follows 02 R64 or R65. -/
def State.pwrControlWrite (s : State) (v : Word) : State :=
  let t := s.storeReg Reg.pwrControl v
  match t.pwr.level with
  | none => t
  | some c =>
    let t := if c < t.minLevel then
        { t with pwr := { t.pwr with shedTo := some (max t.minLevel (t.pwr.shedTo.getD 0)) } }
      else t
    t.refreshWaits

/-- MIN_LEVEL_WRITE (02 R86). -/
def execMinLevelWrite (r : Req) (v : Word) (s : State) : Out :=
  .next (s.wr r Reg.pwrControl (fun s => s.pwrControlWrite v))

/-- FEED_OVERCURRENT_TIMEOUT (02 R59): event 227, C2. -/
def execFeedOvercurrentTimeout (f : FeedId) (s : State) : Out :=
  if (s.feed f).present then .next (s.cause Reg.pwrEvent 3 227 2 (State.feedNo f)) else .next s

/-- REFCLK_SYS_LOST (02 R76): event 228, C4. The counter, which REFCLK_SYS drives (R74), stops. -/
def execRefclkSysLost (s : State) : Out :=
  if s.pwr.sysOk then
    let t := { s with pwr := { s.pwr with sysOk := false, aoFallback := true } }
    .next (({ t with clockOn := false }).cause Reg.pwrEvent 4 228 4)
  else .next s

/-- REFCLK_SYS_RESTORED (02 R76): the C4 latch stays. -/
def execRefclkSysRestored (s : State) : Out :=
  .next { s with pwr := { s.pwr with sysOk := true, aoFallback := false },
                 clockOn := s.clockOn || decide (s.boot.state ≠ .powerOk) }

/-- REFCLK_SIDE_LOST (02 R77, R81). -/
def execRefclkSideLost (d : Side) (s : State) : Out :=
  let on := if d = .host then s.pwr.hostRef else s.pwr.lineRef
  let t := if d = .host then { s with pwr := { s.pwr with hostRef := false } }
    else { s with pwr := { s.pwr with lineRef := false } }
  if on ∧ s.lanesRun then .next (t.sideLost d) else .next t

/-- REFCLK_SIDE_RESTORED (02 R77): held lanes leave DETECT as 04 R141 allows; RESTORED, C0. -/
def execRefclkSideRestored (d : Side) (s : State) : Out :=
  let on := if d = .host then s.pwr.hostRef else s.pwr.lineRef
  let t := if d = .host then { s with pwr := { s.pwr with hostRef := true } }
    else { s with pwr := { s.pwr with lineRef := true } }
  if on ∨ s.lanesRun = false then .next t
  else
    let ev := if d = .host then 229 else 230
    let t := (State.sideLanes d).foldl (fun t l => t.setLane l { t.lane l with held := false }) t
    .next ((t.setField Reg.pwrEvent 8 1 1).cause Reg.pwrEvent (ev - 224) ev 0)

/-- A unit loses its rail: a lane, a pipe group or a polder is removed (02 R85). -/
def State.railOut (s : State) (u : Nat) : State :=
  if u < 66 then s.removeLane u true else if u < 82 then s.removeGroup (u - 66) else s.removePolder (u - 82)

/-- REGULATOR_FAULT (02 R85): event 231 with RAIL, and every unit fed by the rail is removed. -/
def execRegulatorFault (rail : Fin 256) (s : State) : Out :=
  let t := s.setField Reg.pwrEvent 24 8 rail.val
  let t := t.cause Reg.pwrEvent 7 231 (if Config.railCore rail.val then 4 else 3)
  .next (((List.range 114).filter (Config.railFeeds rail.val)).foldl State.railOut t)

/-- WARM_RESET (00 R19): a write of 1 to IDN_CONTROL.WARM_RESET. -/
def execWarmReset (r : Req) (s : State) : Out :=
  .next (s.wr r Reg.idnControl (fun s => s.warmReset.refreshWaits))

/-- PERST_N_ASSERT (00 R20, 17 R600): only the endpoint and its configuration space are reset; the response
of a running mailbox command is to be discarded (19 R631). -/
def execPerstNAssert (s : State) : Out :=
  let m := { s.mbxPcie with drop := s.mbxPcie.busy }
  let p := { Pcie.reset with perst := true, up := s.pcie.up, width := s.pcie.width, speed := s.pcie.speed }
  .next { s with pcie := p, evt := { s.evt with pba := 0 }, mbxPcie := m }

end Sys2Proof.Machine
end

