-- ==== Sys2Proof/Machine/Secrets.lean ====
section
/-! DEFINITION. What the key hierarchy shares with the units that hold its cells: its causes and counters, draws from the
DRBG, cells written and fetched, and device cells that fail (12 R474, R475, R486, R489). -/

namespace Sys2Proof.Machine
open Sys2Proof.Bits

namespace State

/-- A cause of the key hierarchy unit (12 R486). -/
def keyCause (s : State) (bit cls : Nat) : State := s.cause Reg.keyEvent bit (192 + bit) cls

/-- A counter of the unit (12 R489). -/
def keyBump (s : State) (o : Nat) : State := s.bump (Reg.keyCtr + o)

/-- Entropy from the noise source: 32 bytes, and a nonce of 16 for an instantiation (log entry 100). -/
def entropy (s : State) (n : Nat) : Bytes × State :=
  let (i, t) := s.fresh
  ((beBytes 48 (Config.entropy i).toNat).take n, t)

/-- The DRBG instantiated (12 R475). -/
def seedDrbg (s : State) : State :=
  let (e, t) := s.entropy 48
  { t with key := { t.key with drbg := some (Drbg.instantiate e) } }

/-- The DRBG reseeded (12 R475). -/
def reseed (s : State) : State :=
  match s.key.drbg with
  | none => s
  | some d =>
    let (e, t) := s.entropy 32
    ({ t with key := { t.key with drbg := some (d.reseed e) } }).keyBump 0x30

/-- Bytes drawn from the DRBG in one request, after a reseed where 2^20 have been served. While it is not instantiated the
spec names no source for the mask of a cell that is written: a free value (log entry 100). -/
def draw (s : State) (n : Nat) : Bytes × State :=
  let s := match s.key.drbg with
    | some d => if 2 ^ 20 ≤ d.count then s.reseed else s
    | none => s
  match s.key.drbg with
  | some d =>
    let (out, d) := d.generate n
    (out, { s with key := { s.key with drbg := some d } })
  | none =>
    let (i, t) := s.fresh
    ((beBytes 48 (Config.cellMask i).toNat).take n, t)

/-- A key put into a cell: fresh mask, code under the check key (12 R474). -/
def newCell (s : State) (key : Bytes) : Cell × State :=
  let (m, t) := s.draw key.length
  (Cell.write t.key.check key m, t)

/-- A key fetched from its cell, whose integrity code is verified; `bad` says that the arrays read back damaged. -/
def fetch (s : State) (c : Cell) (bad : Bool) : Option Bytes :=
  if bad || !c.intact s.key.check then none else some c.key

/-- A key cell failed: counted and captured under its kind, with event 196 (12 R474). -/
def cellFault (s : State) (kind slot : Nat) : State :=
  ((s.keyBump 0x28).capture Reg.keyAbort [(kind, 28, 2), (slot, 0, 10)]).keyCause 4 1

/-- A device key cell failed: a C4 fault (12 R474). -/
def deviceFault (s : State) : State := (s.cellFault 3 0).keyCause 5 4

/-- Whether the boot keys, where they stand, pass their integrity codes. -/
def sealKeysOk (s : State) : Bool := [s.key.k1, s.key.k2, s.key.kt].all (fun k => k.all (Cell.intact s.key.check))

end State

end Sys2Proof.Machine
end

