-- ==== Sys2Proof/Machine/Boot.lean ====
section
/-! DEFINITION. Bring-up: its states, what each loads, the second slot, the halts and RUN (03
R87–R126; 08 R332, R333; 09 R365; 12 R458, R463, R476; 15 R546; 16 R654). -/

namespace Sys2Proof.Machine
open Sys2Proof.Bits

namespace State

/-! ### Moving between states -/

/-- Bring-up stands in a state and is not halted. -/
def booting (s : State) (st : BootState) : Bool := decide (s.boot.state = st) && !s.boot.halted

/-- The next bring-up state. -/
def toBoot (s : State) (st : BootState) : State := { s with boot := { s.boot with state := st } }

/-- Bring-up halts with a code (03 R123, R124): every lane that is not ACTIVE dozes. -/
def halt (s : State) (c : Nat) : State :=
  let t := { s with boot := { s.boot with halted := true, code := c } }
  (List.range 66).foldl (fun t l => if (t.lane l).stage = .active then t else t.dozeLane l) t

/-- The records loaded are discarded, with the domain slots they filled; lane stages stay, and so do the hit
counters, which every reset but a cold one keeps (03 R96; 07 R294). -/
def discardRecords (s : State) : State :=
  let s := s.lanes.foldl (fun t e => t.setLane e.1 (t.lane e.1).bare) s
  let k := { s.key with slots := s.boot.imported.foldl (fun t n => Tab.del t n) s.key.slots, digestPending := true }
  { s with
    run := none
    boot := { s.boot with img := none, imported := [], tries := 0, aborts := [] }
    key := k
    channelPolicy := []
    portPolicy := []
    pairs := []
    regs := s.regs.filter (fun e => decide (e.1 < Reg.chnProfile ∨ Reg.chnPolicy + 128 ≤ e.1))
    cls := { Cls.empty with hitEnc := s.cls.hitEnc, hitDec := s.cls.hitDec }
    lkp := Lkp.empty
    polders := s.polders.map (fun e => (e.1, { e.2 with blocks := [], copy := [] }))
    stw := { s.stw with fw := none } }

/-- An attempt ends with an image code: the other slot once, then a halt (03 R95). -/
def imageFail (s : State) (c : Nat) : State :=
  if s.boot.second then s.halt c
  else
    let t := s.discardRecords
    { t with boot := { t.boot with state := .imageFetch, second := true, slot := 1 - t.boot.slot, code := c } }

/-- The image being loaded. -/
def img (s : State) : Image :=
  s.boot.img.getD { slot := 0, header := [], sig := [], dirBytes := [], entries := [] }

/-! ### KEY_UNSEAL (03 R113; 12 R458, R463, R476; 15 R546) -/

/-- A key derived from the root (12 R457, R458). -/
def rootKey (s : State) (label : String) (context : Bytes) (l : Nat) : Bytes :=
  Crypto.kdf s.lev.rootBytes (Crypto.ascii label) context l

/-- DIE_ID as bytes (12 R458). -/
def dieId : Bytes := dieIdBytes

/-- The DRBG comes to stand, and from it the scrambling and check keys (12 R474, R475). -/
def startDrbg (s : State) : State :=
  let (scramble, t) := s.seedDrbg.draw 32
  let (check, t) := t.draw 32
  { t with key := { t.key with scramble := scramble, check := check, healthFail := false } }

/-- A key put into a new cell, which the key unit takes as `put` says (12 R474). -/
def keyInCell (s : State) (key : Bytes) (put : Key → Cell → Key) : State :=
  let r := s.newCell key
  { r.2 with key := put r.2.key r.1 }

/-- The device and boot keys derived into their cells (12 R458; 15 R546). -/
def deriveKeys (s : State) : State :=
  let ctx := dieId ++ beBytes 32 (Config.noise s.fresh.1).toNat
  let t := s.fresh.2.startDrbg
  let t := t.keyInCell (s.rootKey "TYJ DEVICE TRANSPORT" dieId 256) (fun k c => { k with dtk := some c })
  let t := t.keyInCell (s.rootKey "TYJ ATTEST" dieId 384) (fun k c => { k with ak := some c })
  let t := t.keyInCell (s.rootKey "TYJ UNLOCK" dieId 384) (fun k c => { k with uk := some c })
  let t := t.keyInCell (s.rootKey "TYJ SEAL DATA" ctx 256) (fun k c => { k with k1 := some c })
  let t := t.keyInCell (s.rootKey "TYJ SEAL TWEAK" ctx 256) (fun k c => { k with k2 := some c })
  t.keyInCell (s.rootKey "TYJ SEAL TAG" ctx 256) (fun k c => { k with kt := some c })

/-- A KEY_IMPORT body opened under DTK for its slot, with what a failed cell does (12 R462, R463, R474). -/
def openImport (s : State) (slot : Nat) (b : Bytes) : Option (Bytes × Nat) × State :=
  match s.key.dtk with
  | none => (none, s)
  | some c =>
    match s.fetch c false with
    | none => (none, s.deviceFault)
    | some k => (KeyImport.openBody k b slot (s.devNumber.getD 0), s)

/-- One KEY_IMPORT body put into its slot at DEPTH 0 and GENERATION 1, or the slot left invalid
(03 R113, 12 R464). -/
def importKey (s : State) (slot : Nat) (b : Bytes) : State :=
  match s.openImport slot b with
  | (none, s) => { s with boot := { s.boot with keyImportFail := true } }
  | (some (key, usage), s) =>
    let (c, s) := s.newCell key
    { s with
      boot := { s.boot with imported := slot :: s.boot.imported }
      key := { (s.key.setSlot slot { Domain.empty with key := some c, gen := 1, usage := usage }) with digestPending := true } }

/-- Whether a tamper alarm aborted import `k` of `n` (03 R120). -/
def unsealAborted (s : State) (n k : Nat) : Bool := s.boot.aborts.any (fun i => decide (Config.unsealing i n = k))

/-- KEY_UNSEAL's work after CHANNEL_POLICY, over the KEY_IMPORT bodies: an aborted import leaves its slot
invalid (03 R120). -/
def unsealKeys (s : State) (katOk : Bool) (ks : List (Nat × Bytes)) : State :=
  let t := if katOk then
      ks.zipIdx.foldl (fun t k => if s.unsealAborted ks.length k.2 then t else t.importKey k.1.1 k.1.2) s.deriveKeys
    else ({ s with boot := { s.boot with keyImportFail := true } }).cause Reg.keyEvent 5 197 4
  { (t.toBoot .hbmTrain) with key := { t.key with digestPending := true } }

/-! ### LANE_BRINGUP (03 R88, R112; 02 R81) -/

/-- The records of LANE_BRINGUP, or the code of the one that fails; none where no table serves the
board. -/
def laneRecords (s : State) : Except Nat (Bytes × Option Bytes) :=
  match s.img.single s.flash 3 with
  | .error c => .error c
  | .ok p =>
    match (s.img.ofType 2).find? (fun e => decide (e.inst = s.pwr.boardId)) with
    | none => if PortPolicy.ok p (fun _ => true) then .ok (p, none) else .error 0x86
    | some e =>
      match s.img.body s.flash e with
      | .error c => .error c
      | .ok q =>
        let t := { s with pairs := PortPolicy.pairs p }
        if Equalisation.ok q s.pwr.boardId t.laneTrunk && PortPolicy.ok p (Equalisation.present q) then .ok (p, some q)
        else .error 0x86

/-- LANE_BRINGUP is entered: policy and table loaded, a side without reference removed. -/
def enterLanes (s : State) : State :=
  match s.laneRecords with
  | .error c => (s.toBoot .laneBringup).imageFail c
  | .ok (p, q) =>
    let t := { s with portPolicy := p, pairs := PortPolicy.pairs p,
                      key := { s.key with digestPending := true } }
    let t := t.toBoot .laneBringup
    let t := match q with
      | some b => t.takeEqualisation b
      | none => (List.range 66).foldl (fun t l => t.dozeLane l) { t with boot := { t.boot with noTable := true } }
    let t := if t.pwr.hostRef then t else t.sideLost .host
    if t.pwr.lineRef then t else t.sideLost .line

/-- Whether every kept lane with a running reference is ACTIVE (03 R88), on both sides. A lane whose PRESENT flag is
clear stays in DOZE while the image is in force (04 R147) and is not among those brought up (log entry 31). -/
def lanesReady (s : State) : Bool :=
  (List.range 64).all (fun l =>
    let n := s.lane l
    !n.present || decide (lanesKept s.shedLevel ≤ laneIdx l) ||
      !s.sideRef l || decide (n.stage = .active))

/-! ### ENGINES_LOAD (03 R109–R111; 08 R333; 09 R365) -/

/-- The TABLE_SEED records loaded, with their aging limits (09 R365). -/
def loadSeeds (s : State) (l : List (Nat × Bytes)) : Option State :=
  l.foldl (fun acc e =>
    match acc with
    | none => none
    | some t =>
      match Seed.load t.lkp e.1 e.2 t.stamp with
      | none => none
      | some k => some ({ t with lkp := k }.setReg (0x0801004 + 8 * e.1) (BitVec.ofNat 32 (leAt e.2 12 2 * 65536)))) (some s)

/-- The record that serves a polder: its own, or that of every other (03 R109). -/
def programOf (l : List (Nat × Bytes)) (p : Nat) : Option Bytes :=
  match l.find? (fun e => decide (e.1 = p)) with
  | some e => some e.2
  | none => (l.find? (fun e => decide (e.1 = 0xFFFF))).map Prod.snd

/-- The entry addresses that RUN results of a RULE_SET name (07 R270; 08 R333). -/
def runTargets (b : Bytes) : List Nat :=
  ((RuleSet.tcamOf b false 0 ++ RuleSet.tcamOf b true 0).filter (fun e => decide (field e.2.result.toNat 23 2 = 0))).map
    (fun e => field e.2.result.toNat 50 14)

/-- The ACTION_PROGRAM records pass 03 R109 and 08 R332, R333 beside a RULE_SET. -/
def programsOk (s : State) (l : List (Nat × Bytes)) (ensign : Nat) (rules : Bytes) : Bool :=
  !l.isEmpty && l.all (fun e => decide (e.1 < 32 ∨ e.1 = 0xFFFF)) &&
    (List.range 32).all (fun p => (programOf l p).isSome) &&
    l.all (fun e => Program.ok s.lkp.inHbm e.2 && decide (leAt e.2 2 2 = ensign) &&
      decide (Program.entries e.2 = Program.entries (l.headD (0, [])).2)) &&
    (runTargets rules).all (fun a => (Program.entries (l.headD (0, [])).2).any (fun e => decide (e.addr = a)))

/-- The blocks of every polder from its record; one out of service has them in the steward's copy (08 R337). -/
def loadPrograms (s : State) (l : List (Nat × Bytes)) (bit : Nat) : State :=
  (List.range 32).foldl (fun t p =>
    match programOf l p with
    | some b => t.setPolder p ((t.polder p).edit (fun _ => Program.blocks b bit))
    | none => t) s

/-- The records of ENGINES_LOAD loaded and checked, in the order of 03 R108's table (log entry 25). An INSTANCE out of the
table's range gives 0x86, for which the spec gives no code (DESIGN CHOICE, log entry 103). -/
def loadEngines (s : State) : Except Nat State :=
  let i := s.img
  match i.bodies s.flash 7, i.bodies s.flash 6, i.bodies s.flash 5, i.optional s.flash 9 with
  | .error c, _, _, _ => .error c
  | _, .error c, _, _ => .error c
  | _, _, .error c, _ => .error c
  | _, _, _, .error c => .error c
  | .ok seeds, .ok rules, .ok progs, .ok time =>
    match s.loadSeeds seeds, rules with
    | some t, [(n, rb)] =>
      if n < 4096 ∧ RuleSet.ok n rb ∧ t.programsOk progs n rb ∧ (time.map TimeConfig.ok).getD true then
        let t := { t with cls := RuleSet.load t.cls n rb }
        let t := t.setReg Reg.clsControl (BitVec.ofNat 32 (leAt rb 12 2))
        .ok ((t.loadPrograms progs 1).takeTimeConfig time (!s.boot.warm))
      else .error 0x86
    | _, _ => .error 0x86

/-- The minimum security version raised where the running image says so (03 R104, 12 R479). -/
def raiseMinSv (s : State) : State :=
  let h := (s.run.map (fun i => i.header)).getD []
  if Image.raises h ∧ s.lev.minSv < Image.security h then
    { s with lev := ({ s.lev with minSv := Image.security h }).write 10 0 (!s.fed) (Image.security h % 256) }
  else s

/-- RUN is reached: the steward serves and the held raises are delivered in order (03 R94, R125). -/
def enterRun (s : State) : State :=
  let b := s.boot
  let t := { s with
    run := b.img
    boot := { b with state := .run, code := 0, altSlotUsed := b.second, timeMs := (s.now - b.timeStart) / 1250000, img := none }
    stw := { s.stw with up := true, restarting := false, halted := false }
    evt := { s.evt with held := [] } }
  let t := t.raiseMinSv
  (s.evt.held.foldl (fun t e => t.deliver e.source e.cause e.cls e.time false true e.unit) t).settle

/-- Bring-up restarts at LEVEE_CHECK after an unlock (03 R117); one that halted in POWER_OK goes on to it when the
conditions of 02 R80 hold. CODE stays until RUN or another halt (R125). -/
def restartBoot (s : State) : State :=
  let t := s.discardRecords
  let st : BootState := if s.boot.state = .powerOk then .powerOk else .leveeCheck
  { t with boot := { t.boot with state := st, halted := false, second := false, timeStart := s.now } }

/-! ### Wardens at the end of POWER_OK (16 R654) -/

/-- A warden fails: removed with WARDEN_REMOVED, C3. -/
def wardenOut (s : State) (w : Warden) : State :=
  let d := s.wrd
  let d := match w with
    | .a => { d with stateA := .removed }
    | .b => { d with stateB := .removed }
  ({ s with wrd := d }).cause Reg.wrdEvent 1 232 3

/-- The wardens' first self-checks. -/
def firstWardens (s : State) (aOk bOk : Bool) : State :=
  let take := fun (t : State) (w : Warden) =>
    { t with wrd := { t.wrd with holder := some w, lastHolder := some w, leaseFrom := t.now, lastReport := t.now } }
  let t := if aOk then take s .a else s.wardenOut .a
  if bOk then (if aOk then t else take t .b)
  else
    let t := t.wardenOut .b
    if aOk then t else t.cause Reg.wrdEvent 4 233 4

end State

/-! ### The commands -/

/-- POWER_OK_EXIT (02 R78, R80; 14 R515; 16 R654): BOARD_ID is sampled, the counter starts. `rails` says that
every internal rail is in regulation, `porHigh` that POR_N is deasserted. -/
def execPowerOkExit (board : Fin 16) (aOk bOk : Bool) (s : State) (rails porHigh : Bool := true) : Out :=
  if s.booting .powerOk ∧ s.fed ∧ rails ∧ s.pwr.sysOk ∧ porHigh ∧ s.evt.c4.isNone then
    let t := { s with
      now := 0
      clockOn := true
      pwr := { s.pwr with boardId := board.val, por := false, xt32 := s.lev.xt32 }
      boot := { s.boot with state := .leveeCheck, timeStart := 0 } }
    .next (t.firstWardens aOk bOk)
  else .next s

/-- Whether the vault check fails as LEVEE_CHECK recomputes it (12 R477); `upset` says that the vault reads back
damaged. -/
def State.vaultBad (s : State) (upset : Bool) : Bool :=
  match s.lev.root with
  | none => false
  | some v => upset || !v.sound

/-- LEVEE_CHECK_DONE (03 R95, R114, R116, R122; 12 R477): `upset` says that the vault reads back damaged. -/
def execLeveeCheckDone (s : State) (upset : Bool := false) : Out :=
  if s.booting .leveeCheck then
    let t := { s with devNumber := some s.lev.device, lev := { s.lev with bad := s.vaultBad upset } }
    if t.vaultValid = false then
      .next (t.halt s.noRootCode)
    else if s.lev.locked then .next (t.halt 0x89)
    else .next { t with boot := { t.boot with state := .imageFetch, slot := s.lev.prefSlot, tries := 0 } }
  else .next s

/-- IMAGE_FETCH_DONE (03 R100). -/
def execImageFetchDone (s : State) : Out :=
  if s.booting .imageFetch then
    let i := Image.fetch s.flash s.boot.slot
    let t := { s with boot := { s.boot with img := some i, tries := 0 } }
    if Image.headerOk i.header then .next (t.toBoot .imageAuth) else .next (t.imageFail 0x81)
  else .next s

/-- FLASH_READ_TIMEOUT (03 R97): the read at a flash address is retried three times, then code 0x80. -/
def execFlashReadTimeout (s : State) (addr : BitVec 27 := 0) : Out :=
  if s.boot.halted = false ∧ 2 ≤ s.boot.state.code ∧ s.boot.state.code ≤ 7 then
    let n := if s.boot.tryAt = addr.toNat then s.boot.tries else 0
    if n < 3 then .next { s with boot := { s.boot with tries := n + 1, tryAt := addr.toNat } }
    else .next ({ s with boot := { s.boot with tries := 0 } }.imageFail 0x80)
  else .next s

/-- IMAGE_AUTH_DONE (03 R102, R106–R108). -/
def execImageAuthDone (s : State) : Out :=
  if s.booting .imageAuth then
    let i := s.img
    match Image.auth i s.lev.minSv with
    | some c => .next (s.imageFail c)
    | none =>
      let j := { i with entries := Image.kept i.header i.dirBytes }
      .next { s with run := some j, boot := { s.boot with state := .keyUnseal, img := some j, tries := 0, aborts := [] } }
  else .next s

/-- KEY_UNSEAL_DONE (03 R113; 12 R463, R476; 15 R546). A KEY_IMPORT INSTANCE out of range gives 0x86 (DESIGN CHOICE, log entry
103). -/
def execKeyUnsealDone (katOk nonceOk : Bool) (s : State) : Out :=
  if s.booting .keyUnseal then
    match s.img.single s.flash 4, s.img.bodies s.flash 8 with
    | .error c, _ => .next (s.imageFail c)
    | _, .error c => .next (s.imageFail c)
    | .ok pol, .ok ks =>
      if ChannelPolicy.ok pol = false ∨ ks.any (fun k => decide (1024 ≤ k.1)) then .next (s.imageFail 0x86)
      else if katOk && !nonceOk then .next (s.halt 0x8B)
      else .next ((s.takeChannelPolicy pol).unsealKeys katOk ks)
  else .next s

/-- HBM_TRAIN_DONE (03 R115; 15 R541; 19 R638): `ok` says which pseudo-channels trained. -/
def execHbmTrainDone (ok : BitVec 16) (s : State) : Out :=
  if s.booting .hbmTrain then
    if ok ≠ 0xFFFF ∧ s.boot.hbmTrained = false then
      .next (({ s with hbm := { s.hbm with st := .failed, pcOk := ok.toNat } }).halt 0x87)
    else
      let t := { s with
        hbm := { s.hbm with st := .active, pcOk := 0xFFFF, sealed_ := [], tags := [] }
        boot := { s.boot with hbmTrained := true } }
      match s.img.single s.flash 1 with
      | .error c => .next (t.imageFail c)
      | .ok b =>
        if Firmware.ok b then
          .next ({ t with stw := { t.stw with fw := some (leAt b 8 8, leAt b 8 8 + leAt b 16 8) } }.enterLanes)
        else .next (t.imageFail 0x86)
  else .next s

/-- LANE_BRINGUP_DONE (03 R88). -/
def execLaneBringupDone (s : State) : Out :=
  if s.booting .laneBringup ∧ s.lanesReady then .next (s.toBoot .enginesLoad) else .next s

/-- LANE_BRINGUP_TIMEOUT (03 R88): LANES_INCOMPLETE, no halt. -/
def execLaneBringupTimeout (s : State) : Out :=
  if s.booting .laneBringup then
    let t := { s with boot := { s.boot with lanesIncomplete := s.boot.lanesIncomplete || !s.lanesReady } }
    .next (t.toBoot .enginesLoad)
  else .next s

/-- ENGINES_LOAD_DONE (03 R94, R104, R109–R111, R126): `bad` marks the polders whose store failed its
read-back check. -/
def execEnginesLoadDone (bad : BitVec 32) (s : State) : Out :=
  if s.booting .enginesLoad then
    match s.loadEngines with
    | .error c => .next (s.imageFail c)
    | .ok t =>
      let l := ones bad.toNat 32
      let t := { t with boot := { t.boot with badPolders := l, programFault := t.boot.programFault || !l.isEmpty } }
      .next ((l.foldl (fun t p => t.removePolder p) t).enterRun)
  else .next s

/-- BRINGUP_STATE_TIMEOUT (03 R87): POWER_OK and RUN have no maximum, and LANE_BRINGUP ends under
R88. -/
def execBringupStateTimeout (s : State) : Out :=
  if s.boot.halted ∨ s.boot.state = .powerOk ∨ s.boot.state = .laneBringup ∨ s.boot.state = .run then .next s
  else .next (s.halt 0x8B)

end Sys2Proof.Machine
end

