-- ==== Sys2Proof/Machine/Ports.lean ====
section
/-! DEFINITION. The port layer's commands: frames that arrive and end, the state of a port's PCS, and
the registers of a port window (05 R177–R202; 06 R207, R254). -/

namespace Sys2Proof.Machine
open Sys2Proof.Bits

namespace Frame

/-- A trunk frame. -/
def isTrunk (f : Frame) : Bool := f.trunk.isSome

/-- A trunk CLEAR frame. -/
def isClear (f : Frame) : Bool :=
  match f.trunk with
  | some h => decide (h.typ = 5)
  | none => false

end Frame

namespace State

/-- A board delay of a line lane (14 R528): signed, transmit or receive. -/
def laneBoard (s : State) (n : Nat) (rx : Bool) : Int :=
  signed 32 (s.regN (Reg.timLane + 16 * n + (if rx then 0xC else 0x8)))

/-- What a line lane adds to a PCS time (14 R525). -/
def laneDelay (s : State) (n : Nat) (rx : Bool) : Int := s.laneInternal n rx + s.laneBoard n rx

/-- What the line coding has added to the arrival of a trunk frame's header, whose word is payload word `j` of a block of
lane `k`: the words after a marker and its fill words wait less the later they come (04 R155, R161; 06 R207; log entry
96). -/
def codingIn (s : State) (p k j : Nat) : Int :=
  let r := (s.lane (32 + p + k)).rx
  Ndoath.symbolTime (Ndoath.coding r.fill r.debt 0 - Ndoath.coding r.fill r.debt j)

/-- The counter value of an arrival (05 R193, R194; 06 R207; 14 R524, R525): `lane` is the lane within the port that
carried it, `word` its place in the lane's block on a trunk port. -/
def arrivalCount (s : State) (p : Nat) (dec : Bool) (phase lane word : Nat) : Int :=
  let pcs : Int := s.count + phase
  let k := lane % (max 1 (s.pair p).width)
  if dec then pcs - s.laneDelay (p + k) true - (if (s.pair p).mode = .trunk then s.codingIn p k word else 0) else pcs

/-- A frame as it arrives, its ensign that of the CURRENT slot (07 R282). -/
def arriving (s : State) (p : Nat) (dec : Bool) (wire : Bytes) (trunk : Option TrunkHdr) (phase : Nat)
    (count : Int) : Frame :=
  { pair := p, dec := dec, seq := 0, phase := phase, wire := wire, trunk := trunk, arrival := s.now, count := count,
    tbase := none, slot := (s.cls.theSlot .current).getD 0, ensign := s.ensign, tag := 0, sampled := false,
    rx := .arriving, stage := .arriving, verdict := none, reason := 0, program := 0, meta_ := [], sectag := none,
    bounded := false, far := false, bind := none, circuit := none, waited := 0, hold := 0, cipherAt := 0,
    out := none, blocks := 0, depart := none, injected := false, cnts := [], head := [] }

/-- A frame joins the frames of the module under the next number. -/
def addFrame (s : State) (f : Frame) : State :=
  { s.setFrame s.nextFrame f with nextFrame := s.nextFrame + 1 }

/-- A frame counted by the performance monitor at its pair (18 R606). -/
def pairEvent (s : State) (p ev : Nat) : State := s.pmuCount 1 p ev 1

/-- The longest frame a port receives (05 R183). -/
def rxLimit (s : State) (p : Nat) (dec : Bool) : Nat :=
  let e := s.pair p
  if dec && decide (e.mode = .line ∨ e.mode = .tunnel) then e.maxFrame + e.expansion else e.maxFrame

/-- The counter of the reason for which the port layer discards an Ethernet frame, the first of 05 R185
that applies; `served` says that the pair is in service. -/
def discard (s : State) (f : Frame) (errored served : Bool) : Option Nat :=
  let n := f.wire.length
  if n < 64 then some 0x68
  else if errored ∨ fcs (f.wire.take (n - 4)) ≠ f.wire.drop (n - 4) then some 0x60
  else if s.rxLimit f.pair f.dec < n then some 0x70
  else if beAt f.wire 12 2 = 0x8808 then some 0x78
  else if served then none
  else some 0x80

/-- Bytes of a frame from window byte 0 on, FCS and PAD left out (07 R259). -/
def unframed (f : Frame) : Bytes :=
  match f.trunk with
  | none => f.wire.take (f.wire.length - 4)
  | some h => if h.typ = 5 then slice f.wire 6 h.len else f.wire.take (6 + h.len)

/-- Whether an Ethernet frame that entered on the line side carries an ICV: every frame of a tunnel pair,
and a frame of a line pair whose EtherType is that of a SecTAG (DEDUCED: the window never includes an ICV,
07 R259, and a line-mode ICV comes with a SecTAG, 05 R190). -/
def hasIcv (s : State) (f : Frame) : Bool :=
  match f.trunk with
  | some h => decide (h.typ ≠ 5)
  | none => f.dec && (decide ((s.pair f.pair).mode = .tunnel) ||
      decide ((s.pair f.pair).mode = .line ∧ beAt f.wire 12 2 = 0x88E5))

/-- The bytes of a frame the classifier and its program see, FCS, ICV and PAD left out (07 R259,
08 R312). -/
def seen (s : State) (f : Frame) : Bytes :=
  let b := unframed f
  if s.hasIcv f then b.take (b.length - 16) else b

/-- FRAME_LEN of a frame whose length is known (08 R312). -/
def winLen (s : State) (f : Frame) : Nat := (s.seen f).length

/-- The octets of a frame that has fully arrived added to the count entries that wait for them
(08 R322). -/
def addOctets (s : State) (f : Frame) : State :=
  let n := s.winLen f
  { s with counts := f.cnts.foldl (fun t i =>
      Tab.upd (fun _ => CountEntry.zero) t i (fun e => { e with octets := e.octets + BitVec.ofNat 64 n })) s.counts }

/-- What a trunk frame's header and payload say (06 R208, R216, R249). -/
def trunkHdrOf (s : State) (p : Nat) (b : Bytes) (errored : Bool) : TrunkHdr :=
  let t := Ndoath.typ b
  let body := b.drop 6
  { typ := t, an := Ndoath.an b, len := Ndoath.len b, pad := Ndoath.pad b
    chan := if t = 5 then 0 else beAt body 0 3
    pn := if t = 5 then 0 else beAt body 3 7
    circuit := if t = 2 then beAt body 10 4 / 2 ^ 20 else 0
    seq := if t = 2 then beAt body 10 4 % 65536 else 0
    peer := s.peerDev p
    errored := errored }

/-- A frame of a trunk port reaches the module (06 R207, R249, R254), its header carried by a lane and a word of its block:
`errored` says that its block was errored. -/
def trunkArrive (s : State) (p phase lane word : Nat) (b : Bytes) (errored : Bool) : State :=
  if s.pairInService p then
    let f := s.arriving p true b (some (s.trunkHdrOf p b errored)) phase (s.arrivalCount p true phase lane word)
    let f := { f with rx := .good }
    ((s.addFrame f).bump (Reg.framer p + 0x88)).pairEvent p 1
  else s.bump (Reg.framer p + 0xF8)

/-- A diverted frame handed to its steward queue (08 R323); a classifier's DIVERT names none, so it goes
to queue 0 with reason 0. Queues whose steward does not serve keep it. -/
def toSteward (s : State) (id : Nat) (f : Frame) : State :=
  let q := field (leAt f.meta_ 76 1) 0 3
  let d : Diverted := { pair := f.pair, dec := f.dec, code := f.reason, tag := beAt f.meta_ 78 2, bytes := unframed f }
  let s := s.delFrame id f
  { s with
    stw := { s.stw with queues := Tab.ins s.stw.queues q (Tab.get (fun _ => []) s.stw.queues q ++ [d]) } }

/-- A frame that only waited for its end before going to the steward. -/
def awaitsSteward (f : Frame) : Bool := decide (f.stage = .decided ∧ f.verdict = some .divert)

/-- A port whose line side is trunk framing has no Ethernet port there. -/
def isEther (s : State) (line : Bool) (n : Nat) : Bool :=
  decide ((s.pair n).mode ≠ .none) && !(line && decide ((s.pair n).mode = .trunk))

/-- The longest output of an Ethernet line port (05 R186). -/
def txLimit (s : State) (p : Nat) : Nat := (s.pair p).maxFrame + (s.pair p).expansion

/-- A port's transmitter is looped to its own receiver: by PCS_LOOP, or by NEAR_LOOP on every lane (04 R173, 05 R201). -/
def portLooped (s : State) (line : Bool) (n : Nat) : Bool :=
  decide (s.regField (Reg.port line n + 0x08) 0 1 = 1) || (!(s.portLanes line n).isEmpty && (s.portLanes line n).all s.nearLoop)

/-- The next frame a port receives: of a looped port, the next of its own outputs. -/
def received (s : State) (line : Bool) (n : Nat) (bytes : Bytes) : Bytes × State :=
  if s.portLooped line n then
    let p := s.port line n
    let sent := (s.portOut line n).sent
    match (sent.take (sent.length - p.looped)).getLast? with
    | none => ([], s)
    | some o => (o.bytes, s.setPort line n { p with looped := p.looped + 1 })
  else (bytes, s)

/-- The codewords the FEC corrected and could not correct while a frame arrived, and the symbols it corrected (05 R179,
R202). -/
def fecCount (s : State) (f : Frame) (fec : Nat × Nat × Nat) : State :=
  let w := Reg.port f.dec f.pair
  if f.isTrunk then s else ((s.add (w + 0xA8) fec.1).add (w + 0xB0) fec.2.1).add (w + 0xB8) fec.2.2

/-- The output last begun on a pair's Ethernet line port is longer than its limit (05 R186). -/
def tooLong (s : State) (p : Nat) : Bool :=
  s.isEther true p && (match (s.portOut true p).sent.head? with
    | some o => !o.stomped && decide (s.txLimit p < o.bytes.length)
    | none => false)

end State

/-- FRAME_ARRIVAL (05 R193, R201; 06 R207): an Ethernet frame's start passes the PCS, or a trunk frame, given with the
lane and word of its header or passed on by the framer, leaves it. -/
def execFrameArrival (p : Fin 32) (dec : Bool) (phase : Nat) (lane : Fin 8) (bytes : Bytes) (s : State) (word : Fin 16375 := 0) : Out :=
  let up := !(s.portLanes dec p.val).isEmpty &&
    (s.portLanes dec p.val).all (fun l => decide ((s.lane l).stage = .active))
  if s.clockOn = false ∨ up = false then .next s
  else if s.isEther dec p.val then
    let (b, t) := s.received dec p.val bytes
    if (s.port dec p.val).pcsLock = false ∨ b.isEmpty then .next s
    else
      let f := t.arriving p.val dec b none phase (t.arrivalCount p.val dec phase lane.val word.val)
      .next ((t.addFrame f).pairEvent p.val (b2n dec))
  else if bytes.isEmpty then
    match s.takePassed p.val [1, 2, 5] with
    | none => .next s
    | some (q, t) =>
      let (k, j) := Ndoath.wordAt (t.pair p.val).width q.2.1
      .next (t.trunkArrive p.val phase k j q.2.2 q.1)
  else if (s.framer p.val).sync = .sync ∧ 6 ≤ bytes.length ∧ Ndoath.size bytes = bytes.length ∧
      16 ≤ Ndoath.len bytes ∧ (Ndoath.typ bytes = 1 ∨ Ndoath.typ bytes = 2 ∨ Ndoath.typ bytes = 5) then
    match s.byType p.val bytes with
    | some none => .next (s.trunkArrive p.val phase lane.val word.val bytes false)
    | some (some c) => .next (s.bump c)
    | none => .next s
  else .next s

/-- PORT_FRAME_RX (05 R179, R185, R186, R202; 08 R322; 11 R444): the reception of a frame ends; a codeword its FEC could
not correct leaves its blocks errored. -/
def execPortFrameRx (id : Nat) (errored : Bool) (s : State) (fec : Nat × Nat × Nat := (0, 0, 0)) : Out :=
  match s.frame id with
  | none => .next s
  | some f =>
    if f.receiving = false then .next s
    else
      let w := Reg.port f.dec f.pair
      let served := decide (f.stage = .gone) || (s.pairInService f.pair && decide (f.rx = .arriving))
      let t := (s.fecCount f fec).addOctets f
      match s.discard f (errored || decide (0 < fec.2.1)) served with
      | some c =>
        if f.stage ≠ .gone then .next ((t.setFrame id { f with rx := .bad, cnts := [] }).dropFrame id (w + c))
        else .next (t.delFrame id f)
      | none =>
        let t := (t.bump (w + 0x40)).add (w + 0x48) f.wire.length
        if f.stage = .leaving ∧ t.tooLong f.pair then
          .next ((t.setFrame id { f with rx := .good, cnts := [] }).dropFrame id (w + 0xA0))
        else if f.stage = .gone ∨ f.stage = .leaving then .next (t.delFrame id f)
        else if State.awaitsSteward f then .next (t.toSteward id f)
        else .next (t.setFrame id { f with rx := .good, cnts := [] })

/-- PCS_LOCK_CHANGE (05 R187): locks are gained only over lanes that are all ACTIVE. -/
def execPcsLockChange (d : Side) (n : Fin 32) (pcs fec : Bool) (s : State) : Out :=
  let line := decide (d = .line)
  if s.isEther line n.val then
    let up := (s.portLanes line n.val).all (fun l => decide ((s.lane l).stage = .active))
    let t := s.setPort line n.val { s.port line n.val with pcsLock := pcs && up, fecLock := fec && up }
    .next ((t.portFollow line n.val true).settle)
  else .next s

/-- Whether fault sequences of the far end reach a port: its lanes are all ACTIVE and its receiver is not looped. -/
def State.hearsFaults (s : State) (line : Bool) (n : Nat) : Bool :=
  s.isEther line n && (s.portLanes line n).all (fun l => decide ((s.lane l).stage = .active)) && !s.portLooped line n

/-- LOCAL_FAULT_RX (05 R187, R188, R200): local fault begins or ends to be received. -/
def execLocalFaultRx (d : Side) (n : Fin 32) (on : Bool) (s : State) : Out :=
  let line := decide (d = .line)
  let p := s.port line n.val
  if s.hearsFaults line n.val then
    let t := s.setPort line n.val { p with localFault := on }
    let t := if on && !p.localFault then t.portCause line n.val 2 1 else t
    .next ((t.portFollow line n.val true).settle)
  else .next s

/-- REMOTE_FAULT_RX (05 R187, R200): remote fault begins or ends to be received. -/
def execRemoteFaultRx (d : Side) (n : Fin 32) (on : Bool) (s : State) : Out :=
  let line := decide (d = .line)
  let p := s.port line n.val
  if s.hearsFaults line n.val then
    let t := s.setPort line n.val { p with remoteFault := on }
    let t := if on && !p.remoteFault then t.portCause line n.val 3 1 else t
    .next ((t.portFollow line n.val true).settle)
  else .next s

/-- HI_SER (05 R200). -/
def execHiSer (d : Side) (n : Fin 32) (s : State) : Out :=
  let line := decide (d = .line)
  if s.isEther line n.val then .next (s.portCause line n.val 4 1) else .next s

/-- PORT_CLR_COUNTS (05 R201). -/
def execPortClrCounts (d : Side) (n : Fin 32) (s : State) : Out :=
  let a := Reg.port (decide (d = .line)) n.val
  .next (s.wr .pf0 (a + 0x08) (fun s => if s.hidden (a + 0x08) then s else s.clearCounts (a + 0x08)))

/-- A write of PRT_CONTROL: a change of PCS_LOOP loops the outputs sent from now on (05 R201). -/
def State.portWrite (s : State) (line : Bool) (n : Nat) (v : Word) : State :=
  let a := Reg.port line n + 0x08
  let t := s.storeReg a v
  let t := if t.reg a = s.reg a then t else t.loopFrom line n
  if v.getLsbD 8 then t.clearCounts a else t

/-- PCS_LOOP_WRITE (05 R201, 17 R596). -/
def execPcsLoopWrite (r : Req) (d : Side) (n : Fin 32) (v : Word) (s : State) : Out :=
  let line := decide (d = .line)
  let a := Reg.port line n.val + 0x08
  .next (s.wr r a (fun s => if s.hidden a then s else s.portWrite line n.val v))

/-- COUNTER_LO_READ (05 R202, 17 R591): a LO half read, and its HI half latched for the requester. -/
def execCounterLoRead (r : Req) (addr : Nat) (s : State) : Out :=
  if (s.pairValue addr).isSome then .next (s.rd r addr) else .next s

end Sys2Proof.Machine
end

