-- ==== Sys2Proof/Machine/Classify.lean ====
section
/-! DEFINITION. The classifier's commands: the hand-off of a frame, ensigns, accesses to its stores and
its scrubber (07 R257–R295). -/

namespace Sys2Proof.Machine
open Sys2Proof.Bits

/-- What the classifier found of a frame before its TCAM: the parse, the patterns, the follow class and
the key. -/
structure Found where
  parsed : Parsed
  hits : List (Nat × Nat × Nat)
  flags : Nat
  followClass : Nat
  key : BitVec 640
deriving DecidableEq, Repr

namespace ParseFail

/-- The PF_ counter of a reason (07 R266, R295). -/
def ctr : ParseFail → Nat
  | .truncated => 0x78
  | .badLength => 0x80
  | .hopLimit => 0x88
  | .failNode => 0x90
  | .sectag => 0x98
  | .role => 0xA0
  | .nodeParity => 0xA8

end ParseFail

namespace State

/-! ### Events and captures (07 R288, R292) -/

/-- A cause of the classifier. -/
def clsCause (s : State) (bit cls : Nat) : State := s.cause Reg.clsEvent bit (96 + bit) cls

/-- An error captured in CLS_PARITY. -/
def clsCapture (s : State) (store slot index : Nat) : State :=
  s.capture Reg.clsParity [(store, 27, 3), (slot, 24, 2), (index, 0, 15)]

/-! ### Errors found (07 R288) -/

/-- A parity error in a TCAM entry. -/
def tcamBad (s : State) (dec : Bool) (i : Nat) : State :=
  let t := { s with cls := s.cls.updTcam dec i (fun e => { e with disabled := true }) }
  (t.clsCapture (b2n dec) 0 i).clsCause 3 1

/-- A double-bit error in a result word: as a TCAM error. -/
def resultBad (s : State) (dec : Bool) (i : Nat) : State :=
  let t := { s with cls := s.cls.updTcam dec i (fun e => { e with disabled := true }) }
  (t.clsCapture (b2n dec) 0 i).clsCause 4 1

/-- A single-bit error in a result word, corrected. -/
def resultFixed (s : State) (dec : Bool) (i : Nat) : State :=
  (s.clsCapture (b2n dec) 0 i).bump (clsCtr dec 0xB0)

/-- A parity error in a parse node. -/
def nodeBad (s : State) (slot : Nat) (dec : Bool) (n : Nat) : State :=
  let sl := s.cls.slot slot
  let k := Cls.faultyKey dec n
  let t := { s with cls := s.cls.setSlot slot { sl with
    faulty := if sl.faulty.contains k then sl.faulty else k :: sl.faulty } }
  (t.clsCapture (3 + b2n dec) slot n).clsCause 5 1

/-- A parity error in a pattern. -/
def patternBad (s : State) (i : Nat) : State :=
  let t := { s with cls := s.cls.updPattern i (fun p => { p with disabled := true }) }
  (t.clsCapture 2 0 i).clsCause 6 1

/-- A parity error in a fragment-follow entry: the entry is freed. -/
def followBad (s : State) (dec : Bool) (way : Nat) : State :=
  let t := { s with cls := s.cls.setFollow dec (Tab.del (s.cls.follow dec) way) }
  (t.clsCapture (6 + b2n dec) 0 way).clsCause 7 1

/-! ### Classification (07 R257–R278) -/

/-- Bytes an Ethernet port has received by the hand-off, 96 cycles after the start-of-frame. -/
def byHandoff (w : Nat) : Nat := 960 * w

/-- Whether a frame's length is known at its hand-off (08 R312). -/
def lenKnown (s : State) (f : Frame) : Bool :=
  f.isTrunk || f.injected || decide (Rate.ceil (Rate.ether (s.pair f.pair).width f.wire.length) ≤ 96)

/-- FRAME_LEN at the hand-off (07 R267, 08 R312). -/
def handLen (s : State) (f : Frame) : Nat :=
  if s.lenKnown f then s.winLen f else max 64 (byHandoff (s.pair f.pair).width)

/-- The FOLLOW_TIMEOUT in core cycles (07 R277). -/
def followLimit (s : State) : Nat := s.regField Reg.clsControl 0 16 * 1250000

/-- The start node of a frame (07 R263). -/
def startNode (f : Frame) (pe : Bytes) : Nat :=
  if f.dec then (if f.isClear then leAt pe 6 1 else leAt pe 5 1) else leAt pe 4 1

/-- Whether a frame's window is DEEP (07 R260). -/
def deep (f : Frame) (pe : Bytes) : Bool := decide (leAt pe (if f.dec then 2 else 1) 1 = 1)

/-- A frame's window in bytes (07 R260). -/
def window (f : Frame) (pe : Bytes) : Nat := if deep f pe then 256 else 64

/-- A node of a frame's graph is faulty. -/
def nodeFaulty (s : State) (f : Frame) (n : Nat) : Bool := (s.cls.slot f.slot).faulty.contains (Cls.faultyKey f.dec n)

/-- The parse of a frame (07 R259–R266). With no header read, END_NODE and HOPS are free values. -/
def parseOf (s : State) (f : Frame) : Parsed :=
  let pe := s.cls.pairEntry f.slot f.pair
  let b := s.seen f
  let p := Parse.run (s.cls.node f.slot f.dec) (s.nodeFaulty f) b (window f pe) b.length (startNode f pe)
  if startNode f pe = 0xFF then { p with endNode := Config.noEndNode.toNat, hops := Config.noHops.toNat + 1 } else p

/-- A parity error found in the node that a frame's parse uses for a header: the node is faulty (07 R288). -/
def nodeError (s : State) (f : Frame) (err : ClsErr) : State :=
  match err with
  | .node hop =>
    let pe := s.cls.pairEntry f.slot f.pair
    let b := s.seen f
    match Parse.nodeUsed (s.cls.node f.slot f.dec) (s.nodeFaulty f) b (window f pe) b.length (startNode f pe) hop.val with
    | some n => s.nodeBad f.slot f.dec n
    | none => s
  | _ => s

/-- The look-up of a later fragment (07 R277): FOLLOW_CLASS where it hits, and the state after it. -/
def followLook (s : State) (f : Frame) (i : FragInfo) (bad : Bool) : Option Nat × State :=
  let key := followKey f.pair f.dec i
  let t := s.cls.follow f.dec
  match followWay t key with
  | none => (none, s)
  | some (way, e) =>
    if bad then (none, s.followBad f.dec way)
    else
      match followHit e f.arrival s.followLimit with
      | none => (none, s)
      | some c => (some c, { s with cls := s.cls.setFollow f.dec (Tab.ins t way { e with at_ := f.arrival }) })

/-- Whether a SecTAG's SC bit was set in the window (07 R268). DESIGN CHOICE (log entry 98): SC reads 0 where
the window does not hold it, in the length of the header (R264) too. -/
def sciSet (window : Bytes) (p : Parsed) : Bool :=
  match p.sectag with
  | some o => (window.getD (o + 2) 0).getLsbD 5
  | none => false

/-- What goes into the key beside the parse (07 R267). -/
def keyIn (s : State) (f : Frame) : KeyIn :=
  let typ := (f.trunk.map (fun h => h.typ)).getD 0
  { pair := f.pair, dec := f.dec, mode := (s.pair f.pair).mode.code
    portTag := leAt (s.cls.pairEntry f.slot f.pair) 8 2
    lengthBin := min 255 (s.handLen f / 64)
    peer := (f.trunk.map (fun h => h.peer)).getD 0
    trunkType := typ, clear := decide (typ = 5), circuit := decide (typ = 2) }

/-- Whether a parse ended in a later fragment. -/
def laterFrag (p : Parsed) : Option FragInfo :=
  match p.frag with
  | some i => if i.offset ≠ 0 then some i else none
  | none => none

/-- The key of a frame whose parse succeeded, with the follow counters (07 R267, R268, R274, R277). -/
def find (s : State) (f : Frame) (p : Parsed) (bad : Bool) : Found × State :=
  let pe := s.cls.pairEntry f.slot f.pair
  let b := s.seen f
  let hits := if deep f pe then Pattern.hits s.cls.patterns f.dec f.slot b 256 p.start else []
  let (follow, cls, t) : Option Bool × Nat × State := match laterFrag p with
    | none => (none, 0, s)
    | some i =>
      match s.followLook f i bad with
      | (some c, t) => (some true, c, t.bump (clsCtr f.dec 0x58))
      | (none, t) => (some false, 0, t.bump (clsCtr f.dec 0x60))
  let k := s.keyIn f
  let flags := keyFlags k p follow (!hits.isEmpty) (sciSet (b.take (window f pe)) p)
  let t := if hits.isEmpty then t else t.pmuCount 2 (b2n f.dec) 3 1
  ({ parsed := p, hits := hits, flags := flags, followClass := cls, key := keyOf k p flags cls hits }, t)

/-- The winning entry, errors found in it aside. -/
def win (s : State) (f : Frame) (k : BitVec 640) : Option (Nat × TcamEntry) := tcamWin (s.cls.tcam f.dec) k f.slot

/-- The match of a frame, with what is found wrong in the entry that would win (07 R269, R288). -/
def matchTcam (s : State) (f : Frame) (k : BitVec 640) (err : ClsErr) : Option (Nat × TcamEntry) × State :=
  match s.win f k, err with
  | some (i, _), .tcam =>
    let t := s.tcamBad f.dec i
    (t.win f k, t)
  | some (i, _), .resDouble =>
    let t := s.resultBad f.dec i
    (t.win f k, t)
  | some (i, e), .resSingle => (some (i, e), s.resultFixed f.dec i)
  | w, _ => (w, s)

/-- The metadata the classifier and framer write (08 R312); `r` is the result word of entry `i`. -/
def metaOf (s : State) (f : Frame) (d : Found) (i : Nat) (r : Nat) : Bytes :=
  let hit := fun k : Nat => match d.hits[k]? with
    | some h => beBytes 3 (pack [(h.1, 12, 12), (h.2.1, 8, 4), (h.2.2, 0, 8)])
    | none => zeros 3
  let groups := maskOf 16 (fun g => d.hits.any (fun h => decide (h.2.1 = g)))
  let trunk := match f.trunk with
    | some h => beBytes 2 h.peer ++ [BitVec.ofNat 8 (h.typ * 16 + h.an * 4), 0] ++ beBytes 3 h.chan ++ beBytes 7 h.pn ++
        beBytes 2 h.circuit ++ beBytes 2 h.seq
    | none => zeros 18
  beBytes 2 (pack [(f.slot, 12, 2), (f.ensign, 0, 12)]) ++ [BitVec.ofNat 8 f.pair,
    BitVec.ofNat 8 (pack [(b2n f.dec, 7, 1), ((s.pair f.pair).mode.code, 5, 2), (b2n (s.lenKnown f), 3, 1)])] ++
    beBytes 2 (s.handLen f) ++ beBytes 2 i ++ beBytes 2 (field r 38 12) ++ beBytes 2 (field r 0 16) ++
    beBytes 2 d.flags ++ beBytes 2 d.followClass ++ beBytes 2 groups ++
    [BitVec.ofNat 8 (min 255 d.hits.length), BitVec.ofNat 8 d.parsed.endNode] ++
    hit 0 ++ hit 1 ++ hit 2 ++ hit 3 ++ trunk ++ zeros 14 ++ zeros 64

/-- The frame leaves the classifier with a verdict of its own (07 R271, R272), counted; it waits out the engine stage
(08 R304). -/
def giveVerdict (s : State) (id : Nat) (f : Frame) (v : Verdict) (ctr : Nat) : State :=
  (s.bump ctr).setFrame id { f with stage := .engine, verdict := some v }

/-- A default action (07 R271); `ctr` counts its DROP. -/
def giveDefault (s : State) (id : Nat) (f : Frame) (ctr : Nat) : State :=
  match if f.dec then (s.pair f.pair).defDec else (s.pair f.pair).defEnc with
  | .drop => s.giveVerdict id f .drop (clsCtr f.dec ctr)
  | .divert => s.giveVerdict id f .divert (clsCtr f.dec 0x48)
  | .bypass => s.giveVerdict id f .bypass (clsCtr f.dec 0x50)

/-- First fragments recorded for their followers (07 R276). -/
def followNote (s : State) (f : Frame) (d : Found) (r : Nat) : State :=
  match d.parsed.frag with
  | some i =>
    if i.offset = 0 ∧ i.more ∧ r.testBit 25 then
      let (t, ev) := followRecord (s.cls.follow f.dec) (followKey f.pair f.dec i) (field r 26 12) f.arrival s.followLimit
      let u := ({ s with cls := s.cls.setFollow f.dec t }).bump (clsCtr f.dec 0x68)
      if ev then u.bump (clsCtr f.dec 0x70) else u
    else s
  | none => s

/-- The hit counter of an entry (07 R269, R294). -/
def hitCount (s : State) (dec : Bool) (i : Nat) : State :=
  let up := fun t : Tab Word => Tab.upd (fun _ => 0) t i (fun v => v + 1)
  if dec then { s with cls := { s.cls with hitDec := up s.cls.hitDec } }
  else { s with cls := { s.cls with hitEnc := up s.cls.hitEnc } }

/-- What a match does (07 R270, R271). -/
def matched (s : State) (id : Nat) (f : Frame) (d : Found) (i : Nat) (e : TcamEntry) : State :=
  let r := e.result.toNat
  let c := clsCtr f.dec
  let s := (((s.bump (c 0x08)).pmuCount 2 (b2n f.dec) 1 1).hitCount f.dec i).followNote f d r
  let act := field r 23 2
  if act = 0 then s.setFrame id { f with stage := .handed, program := field r 50 14, meta_ := s.metaOf f d i r,
                                         sectag := d.parsed.sectag }
  else if act = 1 then s.giveVerdict id f .drop (c 0x38)
  else if act = 2 then s.giveVerdict id f .divert (c 0x48)
  else if (s.pair f.pair).bypassPermit then s.giveVerdict id f .bypass (c 0x50)
  else s.giveVerdict id f .drop (c 0x40)

/-- A frame reaches the classifier and takes its sequence number (18 R610). -/
def numbered (s : State) (f : Frame) : Frame × State :=
  let n := if f.dec then s.decSeq else s.encSeq
  let g := { f with seq := n, tag := b2n f.dec * 2 ^ 63 + f.pair * 2 ^ 56 + n }
  (g, if f.dec then { s with decSeq := (n + 1) % 2 ^ 48 } else { s with encSeq := (n + 1) % 2 ^ 48 })

/-- A frame classified (07 R271). -/
def classify (s : State) (id : Nat) (f : Frame) (err : ClsErr) : State :=
  let c := clsCtr f.dec
  let (f, s) := s.numbered f
  let s := (s.bump (c 0)).pmuCount 2 (b2n f.dec) 0 1
  let s := s.nodeError f err
  let p := s.parseOf f
  match p.fail with
  | some r =>
    let s := ((s.bump (c 0x18)).bump (c r.ctr)).pmuCount 2 (b2n f.dec) 2 1
    s.giveDefault id f 0x30
  | none =>
    let s := if p.cut then s.bump (c 0x20) else s
    let (d, s) := s.find f p (decide (err = .follow))
    match s.matchTcam f d.key err with
    | (none, s) => ((s.bump (c 0x10))).giveDefault id f 0x28
    | (some (i, e), s) => s.matched id f d i e

/-- Whether the port layer passes a frame on at its hand-off (05 R185): one it will discard for its
length or its EtherType is never passed on. -/
def passes (s : State) (f : Frame) : Bool :=
  f.isTrunk || f.injected || (decide (64 ≤ f.wire.length ∧ f.wire.length ≤ s.rxLimit f.pair f.dec) &&
    decide (beAt f.wire 12 2 ≠ 0x8808))

/-! ### Ensigns (07 R279–R287; 08 R329) -/

/-- RESULT of CLS_ENSIGN_STATUS, and CHANGE_REFUSED where it is a refusal (07 R292, R293). -/
def ensignResult (s : State) (r : Nat) : State :=
  let t := s.setField Reg.clsEnsignStatus 8 8 r
  if r = 0 then t else t.clsCause 2 0

/-- A slot's bit in every block changed by `f`, in the steward's copy of a polder out of service (08 R329, R337). -/
def blockSlots (s : State) (f : Nat → Nat) : State :=
  { s with polders := Tab.mapv s.polders (fun _ p => p.edit (fun t => Tab.mapv t (fun _ b => { b with slots := f b.slots }))) }

/-- OPEN's refusal (07 R280, R286). -/
def openRefusal (s : State) (num : Nat) : Option Nat :=
  if s.cls.ensignBusy then some 0x01
  else if s.cls.theSlot .free = none then some 0x40
  else if s.cls.live num then some 0x43
  else none

/-- OPEN (07 R280). -/
def openEnsign (s : State) (num : Nat) : State :=
  match s.openRefusal num, s.cls.theSlot .free with
  | some r, _ => s.ensignResult r
  | none, some k => ({ s with cls := s.cls.setSlot k { ClsSlot.empty with state := .opening, ensign := num } }).ensignResult 0
  | none, none => s.ensignResult 0x40

/-- The copy of an OPENING slot ends (07 R279, R280; 08 R329). -/
def openingDone (s : State) : State :=
  match s.cls.theSlot .opening, s.cls.theSlot .current with
  | some k, some c =>
    let old := s.cls.slot c
    let cls := (s.cls.setSlot k { old with state := .pending, ensign := (s.cls.slot k).ensign }).copyBit c k
    ({ s with cls := cls }).blockSlots (fun b => if b.testBit c then b ||| 2 ^ k else b)
  | _, _ => s

/-- A slot's state changed. -/
def slotState (s : State) (k : Nat) (st : SlotState) : State :=
  { s with cls := s.cls.setSlot k { s.cls.slot k with state := st } }

/-- A PENDING slot becomes CURRENT, the one before it RETIRING (07 R279, R282). -/
def commitSlot (s : State) (k : Nat) : State :=
  let t := match s.cls.theSlot .current with
    | some c => s.slotState c .retiring
    | none => s
  ((t.slotState k .current).ensignResult 0).clsCause 0 0

/-- A PENDING slot is given up (07 R285). -/
def abandonSlot (s : State) (k : Nat) : State := (s.slotState k .sweeping).ensignResult 0

/-- COMMIT (07 R282, R286). -/
def commitEnsign (s : State) : State :=
  if s.cls.ensignBusy then s.ensignResult 0x01
  else
    match s.cls.theSlot .pending with
    | none => s.ensignResult 0x44
    | some k => s.commitSlot k

/-- ABANDON (07 R285, R286). -/
def abandonEnsign (s : State) : State :=
  if s.cls.ensignBusy then s.ensignResult 0x01
  else
    match s.cls.theSlot .pending with
    | none => s.ensignResult 0x44
    | some k => s.abandonSlot k

/-- A sweep ends (07 R284; 08 R329). -/
def sweepDone (s : State) : State :=
  match s.cls.theSlot .sweeping with
  | none => s
  | some k =>
    let t := { s with cls := (s.cls.clearBit k).setSlot k ClsSlot.empty }
    (t.blockSlots (fun b => b - (b &&& 2 ^ k))).clsCause 1 0

/-! ### Accesses (07 R294) -/

/-- RESULT of CLS_ACC_STATUS, and CHANGE_REFUSED where it is a refusal. -/
def accResult (s : State) (r : Nat) : State :=
  let t := s.setField Reg.clsAccStatus 8 8 r
  if r = 0 then t else t.clsCause 2 0

/-- The access the registers hold, under a command. -/
def clsAccess (s : State) (cmd : Nat) : ClsAccess :=
  let a := s.regN Reg.clsAccAddr
  { cmd := cmd, store := field a 28 4, slot := field a 24 2, index := field a 0 14, data := s.words Reg.clsAccData 48 }

/-- A CLS_ACC_CMD write that takes effect. -/
def clsBegin (s : State) (cmd : Nat) : State :=
  let a := s.clsAccess cmd
  match s.cls.accessRefusal a with
  | some r => s.accResult r
  | none => { s with cls := { s.cls with acc := some a } }

/-- A CLS_ACC_CMD write. -/
def clsCommand (s : State) (cmd : Nat) : State := s.wr .pf0 Reg.clsAccCmd (fun s => s.clsBegin cmd)

/-- An access completes (07 R294): its checks are made again where the PENDING slot has moved on
meanwhile. -/
def clsFinish (s : State) : State :=
  match s.cls.acc with
  | none => s
  | some a =>
    let t := { s with cls := { s.cls with acc := none } }
    match t.cls.accessRefusal a with
    | some r => t.accResult r
    | none =>
      let u := if a.cmd = 1 then t.setWords Reg.clsAccData (t.cls.readWords a) else { t with cls := t.cls.apply a }
      u.accResult 0

/-- Every counter of the classifier zeroed (07 R293). -/
def clsClear (s : State) : State :=
  let t := s.clearCtr 0x0600100 0x0600300
  { t with cls := { t.cls with hitEnc := [], hitDec := [] } }

end State

/-- CLASSIFIER_HANDOFF (07 R257–R278): `err` is what is found wrong in the entries used. -/
def execClassifierHandoff (id : Nat) (err : ClsErr) (s : State) : Out :=
  match s.frame id with
  | none => .next s
  | some f =>
    if f.stage ≠ .arriving ∨ s.passes f = false then .next s
    else if f.rx = .good ∨ s.pairInService f.pair then .next (s.classify id f err)
    else .next (s.setFrame id { f with rx := .refused })

/-- OPEN (07 R280). -/
def execEnsOpen (num : Fin 4096) (s : State) : Out :=
  .next (s.wr .pf0 Reg.clsEnsignCmd (fun s => s.openEnsign num.val))

/-- OPENING_DONE (07 R279). -/
def execOpeningDone (s : State) : Out := .next s.openingDone

/-- COMMIT (07 R282). -/
def execEnsCommit (s : State) : Out := .next (s.wr .pf0 Reg.clsEnsignCmd State.commitEnsign)

/-- ABANDON (07 R285). -/
def execEnsAbandon (s : State) : Out := .next (s.wr .pf0 Reg.clsEnsignCmd State.abandonEnsign)

/-- ENSIGN_DRAINED (07 R283). -/
def execEnsignDrained (slot : Fin 4) (s : State) : Out :=
  if (s.cls.slot slot.val).state = .retiring ∧ s.slotFrames slot.val = 0 then .next (s.slotState slot.val .sweeping)
  else .next s

/-- SWEEP_DONE (07 R284). -/
def execSweepDone (s : State) : Out := .next s.sweepDone

/-- READ (07 R294). -/
def execClsRead (s : State) : Out := .next (s.clsCommand 1)

/-- WRITE (07 R281, R294). -/
def execClsWrite (s : State) : Out := .next (s.clsCommand 2)

/-- JOIN (07 R281, R294). -/
def execClsJoin (s : State) : Out := .next (s.clsCommand 3)

/-- LEAVE (07 R281, R294). -/
def execClsLeave (s : State) : Out := .next (s.clsCommand 4)

/-- REPAIR (07 R289, R294). -/
def execClsRepair (s : State) : Out := .next (s.clsCommand 5)

/-- CLEAR (07 R294). -/
def execClsClear (s : State) : Out := .next (s.clsCommand 6)

/-- CLS_ACCESS_DONE (07 R294). -/
def execClsAccessDone (s : State) : Out := .next s.clsFinish

/-- CLS_CLR_COUNTS (07 R293). -/
def execClsClrCounts (s : State) : Out := .next (s.wr .pf0 Reg.clsControl State.clsClear)

/-- CLS_SCRUB_VISIT (07 R288): stores as CLS_ACC_ADDR has them, 6 and 7 being the result words of the
encrypt and decrypt TCAM. Parity finds any error; a pair table has no protection. -/
def execClsScrubVisit (store : Fin 8) (slot : Fin 4) (index : Nat) (err : ScrubErr) (s : State) : Out :=
  if err = .none ∨ Cls.storeSize store.val ≤ index then .next s
  else if store.val ≤ 1 then .next (s.tcamBad (decide (store.val = 1)) index)
  else if store.val = 2 then .next (s.patternBad index)
  else if store.val ≤ 4 then .next (s.nodeBad slot.val (decide (store.val = 4)) index)
  else if store.val = 5 then .next s
  else if err = .single then .next (s.resultFixed (decide (store.val = 7)) index)
  else .next (s.resultBad (decide (store.val = 7)) index)

end Sys2Proof.Machine
end

