-- ==== Sys2Proof/Machine/Lookups.lean ====
section
/-! DEFINITION. The lookup and learning unit at work: lookups with their counts and errors, learn reports
and their queue, the ager, and the commands of LKP_ACC_CMD (09 R345–R373). -/

namespace Sys2Proof.Machine
open Sys2Proof.Bits

namespace State

/-- A counter of the lookup unit (09 R373). -/
def lkpCtr (o : Nat) : Nat := 0x0800100 + o

/-- A cause of the lookup unit (09 R371). -/
def lkpCause (s : State) (bit cls : Nat) : State := s.cause Reg.lkpEvent bit (144 + bit) cls

/-- A table, if it is defined. -/
def table (s : State) (n : Nat) : Option LkTable := Tab.find s.lkp.tables n

/-- A table replaced. -/
def setTable (s : State) (n : Nat) (t : LkTable) : State := { s with lkp := s.lkp.setTable n t }

/-- A self-refreshing stack wakes for a request (01 R51, 15 R551). -/
def hbmWake (s : State) : State :=
  if s.hbm.st = .selfRefresh then { s with hbm := { s.hbm with st := .waking } } else s

/-- The insertion unit has applied a report or a command (01 R51). -/
def inserted (s : State) : State := { s with hbm := { s.hbm with insertAt := some s.now } }

/-! ### The notification queue (09 R363) -/

/-- LQ_THRESHOLD. -/
def lqLimit (s : State) : Nat := s.regField Reg.lkpControl 0 13

/-- A record of the queue, its overflow bit aside; `from_` gives the pair, direction, engine and ensign of
a reporting frame. -/
def lqRecord (s : State) (kind table : Nat) (from_ : Option (Nat × Bool × Nat × Nat)) (loc : Nat) (keyData : Bytes) : Bytes :=
  let (p, d, e, n) := from_.getD (0xFF, false, 0xFFFF, 0)
  [BitVec.ofNat 8 kind, BitVec.ofNat 8 table, BitVec.ofNat 8 p, BitVec.ofNat 8 (b2n d)] ++ leBytes 2 e ++ leBytes 2 n ++
    leBytes 4 loc ++ leBytes 4 s.stamp ++ sliceZ keyData 0 48

/-- A record queued, or lost where the queue is full. -/
def lqPut (s : State) (r : Bytes) : State :=
  if 4096 ≤ s.lkp.queue.length then
    (({ s with lkp := { s.lkp with lostMark := true } }).bump (lkpCtr 0x78)).lkpCause 1 1
  else
    let r := if s.lkp.lostMark then r.set 3 (r.getD 3 0 ||| 2) else r
    let t := { s with lkp := { s.lkp with queue := s.lkp.queue ++ [r], lostMark := false } }
    if t.lkp.armed && decide (t.lqLimit ≤ t.lkp.queue.length) then
      ({ t with lkp := { t.lkp with armed := false } }).lkpCause 0 0
    else t

/-- LOCATION of an EXACT way: its way above its bucket. -/
def wayLoc (loc : Nat) : Nat := pack [(loc / 4, 0, 29), (loc % 4, 29, 3)]

/-- KEY and DATA of a record from an EXACT entry. -/
def exactKd (t : LkTable) (e : ExactEntry) : Bytes := (t.exactBytes (some e)).take 48

/-! ### Errors in entries (09 R367) -/

/-- The entry a lookup read becomes FAULTY, or is freed where it was learned: its table, LOCATION in
LKP_PARITY_LOC and in the record, KEY and DATA. -/
def entryBad (s : State) (n : Nat) (t : LkTable) (o : LkOut) (loc : Nat) : State × Nat × Nat × Bytes :=
  if o.target = 1 then
    let fe := if t.kind = 2 then Lkp.trieFilter t loc else t.filterAt loc
    (s.setTable n { t with filter := Tab.ins t.filter loc { fe with faulty := true } }, loc, loc,
      zeros 32 ++ leBytes 16 fe.bits.toNat)
  else if o.target = 2 then
    let fe := (Tab.find s.lkp.chunks loc).getD { bits := 0, faulty := false }
    ({ s with lkp := { s.lkp with chunks := Tab.ins s.lkp.chunks loc { fe with faulty := true } } }, loc, loc,
      zeros 32 ++ leBytes 16 fe.bits.toNat)
  else if t.kind = 0 then
    match Tab.find t.exact loc with
    | none => (s, loc / 4 * 8 + loc % 4, wayLoc loc, [])
    | some e =>
      let ex := if e.static then Tab.ins t.exact loc { e with faulty := true } else Tab.del t.exact loc
      ({ s with lkp := { (s.lkp.setTable n { t with exact := ex }) with
          writes := s.lkp.writes.filter (fun w => decide (¬(w.table = n ∧ w.loc = loc))) } },
        loc / 4 * 8 + loc % 4, wayLoc loc, exactKd t e)
  else
    let k := o.probe * 2 ^ 23 + loc
    match Tab.find t.lpm k with
    | none => (s, loc, pack [(loc / 8, 0, 29), (loc % 8, 29, 3)], [])
    | some e => (s.setTable n { t with lpm := Tab.ins t.lpm k { e with faulty := true } }, loc,
        pack [(loc / 8, 0, 29), (loc % 8, 29, 3)], leBytes 32 e.pref ++ leBytes 16 (e.origLen * 2 ^ 32 + e.result.toNat))

/-- What follows an error in an entry that a lookup reads (09 R367); a lookup that read no entry finds
none. -/
def entryFault (s : State) (n : Nat) (hbm : Bool) (o : LkOut) : State :=
  match s.table n, o.loc with
  | some t, some loc =>
    let (u, ploc, rloc, kd) := s.entryBad n t o loc
    let u := u.bump (lkpCtr 0x20)
    let u := u.captureWith Reg.lkpParity [(b2n hbm, 29, 1), (n, 23, 6), (o.target, 21, 2), (o.probe, 17, 4)]
      [(Reg.lkpParityLoc, BitVec.ofNat 32 (ploc % 2 ^ 24))]
    let u := u.lqPut (u.lqRecord 7 n none rloc kd)
    if hbm then u.lkpCause 4 1 else u.lkpCause 3 1
  | _, _ => s

/-! ### Lookups (09 R345–R356) -/

/-- The entry of a place that a check fails on: way `w` of its bucket. -/
def wayAt (o : LkOut) (w : Nat) : LkOut := if o.target = 0 then { o with loc := o.loc.map (fun l => l + w) } else o

/-- The on-die entry an LKI reads whose parity fails: way `w` of the bucket of an on-die EXACT table, or the filter
entry of an LPM table (09 R348, R353, R356, R367). -/
def dieEntry (s : State) (n : Nat) (key : Bytes) (w : Fin 4) : Option LkOut :=
  (s.lkp.place n key false).map (fun o => wayAt o w.val)

/-- HITS or MISSES counted. -/
def countHit (s : State) (hit : Bool) : State := s.bump (lkpCtr (if hit then 0x10 else 0x18))

/-- An on-die lookup: its result and the state after it (09 R345, R346, R367); `parity` names the way read whose
parity fails. -/
def lookDie (s : State) (n : Nat) (key : Bytes) (parity : Option (Fin 4)) : (Bool × BitVec 64 × BitVec 64) × State :=
  let t := (s.bump (lkpCtr 0)).pmuCount 4 0 0 1
  match t.table n with
  | none => ((false, 0, 0), (t.bump (lkpCtr 0x28)).countHit false)
  | some _ =>
    match parity.bind (t.dieEntry n key) with
    | some o => ((false, 0, 0), (t.entryFault n false o).countHit false)
    | none =>
      let o := t.lkp.lookup n key
      ((o.hit, o.w0, o.w1), t.countHit o.hit)

/-- A granted lookup's read as its grant takes it (09 R361). -/
def latchRead (s : State) (r : HbmReq) (n : Nat) (key : Bytes) : HbmReq :=
  { r with granted := true, out := some (s.lkp.lookup n key), read := s.lkp.place n key true }

/-- The result of an HBM lookup as it reaches its context (09 R353, R356, R367, R373), as read at its grant: `bad` names
the way of the bucket read whose line was uncorrectable. -/
def lookHbm (s : State) (n : Nat) (r : HbmReq) (bad : Option (Fin 8)) : (Bool × BitVec 64 × BitVec 64) × State :=
  let o := r.out.getD LkOut.miss
  match bad, r.read with
  | some w, some p => ((false, 0, 0), (s.entryFault n true (wayAt p w.val)).countHit false)
  | _, _ => ((o.hit, o.w0, o.w1), s.countHit o.hit)

/-! ### Learn reports (09 R357–R361) -/

/-- An LRN word's report (09 R357, R358): one to a table that does not learn, or whose key has another
length, is refused. -/
def learnSend (s : State) (r : LearnReport) : State :=
  let fits := match s.table r.table with
    | some t => s.lkp.learns r.table && decide (r.key.length = 8 * t.keywords)
    | none => false
  if fits = false then s.bump (lkpCtr 0x60)
  else if 4096 ≤ s.lkp.input.length then (s.bump (lkpCtr 0x68)).lkpCause 2 1
  else
    let t := { s with lkp := { s.lkp with input := s.lkp.input ++ [r] } }
    (t.bump (lkpCtr 0x38)).hbmWake

/-- An entry written by learning: visible to lookups when its write completes (09 R361). -/
def learnWrite (s : State) (n : Nat) (t : LkTable) (loc : Nat) (e : ExactEntry) : State :=
  let w : LearnWrite := { table := n, loc := loc, old := Tab.find t.exact loc }
  { s with lkp := { (s.lkp.setTable n (t.putEntry loc e)) with writes := s.lkp.writes ++ [w] } }

/-- What a notification says of a report's frame. -/
def reporter (r : LearnReport) : Option (Nat × Bool × Nat × Nat) := some (r.pair, r.dec, r.engine, r.ensign)

/-- A report applied to an INSERT table (09 R359). -/
def learnInsert (s : State) (r : LearnReport) (t : LkTable) : State :=
  let e : ExactEntry := { key := r.key, d0 := r.d0, d1 := if t.datawords = 2 then r.d1 else 0, static := false,
                          faulty := false, seq := 0, stamp := s.stamp }
  let kd := exactKd t e
  let note := fun (u : State) (kind loc : Nat) (kd : Bytes) => u.lqPut (u.lqRecord kind r.table (reporter r) loc kd)
  match t.wayOf r.key with
  | some (loc, o) =>
    if o.static then note (s.bump (lkpCtr 0x58)) 6 (wayLoc loc) kd
    else note ((s.learnWrite r.table t loc e).bump (lkpCtr 0x48)) 1 (wayLoc loc) kd
  | none =>
    match t.freeWay r.key with
    | some loc => note ((s.learnWrite r.table t loc e).bump (lkpCtr 0x40)) 0 (wayLoc loc) kd
    | none =>
      match t.oldestLearned r.key with
      | some (loc, o) =>
        let u := (s.learnWrite r.table t loc e).bump (lkpCtr 0x40)
        let u := (u.bump (lkpCtr 0x50)).pmuCount 4 0 3 1
        note (note u 2 (wayLoc loc) (exactKd t o)) 0 (wayLoc loc) kd
      | none => note (s.bump (lkpCtr 0x60)) 4 (wayLoc (t.bucket r.key * 4)) kd

/-- The oldest report applied (09 R359); one to a table that is no longer defined is refused (R345). -/
def learnApply (s : State) (r : LearnReport) : State :=
  let s := s.pmuCount 4 0 2 1
  match s.table r.table with
  | none => s.bump (lkpCtr 0x60)
  | some t =>
    if t.learn = 1 then
      let e : ExactEntry := { key := r.key, d0 := r.d0, d1 := if t.datawords = 2 then r.d1 else 0, static := false,
                              faulty := false, seq := 0, stamp := 0 }
      s.lqPut (s.lqRecord 5 r.table (reporter r) (wayLoc (t.bucket r.key * 4)) (exactKd t e))
    else s.learnInsert r t

/-- AGE_LIMIT of a table (09 R372). -/
def ageLimit (s : State) (n : Nat) : Nat := s.regField (0x0801004 + 8 * n) 16 16

/-- One way at the ager's visit (09 R362). -/
def ageWay (s : State) (n loc : Nat) : State :=
  match s.table n with
  | none => s
  | some t =>
    match Tab.find t.exact loc with
    | none => s
    | some e =>
      if !e.static && decide (s.ageLimit n ≠ 0 ∧ s.ageLimit n + 1 ≤ (s.stamp + 2 ^ 32 - e.stamp) % 2 ^ 32) then
        let u := { s with lkp := { (s.lkp.setTable n { t with exact := Tab.del t.exact loc }) with
          writes := s.lkp.writes.filter (fun w => decide (¬(w.table = n ∧ w.loc = loc))) } }
        (u.bump (lkpCtr 0x70)).lqPut (u.lqRecord 3 n none (wayLoc loc) (exactKd t e))
      else s

/-! ### Commands (09 R364) -/

/-- RESULT and HIT of LKP_ACC_STATUS. -/
def lkpResult (s : State) (r : Nat) (hit : Bool) : State :=
  (s.setField Reg.lkpAccStatus 8 8 r).setField Reg.lkpAccStatus 1 1 (b2n hit)

/-- RESULT of a command refused with BUSY or UNKNOWN_COMMAND: nothing else changes (00 R653). -/
def lkpRefused (s : State) (r : Nat) : State := s.setField Reg.lkpAccStatus 8 8 r

/-- The command the registers hold. -/
def lkpCommandOf (s : State) (cmd : Nat) : LkpCmd :=
  let a := s.regN Reg.lkpAccTable
  let i := s.regN Reg.lkpAccIndex
  { cmd := cmd, static := a.testBit 13, target := field a 11 2, way := field a 8 3
    probe := if field a 11 2 = 2 then field a 4 4 + 16 * field a 0 4 else field a 4 4
    table := field i 26 6, index := field i 0 21, data := s.regBytes Reg.lkpAccData 16 }

/-- Whether a table's kind takes a command and its TARGET. -/
def kindTakes (t : LkTable) (c : LkpCmd) : Bool :=
  if c.cmd = 4 then true
  else if c.cmd = 2 ∨ c.cmd = 3 then decide (t.kind = 0 ∧ c.target = 0)
  else if t.kind = 0 then decide (c.target = 0 ∧ c.cmd = 1)
  else if t.kind = 1 then decide (c.target ≤ 1)
  else decide (c.target = 1 ∨ c.target = 2)

/-- Whether the place a READ or WRITE names lies in its table. -/
def placeOk (t : LkTable) (c : LkpCmd) : Bool :=
  if c.cmd ≠ 1 ∧ c.cmd ≠ 5 then true
  else if c.target = 2 then decide (c.index < 65536)
  else if c.target = 1 then decide (c.index < 2 ^ t.rbits)
  else if t.kind = 0 then decide (c.index < 2 ^ t.blog2 ∧ c.way < 4)
  else decide (c.index < 2 ^ t.blog2 ∧ c.probe < t.lengths.length)

/-- Whether the data of a WRITE are good (09 R364). -/
def writeOk (t : LkTable) (c : LkpCmd) : Bool :=
  if c.cmd ≠ 5 then true
  else if c.target = 2 then LkTable.chunkReservedOk (leAt c.data 0 8)
  else if c.target = 1 then
    let b := leAt c.data 0 8
    LkTable.filterReservedOk b (decide (t.kind = 2)) &&
      !(decide (t.kind = 1) && b.testBit 63 && decide (t.lengths.length ≤ field b 59 4))
  else decide (leAt c.data 17 1 < 4 ∧ leAt c.data 18 10 = 0)

/-- The refusal of a command at its write. -/
def lkpRefusal (s : State) (c : LkpCmd) : Option Nat :=
  if s.lkp.cmd.isSome then some 0x01
  else
    match s.table c.table with
    | none => some 0x46
    | some t =>
      if kindTakes t c = false then some 0x4A
      else if placeOk t c = false then some 0x46
      else if writeOk t c = false then some 0x52
      else none

/-- A LKP_ACC_CMD write that takes effect, BUSY before an unlisted code (00 R653; log entry 102). -/
def lkpBegin (s : State) (cmd : Nat) : State :=
  let c := s.lkpCommandOf cmd
  match s.lkpRefusal c with
  | some r => if r = 0x01 then s.lkpRefused r else s.lkpResult r false
  | none =>
    let t := ({ s with lkp := { s.lkp with cmd := some c } }).bump (lkpCtr 0x80)
    if t.lkp.inHbm c.table then t.hbmWake else t

/-- A LKP_ACC_CMD write. -/
def lkpCommand (s : State) (cmd : Nat) : State := s.wr .pf0 Reg.lkpAccCmd (fun s => s.lkpBegin cmd)

/-- What a READ returns. -/
def lkpRead (s : State) (t : LkTable) (c : LkpCmd) : Bytes :=
  if c.target = 2 then
    leBytes 8 (((Tab.find s.lkp.chunks (c.probe * 65536 + c.index)).map (fun e => e.bits.toNat)).getD 0)
  else if c.target = 1 then
    leBytes 8 (if t.kind = 2 then Lkp.trieFilter t c.index else t.filterAt c.index).bits.toNat
  else if t.kind = 0 then t.exactBytes (Tab.find (s.lkp.seen c.table t).exact (c.index * 4 + c.way))
  else LkTable.lpmBytes (Tab.find t.lpm ((c.probe * 2 ^ 20 + c.index) * 8 + c.way))

/-- An entry of a command put at once. -/
def lkpPut (s : State) (n : Nat) (t : LkTable) (loc : Nat) (e : ExactEntry) : State :=
  { s with lkp := { (s.lkp.setTable n (t.putEntry loc e)) with
      writes := s.lkp.writes.filter (fun w => decide (¬(w.table = n ∧ w.loc = loc))) } }

/-- INSERT (09 R364). -/
def lkpInsert (s : State) (t : LkTable) (c : LkpCmd) : State :=
  let key := t.keyOfBytes c.data
  let e : ExactEntry := { key := key, d0 := BitVec.ofNat 64 (leAt c.data 32 8)
                          d1 := if t.datawords = 2 then BitVec.ofNat 64 (leAt c.data 40 8) else 0
                          static := c.static, faulty := false, seq := 0, stamp := s.stamp }
  match t.wayOf key with
  | some (loc, o) =>
    if o.static ∧ c.static = false then s.lkpResult 0 true
    else (s.lkpPut c.table t loc e).lkpResult 0 true
  | none =>
    match t.freeWay key with
    | some loc => (s.lkpPut c.table t loc e).lkpResult 0 false
    | none =>
      match t.oldestLearned key with
      | some (loc, o) =>
        let u := ((s.lkpPut c.table t loc e).bump (lkpCtr 0x50)).pmuCount 4 0 3 1
        (u.lqPut (u.lqRecord 2 c.table none (wayLoc loc) (exactKd t o))).lkpResult 0 false
      | none => s.lkpResult 0x48 false

/-- DELETE (09 R364). -/
def lkpDelete (s : State) (t : LkTable) (c : LkpCmd) : State :=
  match t.wayOf (t.keyOfBytes c.data) with
  | none => s.lkpResult 0x49 false
  | some (loc, _) =>
    let u := { s with lkp := { (s.lkp.setTable c.table { t with exact := Tab.del t.exact loc }) with
      writes := s.lkp.writes.filter (fun w => decide (¬(w.table = c.table ∧ w.loc = loc))) } }
    u.lkpResult 0 false

/-- LOOKUP (09 R364): result words in data words 8 to 11. -/
def lkpLookup (s : State) (t : LkTable) (c : LkpCmd) : State :=
  let o := s.lkp.lookup c.table (t.keyOfBytes c.data)
  (s.setWords (Reg.lkpAccData + 32) (Blob.toWords 4 (leBytes 8 o.w0.toNat ++ leBytes 8 o.w1.toNat))).lkpResult 0 o.hit

/-- WRITE (09 R364); FULL where the LPM region would hold too many entries (R344). -/
def lkpWrite (s : State) (t : LkTable) (c : LkpCmd) : State :=
  let fe : FilterEntry := { bits := BitVec.ofNat 64 (leAt c.data 0 8), faulty := false }
  let u := if c.target = 2 then
      { s with lkp := { s.lkp with chunks := Tab.ins s.lkp.chunks (c.probe * 65536 + c.index) fe } }
    else if c.target = 1 then s.setTable c.table { t with filter := Tab.ins t.filter c.index fe }
    else
      let loc := (c.probe * 2 ^ 20 + c.index) * 8 + c.way
      match LkTable.lpmOfBytes c.data with
      | some e => s.setTable c.table { t with lpm := Tab.ins t.lpm loc e }
      | none => s.setTable c.table { t with lpm := Tab.del t.lpm loc }
  if Seed.poolsOk u.lkp then u.lkpResult 0 false else s.lkpResult 0x48 false

/-- The effect of a command as it completes. -/
def lkpApply (s : State) (c : LkpCmd) : State :=
  match s.table c.table with
  | none => s.lkpResult 0x46 false
  | some t =>
    if c.cmd = 1 then
      let b := s.lkpRead t c
      (s.setWords Reg.lkpAccData (Blob.toWords (b.length / 4) b)).lkpResult 0 false
    else if c.cmd = 2 then s.lkpInsert t c
    else if c.cmd = 3 then s.lkpDelete t c
    else if c.cmd = 4 then s.lkpLookup t c
    else s.lkpWrite t c

end State

/-- LEARN_REPORT_APPLY (09 R359): commands come before reports, and a report waits for a stack in self-refresh (01
R51). -/
def execLearnReportApply (s : State) : Out :=
  match s.lkp.input with
  | [] => .next s
  | r :: rest =>
    if s.lkp.cmd.isSome then .next s
    else if s.hbm.st = .active then .next (({ s with lkp := { s.lkp with input := rest } }).learnApply r).inserted
    else .next s.hbmWake

/-- LEARN_WRITE_DONE (09 R361): the oldest learned write becomes visible. -/
def execLearnWriteDone (s : State) : Out :=
  .next { s with lkp := { s.lkp with writes := s.lkp.writes.drop 1 } }

/-- AGER_BUCKET_VISIT (09 R362). -/
def execAgerBucketVisit (t : Fin 64) (bucket : Nat) (s : State) : Out :=
  if s.lkp.learns t.val then .next ([0, 1, 2, 3].foldl (fun u w => u.ageWay t.val (bucket * 4 + w)) s) else .next s

/-- READ (09 R364). -/
def execLkpRead (s : State) : Out := .next (s.lkpCommand 1)

/-- INSERT (09 R364). -/
def execLkpInsert (s : State) : Out := .next (s.lkpCommand 2)

/-- DELETE (09 R364). -/
def execLkpDelete (s : State) : Out := .next (s.lkpCommand 3)

/-- LOOKUP (09 R364). -/
def execLkpLookup (s : State) : Out := .next (s.lkpCommand 4)

/-- WRITE (09 R364). -/
def execLkpWrite (s : State) : Out := .next (s.lkpCommand 5)

/-- LKP_COMMAND_DONE (09 R364): a command to a table in HBM waits for a stack in self-refresh. -/
def execLkpCommandDone (s : State) : Out :=
  match s.lkp.cmd with
  | none => .next s
  | some c =>
    if s.lkp.inHbm c.table ∧ s.hbm.st ≠ .active then .next s
    else .next (({ s with lkp := { s.lkp with cmd := none } }).lkpApply c).inserted

/-- A POP of the notification queue. -/
def State.lqPop (s : State) : State :=
  let r := (s.lkp.queue.head?).getD (zeros 64)
  let q := s.lkp.queue.drop 1
  let t := s.setWords Reg.lkpLqData (Blob.toWords 16 r)
  { t with lkp := { t.lkp with queue := q, armed := t.lkp.armed || decide (2 * q.length < t.lqLimit) } }

/-- LKP_LQ_POP (09 R363, R372). -/
def execLkpLqPop (s : State) : Out := .next (s.wr .pf0 Reg.lkpLqPop State.lqPop)

/-- LKP_CLR_COUNTS (09 R372). -/
def execLkpClrCounts (s : State) : Out :=
  .next (s.wr .pf0 Reg.lkpControl (fun s => s.clearCounts Reg.lkpControl))

end Sys2Proof.Machine
end

