-- ==== Sys2Proof/Machine/Store.lean ====
section
/-! DEFINITION. The association store at work: notes, record faults, the far-store cache and the BIND of a
frame (10 R384–R394, R404, R415, R416; 15 R548). -/

namespace Sys2Proof.Machine
open Sys2Proof.Bits

namespace State

/-- A counter of the association store (10 R418). -/
def chnCtr (o : Nat) : Nat := Reg.chnCtr + o

/-- A cause of the association store (10 R416). -/
def chnCause (s : State) (bit cls : Nat) : State := s.cause Reg.chnEvent bit (160 + bit) cls

/-- A counter of the HBM controller (15 R555). -/
def hbmCtr (o : Nat) : Nat := Reg.hbmCtr + o

/-- A cause of the HBM controller (15 R553). -/
def hbmCause (s : State) (bit cls : Nat) : State := s.cause Reg.hbmEvent bit (216 + bit) cls

/-- An error captured in HBM_ERR with its address (15 R543, R548). -/
def hbmCapture (s : State) (kind addr : Nat) (scrub : Bool) : State :=
  s.captureWith Reg.hbmErr [(kind, 28, 2), (Hbm.regionOf addr, 24, 4), (b2n scrub, 0, 1)]
    [(Reg.hbmErrLo, BitVec.ofNat 32 addr), (Reg.hbmErrHi, BitVec.ofNat 32 (addr / 2 ^ 32))]

/-- An uncorrectable line found (15 R543, R553). -/
def hbmBad (s : State) (addr : Nat) (scrub : Bool) : State :=
  ((s.hbmCapture 1 addr scrub).bump (hbmCtr 0x08)).hbmCause 1 (if Hbm.regionOf addr = 0 then 2 else 1)

/-- A corrected line: delivered corrected, and written back on the scrub share unless a client writes it (15 R543, R544; 18
R606). -/
def hbmFixed (s : State) (addr : Nat) (scrub collide : Bool) : State :=
  let t := (((s.hbmCapture 0 addr scrub).bump (hbmCtr 0)).hbmCause 0 0).pmuCount 7 (addr / 256 % 16) 2 1
  if collide then t.bump (hbmCtr 0x20) else t.pmuCount 7 (addr / 256 % 16) 1 1

/-- The frames with bytes in a line of the reorder buffers: held under 08 R305, or BOUNDED and not yet in
the cipher stage (11 R440; 15 R545). -/
def reordered (s : State) (line : Nat) : List (Nat × Frame) :=
  s.frames.filter (fun e => e.2.here && Config.reorderHolds line e.1 &&
    (decide (e.2.stage = .held) || (e.2.bounded && decide (e.2.stage = .engine))))

/-- An uncorrectable line of the reorder buffers: the frames with bytes in it are dropped (15 R545). -/
def reorderBad (s : State) (line : Nat) : State := (s.reordered line).foldl (fun t e => t.dropFrame e.1 (hbmCtr 0x30)) s

/-! ### Indexes and notes -/

/-- NOTE_THRESHOLD. -/
def noteLimit (s : State) : Nat := s.regField Reg.chnControl 0 13

/-- A note queued, or lost where the queue is full (10 R415). -/
def noteQueue (s : State) (h : Nat) (n : Note) : State :=
  if 4096 ≤ s.chn.notes.length then
    (({ s with chn := { s.chn with noteLost := true } }).bump (chnCtr 0x50)).chnCause 3 1
  else
    let r := [BitVec.ofNat 8 n.kind, BitVec.ofNat 8 n.an,
      BitVec.ofNat 8 (pack [(b2n (Handle.far h), 0, 1), (b2n s.chn.noteLost, 1, 1)]), 0] ++ leBytes 4 h ++ leBytes 8 n.value
    let t := { s with chn := { s.chn with notes := s.chn.notes ++ [r], noteLost := false } }
    if t.chn.armed && decide (t.noteLimit ≤ t.chn.notes.length) then
      ({ t with chn := { t.chn with armed := false } }).chnCause 2 0
    else t

/-- What a BIND, a decision or a command does to a record, with its notes, holding cells and causes. -/
def chEffect (s : State) (h : Nat) (e : ChEffect) : State :=
  let t := s.setRecord h e.body
  let t := { t with chn := { t.chn with cells := t.chn.cells ++ e.cells } }
  let t := e.notes.foldl (fun u n => u.noteQueue h n) t
  let t := if e.soft then t.chnCause 0 0 else t
  let t := if e.exhausted then t.chnCause 1 1 else t
  let t := if e.hoisted then t.bump (chnCtr 0x40) else t
  if e.switched then t.bump (chnCtr 0x48) else t

/-- A record becomes faulty (10 R387). -/
def recordFault (s : State) (far : Bool) (i : Nat) : State :=
  let x := s.chIndex far i
  match x.body with
  | none => s
  | some c =>
    if c.faulty then s
    else
      let h := Handle.mk far i x.gen
      let t := s.setChIndex far i { x with body := some { c with faulty := true } }
      let t := (t.bump (chnCtr 0x38)).capture Reg.chnFault [(b2n far, 24, 1), (i, 0, 24)]
      (t.chnCause 4 1).noteQueue h { kind := 6, an := 0, value := 0 }

/-- The line of a far record's part, or of its tags (15 R541). -/
def farLine (i : Nat) (l : Fin 3) : Nat :=
  if l.val < 2 then Hbm.recordAddr (2 * i + l.val) else (0x240000000 + 16 * i) / 256 * 256

/-- What is found wrong in a far record as it is read (12 R474; 15 R543, R545, R548). -/
def farFault (s : State) (i : Nat) (err : FarErr) : State :=
  match err with
  | .none => s
  | .parity => s.recordFault true i
  | .single l => s.hbmFixed (farLine i l) false false
  | .ecc l => (s.hbmBad (farLine i l) false).recordFault true i
  | .tag b =>
    let t := (s.hbmCapture 2 (Hbm.recordAddr (2 * i + b2n b)) false).bump (hbmCtr 0x10)
    (t.hbmCause 2 1).recordFault true i
  | .cell => s.deviceFault

/-- What the read of a far record meets: the sealing keys are fetched first (12 R474). -/
def readErr (s : State) (err : FarErr) : FarErr := if s.sealKeysOk then err else .cell

/-! ### The far-store cache (10 R386) -/

/-- Whether the cache holds a far record. -/
def cached (s : State) (i : Nat) : Bool := s.chn.cache.any (fun e => decide (e.index = i))

/-- Whether a cache entry is pinned: a frame bound through it is in the module, or a command acts on
it. -/
def pinned (s : State) (i : Nat) : Bool :=
  s.frames.any (fun e => e.2.here && (match e.2.bind with
    | some b => Handle.far b.handle && decide (Handle.index b.handle = i)
    | none => false)) ||
  s.chn.cmds.any (fun c => Handle.far c.handle && decide (Handle.index c.handle = i))

/-- A record comes to the front of the cache, as bound now; a miss replaces the unpinned entry least
recently bound. -/
def cacheTake (s : State) (i : Nat) : State :=
  let c := s.chn.cache
  match c.find? (fun e => decide (e.index = i)) with
  | some e => { s with chn := { s.chn with cache := e :: c.filter (fun x => decide (x.index ≠ i)) } }
  | none =>
    let new : CacheEntry := { index := i, dirty := false }
    if c.length < 65536 then { s with chn := { s.chn with cache := new :: c } }
    else
      match c.reverse.find? (fun e => !s.pinned e.index) with
      | none => { s with chn := { s.chn with cache := new :: c } }
      | some v =>
        let ev := if v.dirty then s.chn.evicted ++ [v.index] else s.chn.evicted
        { s with chn := { s.chn with cache := new :: c.filter (fun x => decide (x.index ≠ v.index)), evicted := ev } }

/-! ### BIND (10 R388–R393) -/

/-- AN, wire PN and SCI of a decrypt frame: from its SecTAG, or from a trunk frame's header (10 R389). -/
def wireOf (s : State) (f : Frame) : Option (Nat × Nat × Option Nat) :=
  match f.trunk, f.sectag with
  | some h, _ => some (h.an, h.pn, none)
  | none, some o =>
    let b := s.seen f
    let tci := leAt b (o + 2) 1
    some (field tci 0 2, beAt b (o + 4) 4, if tci.testBit 5 then some (beAt b (o + 8) 8) else none)
  | none, none => none

/-- Whether a channel serves a frame of its direction (10 R388, order 4). -/
def serves (s : State) (f : Frame) (c : ChRec) : Bool :=
  let (peer, chan) := match f.trunk with
    | some h => (h.peer, h.chan)
    | none => (0, 0)
  !c.faulty && decide (c.pair = f.pair ∧ c.mode = (s.pair f.pair).mode.code) &&
    !(c.peerCheck && decide (c.peerDevice ≠ peer ∨ c.peerChannel ≠ chan)) &&
    (!f.dec || (match s.wireOf f with
      | some (_, _, some sci) => decide (sci = c.sci)
      | _ => true))

/-- The newest holding cell of a slot. -/
def heldCell (s : State) (h an : Nat) : Option KeyCell :=
  (s.chn.cells.filter (fun k => decide (k.handle = h ∧ k.an = an))).getLast?

/-- The binding a served frame gets and the record's change; none for NO_KEY (10 R389–R393). -/
def bindServed (s : State) (f : Frame) (h : Nat) (c : ChRec) : State × Option Binding :=
  if f.dec then
    match s.wireOf f with
    | none => (s, none)
    | some (an, w, _) =>
      match c.bindDec h an w (s.heldCell h an) with
      | some (c', b) => (s.setRecord h c', some b)
      | none => (s, none)
  else
    let (e, b) := c.bindEnc h
    (s.chEffect h e, b)

/-- A BIND: its status, the binding, and the state after it (08 R325; 10 R388). -/
def bindTo (s : State) (f : Frame) (h : Nat) : Nat × Option Binding × State :=
  if Handle.valid h = false then (1, none, s)
  else
    match s.chRecord h with
    | none => (2, none, s)
    | some c =>
      if c.dec ≠ f.dec then (3, none, s)
      else
        let no := fun t : State => (4, (none : Option Binding), match t.chRecord h with
          | some c => t.setRecord h c.refused
          | none => t)
        if s.serves f c then
          match s.bindServed f h c with
          | (t, some b) => (0, some b, t)
          | (t, none) => no t
        else no s

end State

end Sys2Proof.Machine
end

