-- ==== Sys2Proof/Machine/Engines.lean ====
section
/-! DEFINITION. The pennant engines at work: dispatch, what every action word shares, parking, the HBM
requests and their grants, and the ends of a program (08 R296–R337). -/

namespace Sys2Proof.Machine
open Sys2Proof.Bits

namespace State

/-! ### Contexts and programs -/

/-- The context that holds an engine's run slot and still runs its program. -/
def running? (s : State) (e : Nat) : Option (Nat × Ctx) :=
  (s.engine e).ctxs.find? (fun c => decide (c.2.cond = .running))

/-- A context replaced. -/
def setCtx (s : State) (e k : Nat) (c : Ctx) : State :=
  let en := s.engine e
  s.setEngine e { en with ctxs := Tab.ins en.ctxs k c }

/-- The core cycle, counted from a context's arrival, of the word it executes (08 R302, R303). -/
def offsetOf (c : Ctx) : Nat := 104 + c.executed + c.parked

/-- The core cycle of the word a context executes. -/
def cycleOf (f : Frame) (c : Ctx) : Nat := f.arrival + offsetOf c

/-- A counter of an engine's polder window (08 R340). -/
def pldWin (e o : Nat) : Nat := Reg.polder (e / 32) + o

/-- The program of a context ends; it holds its run slot to its budget's end (08 R302). `v` is the verdict, `r` its reason,
`o` its counter's offset and `at_` its cycle (R336). -/
def endProgram (s : State) (e k : Nat) (c : Ctx) (id : Nat) (f : Frame) (v : Verdict) (r o at_ : Nat) : State :=
  let t := s.setCtx e k { c with cond := .done, settled := some (at_, pldCtr f.dec o) }
  (t.setFrame id { f with verdict := some v, reason := r, meta_ := c.bytes.drop 256,
                          head := c.bytes.take (min 256 (t.winLen f)) }).bump (pldCtr f.dec o)

/-- A program ends with DROP under a counter of its direction (08 R308, R309, R323). -/
def endDrop (s : State) (e k : Nat) (c : Ctx) (id : Nat) (f : Frame) (o at_ : Nat) : State :=
  s.endProgram e k c id f .drop 0 o at_

/-- A program fault (08 R324). -/
def progFault (s : State) (e k : Nat) (c : Ctx) (id : Nat) (f : Frame) (reason : Nat) : State :=
  let t := s.endDrop e k c id f 0x38 (cycleOf f c)
  let t := t.capture (pldWin e 0x10) [(reason, 24, 4), (e % 32, 16, 5), (c.pc, 0, 14)]
  let t := (t.bump (pldWin e 0x58)).pmuCount 3 (e / 32) 4 1
  let t := t.sample e 5 c.pc f (offsetOf c)
  t.pldCause (e / 32) 0 1

/-- What stops the fetch of a word: no live block of the frame's slot or a FAULTY one, a class the frame
may not run, or a word that faults by itself (08 R307, R318, R324, R329, R334). -/
def fetchFault (s : State) (e : Nat) (c : Ctx) : Option Nat :=
  let b := (s.polder (e / 32)).block (c.pc / 64)
  let w := (s.polder (e / 32)).word c.pc
  if 16384 ≤ c.pc ∨ b.slots.testBit c.slot = false ∨ b.faulty then some 6
  else if (b.bounded ∧ c.bounded = false) ∨ (c.bounded ∧ c.mode = 1) then some 9
  else AWord.staticFault w c.pc

/-- What a word does beside the bookkeeping of every word: it goes on, faults, or ends its program. -/
inductive WordEnd where
  | go (s : State) (c : Ctx)
  | fault (reason : Nat)
  | stop (s : State)

/-- One action word of an engine's running context, if it is the word of `op` (08 R302, R316). `sem` is
given the state, the context, the frame and the word. -/
def runWord (s : State) (e op : Nat) (sem : State → Nat → Ctx → Nat → Frame → BitVec 64 → WordEnd) : Out :=
  match s.running? e with
  | none => .next s
  | some (k, c) =>
    match s.frame c.frame with
    | none => .next s
    | some f =>
      if 120 ≤ c.executed then .next s
      else
        match s.fetchFault e c with
        | some r => .next (s.progFault e k c c.frame f r)
        | none =>
          let w := (s.polder (e / 32)).word c.pc
          if AWord.op w ≠ op then .next s
          else
            match sem s k c c.frame f w with
            | .fault r => .next (s.progFault e k c c.frame f r)
            | .stop t => .next t
            | .go t d =>
              let t := t.pmuCount 3 (e / 32) 1 (d.executed - c.executed)
              .next ((t.setCtx e k d).sample e 1 c.pc f (offsetOf d - 1))

/-- A word that only changes its context (08 R316). -/
def runPure (s : State) (e op : Nat) (sem : Ctx → BitVec 64 → WordOut) : Out :=
  s.runWord e op (fun s _ c _ _ w =>
    match sem c w with
    | .next d => .go s d
    | .fault r => .fault r)

/-! ### HBM requests (08 R326–R328) -/

/-- Whether request age a is older than b (08 R326). -/
def older (a b : Nat) : Bool := decide (1 ≤ (b + 4096 - a) % 4096 ∧ (b + 4096 - a) % 4096 ≤ 2047)

/-- A request made (08 R326); a stack in self-refresh wakes for it, but not for a lookup that its first level answers
(09 R347). -/
def hbmAsk (s : State) (r : HbmReq) : State :=
  let t := { s with hbm := { s.hbm with reqs := s.hbm.reqs ++ [r] } }
  if r.granted then t else t.hbmWake

/-- Whether a context's result under a tag is still to come: a request of it stands. -/
def asked (s : State) (e k : Nat) (tag : Option Nat) : Bool :=
  s.hbm.reqs.any (fun r => decide (r.engine = e ∧ r.ctx = k ∧ r.tag = tag))

/-- A requester's place at every level of the arbiter: its client, and at a polder's port its engine and context. -/
def reqPort (r : HbmReq) : Nat := (r.client * 1024 + r.engine) * 3 + r.ctx

/-- The performance monitor's oldest request (08 R326; 18 R612). -/
def ringReq (s : State) : List HbmReq :=
  (s.pmu.asks.take 1).map (fun c =>
    { client := 34, age := c % 4096, cycle := c, engine := 0, ctx := 0, tag := none, granted := false, out := none, read := none })

/-- The oldest request waiting, ties to the lowest requester at each level (08 R326). -/
def oldestReq (s : State) : Option HbmReq :=
  (s.hbm.reqs.filter (fun r => !r.granted) ++ s.ringReq).foldl (fun acc r =>
    match acc with
    | none => some r
    | some o => if older r.age o.age ∨ (r.age = o.age ∧ reqPort r < reqPort o) then some r else acc) none

/-- A line read or written, counted at its pseudo-channel (18 R606). -/
def lineCount (s : State) (addr ev : Nat) : State := s.pmuCount 7 (addr / 256 % 16) ev 1

/-- The address of record `k` of the ring's extension (18 R612). -/
def ringAddr (s : State) (k : Nat) : Nat := 0x284000000 + 32 * (k % 2 ^ s.regField Reg.pmuRingCtrl 24 5)

/-- The oldest record of the stage is written to the extension, and the next write asked for where one waits beyond the limit
of the monitor's requests (08 R327; 18 R612). -/
def ringWrite (s : State) : State :=
  let p := s.pmu
  let asks := p.asks.drop 1
  match p.ring with
  | [] => { s with pmu := { p with asks := asks } }
  | r :: rest =>
    let asks := if asks.length < min 256 rest.length then asks ++ [s.now] else asks
    let q := { p with ring := rest, ext := p.ext ++ [(p.extNext, r)], extNext := p.extNext + 1, asks := asks }
    ({ s with pmu := q }).lineCount (s.ringAddr p.extNext) 1

/-- A grant of the HBM-level arbiter, with the cycles it was waited for (08 R341; 18 R606). -/
def granted (s : State) (wait : Nat) : State :=
  let t := { s with arbMax := max s.arbMax (min 4095 wait) }
  (t.pmuCount 8 0 0 1).pmuCount 8 0 1 wait

/-- The line of a place that a lookup reads, in the region of its table: the learning region, the HBM exact region, the LPM
region or the trie region (09; 15 R541). -/
def tableAddr (s : State) (n : Nat) (p : LkOut) : Nat :=
  let l := (Config.tableLine n p.probe (p.loc.getD 0)).toNat
  match s.table n with
  | none => 0
  | some t =>
    if t.kind = 1 then 0x264000000 + 256 * (l % 2 ^ 19)
    else if t.kind = 2 then 0x26C000000 + 256 * (l % 2 ^ 19)
    else if t.learn = 0 then 0x254000000 + 256 * l
    else 0x250000000 + 256 * (l % 2 ^ 18)

/-- What the check of the line that a granted lookup read finds: an uncorrectable line, or one corrected (15 R543). -/
def lineChecked (s : State) (n : Nat) (r : HbmReq) (bad fixed : Bool) : State :=
  match r.read with
  | none => s
  | some p => if bad then s.hbmBad (s.tableAddr n p) false else if fixed then s.hbmFixed (s.tableAddr n p) false false else s

/-- The handle of the BIND a context is parked on: the low 32 bits of its G[A]. -/
def parkedHandle (s : State) (e : Nat) (c : Ctx) : Nat :=
  (c.g (AWord.a ((s.polder (e / 32)).word c.pc))).toNat % 2 ^ 32

/-- A request granted: what it reads is taken now (09 R361) and counted by line (15 R541; 18 R606). -/
def grantLines (s : State) (r : HbmReq) : HbmReq × State :=
  let g := { r with granted := true }
  match Tab.find (s.engine r.engine).ctxs r.ctx with
  | none => (g, s)
  | some c =>
    match r.tag with
    | none =>
      let i := Handle.index (s.parkedHandle r.engine c)
      (g, ((s.lineCount (Hbm.recordAddr (2 * i)) 0).lineCount (Hbm.recordAddr (2 * i + 1)) 0).lineCount
        (0x240000000 + 16 * i) 0)
    | some t =>
      match Tab.find c.tags t with
      | none => (g, s)
      | some k =>
        let x := s.latchRead r k.table k.key
        (x, match x.read with
          | some p => s.lineCount (s.tableAddr k.table p) 0
          | none => s)

/-- A parked context: its run slot is free from its word's cycle on (08 R299, R303). -/
def park (s : State) (e k : Nat) (c : Ctx) (f : Frame) (tag : Option Nat) : State :=
  let d := { c with cond := .parked, parkAt := cycleOf f c, waitTag := tag }
  let en := s.engine e
  let t := s.setEngine e { ctxs := Tab.ins en.ctxs k d, idleSince := cycleOf f c }
  let t := (t.bump (pldWin e 0x48)).pmuCount 3 (e / 32) 2 1
  let t := if c.parkAt = 0 then t.bump (pldCtr f.dec 0x68) else t
  t.sample e 3 c.pc f (offsetOf c)

/-! ### Dispatch (08 R300) -/

/-- Whether an engine may take a frame that enters at a program. -/
def eligibleEngine (s : State) (program e : Nat) : Bool :=
  let p := s.polder (e / 32)
  let n := (s.engine e).ctxs.length
  decide (p.state = .awake) && p.inService.getLsbD (e % 32) &&
    (s.engine e).ctxs.all (fun c => decide (c.2.cond = .parked)) &&
    decide (if (p.block (program / 64)).bounded then n ≤ 1 else n ≤ 2)

/-- The engine a frame goes to. -/
def chooseEngine (s : State) (program : Nat) : Option Nat :=
  (List.range 1024).foldl (fun acc e =>
    if s.eligibleEngine program e then
      match acc with
      | none => some e
      | some b => if (s.engine e).idleSince < (s.engine b).idleSince then some e else acc
    else acc) none

/-- The context of a frame as it is dispatched (08 R298, R311). -/
def freshCtx (s : State) (id : Nat) (f : Frame) (bounded : Bool) : Ctx :=
  let m := f.meta_.set 3 ((f.meta_.getD 3 0) ||| BitVec.ofNat 8 (16 * b2n bounded))
  { frame := id, cond := .running, bytes := sliceZ (s.seen f) 0 256 ++ m, regs := [], z := false, c := false, s := false,
    h := false, pc := f.program, tags := [], executed := 0, bounded := bounded, hbm := 0, lrn := 0, bindDone := false,
    bindcDone := false, nearBound := false, parkAt := 0, parked := 0, age := 0, readyAt := 0, waitTag := none,
    settled := none }

/-- A frame dispatched to an engine (08 R300; 18 R607). -/
def dispatchTo (s : State) (id : Nat) (f : Frame) (e : Nat) : State :=
  let b := ((s.polder (e / 32)).block (f.program / 64)).bounded
  let k := ([0, 1, 2].find? (fun k => (Tab.find (s.engine e).ctxs k).isNone)).getD 0
  let g := { f with bounded := b }
  let adm := s.sampleAdmits e g
  let n := if adm then s.pmu.admitted + 1 else s.pmu.admitted
  let due := adm && decide (s.forceField Reg.pmuSamplePeriod 0 16 + 1 ≤ n)
  let t := { s with pmu := { s.pmu with admitted := if due then 0 else n } }
  let t := t.setFrame id { g with stage := .engine, sampled := due }
  let t := t.setCtx e k (t.freshCtx id g b)
  let t := ((t.bump (pldCtr f.dec 0)).bump (pldWin e 0x40)).pmuCount 3 (e / 32) 0 1
  t.sample e 0 f.program g 104

/-! ### Verdicts (08 R323) -/

/-- The counter of a verdict and what it becomes. -/
def settleVerdict (s : State) (f : Frame) (v reason : Nat) : Verdict × Nat :=
  let bound := f.bind.isSome
  if v = 3 then (.drop, 0x80 + 8 * reason)
  else if v = 4 then (.divert, 0x20)
  else if v = 2 then (if (s.pair f.pair).bypassPermit then (.bypass, 0x18) else (.drop, 0x50))
  else if (v = 1) ≠ (f.dec = true) then (.drop, 0x48)
  else if bound = false then (.drop, 0x40)
  else if v = 1 then (.decrypt, 0x10)
  else (.encrypt, 0x08)

end State

/-- DISPATCH (08 R300). -/
def execDispatch (id : Nat) (s : State) : Out :=
  match s.frame id with
  | none => .next s
  | some f =>
    if f.stage ≠ .handed then .next s
    else
      match s.chooseEngine f.program with
      | none => .next (s.dropFrame id (State.pldCtr f.dec 0x28))
      | some e => .next (s.dispatchTo id f e)

/-- HBM_REQUEST_GRANT (08 R326, R327, R341; 18 R606): the oldest waiting request is granted. -/
def execHbmRequestGrant (s : State) : Out :=
  if s.hbm.st ≠ .active then .next s
  else
    match s.oldestReq with
    | none => .next s
    | some r =>
      let wait := s.now - r.cycle
      if r.client = 34 then .next (s.ringWrite.granted wait)
      else
        let (g, t) := s.grantLines r
        .next (({ t with hbm := { t.hbm with reqs := t.hbm.reqs.map (fun x => if x = r then g else x) } }).granted wait)

/-- HBM_RESULT_ARRIVE (08 R327, R336; 09 R347; 15 R543): the result of a context's granted lookup; `bad` names the way whose
line was uncorrectable, `fixed` says that a single-bit error of the line read was corrected. -/
def execHbmResultArrive (e : Fin 1024) (c : Fin 3) (bad : Option (Fin 8)) (s : State) (fixed : Bool := false) : Out :=
  match s.hbm.reqs.find? (fun r => decide (r.engine = e.val ∧ r.ctx = c.val) && r.granted && r.tag.isSome),
      Tab.find (s.engine e.val).ctxs c.val with
  | some r, some x =>
    let n := r.tag.getD 0
    match Tab.find x.tags n with
    | none => .next s
    | some g =>
      let (res, t) := (s.lineChecked g.table r bad.isSome fixed).lookHbm g.table r bad
      let t := { t with hbm := { t.hbm with reqs := t.hbm.reqs.filter (fun y => decide (y ≠ r)) } }
      let x := { x with tags := Tab.ins x.tags n { g with result := some res } }
      let x := if x.cond = .parked ∧ x.waitTag = some n then { x with cond := .ready, readyAt := s.now } else x
      .next (t.setCtx e.val c.val x)
  | _, _ => .next s

end Sys2Proof.Machine
end

