-- ==== Sys2Proof/Machine/Flags.lean ====
section
/-! DEFINITION. The flags of a context: Z of a result, Z, C and S of a comparison, and the conditions of BR over Z, C,
S and H (08 R298, R316, R317). -/

namespace Sys2Proof.Machine

namespace Ctx

/-- A result in G[D] with Z, and the next word (08 R316). -/
def result (x : Ctx) (d : Nat) (v : BitVec 64) : Ctx := ({ x.setG d v with z := decide (v = 0) }).advance

/-- Z, C and S of a comparison (08 R316). -/
def compare (x : Ctx) (a b : BitVec 64) : Ctx :=
  { x with z := decide (a = b), c := decide (a.toNat < b.toNat), s := decide (a.toInt < b.toInt) }.advance

/-- Whether a COND holds (08 R317). -/
def holds (x : Ctx) (n : Nat) : Bool :=
  match n with
  | 0 => true
  | 1 => x.z
  | 2 => !x.z
  | 3 => x.c
  | 4 => !x.c
  | 5 => x.s
  | 6 => !x.s
  | 7 => x.h
  | 8 => !x.h
  | 9 => x.c || x.z
  | _ => !x.c && !x.z

end Ctx

end Sys2Proof.Machine
end

