-- ==== Sys2Proof/Machine/Words.lean ====
section
/-! DEFINITION. The action words, one meaning each (08 R311–R325). -/

namespace Sys2Proof.Machine
open Sys2Proof.Bits

/-! ### Words over the context (08 R315–R317) -/

namespace Ctx

/-- OFFSET of format C, with G[A][11:0] when IDX is 1 (08 R315). -/
def fieldAt (x : Ctx) (w : BitVec 64) : Nat :=
  AWord.offset w + (if AWord.idx w then (x.g (AWord.a w)).toNat % 4096 else 0)

/-- The key bytes of formats L and K: G[A] onward, each big-endian (08 R316, 09 R348). -/
def keyBytes (x : Ctx) (a n : Nat) : Bytes := (List.range n).flatMap (fun i => beBytes 8 (x.g (a + i)).toNat)

/-- A word that writes G[D] from two registers, with Z. -/
def binary (f : BitVec 64 → BitVec 64 → BitVec 64) (x : Ctx) (w : BitVec 64) : WordOut :=
  .next (x.result (AWord.d w) (f (x.g (AWord.a w)) (x.g (AWord.b w))))

/-- A word that writes G[D] from a register and IMM, with Z. -/
def immediate (f : BitVec 64 → BitVec 64 → BitVec 64) (x : Ctx) (w : BitVec 64) : WordOut :=
  .next (x.result (AWord.d w) (f (x.g (AWord.a w)) (AWord.imm w)))

/-- The ones'-complement sum of CSUM, folded to 16 bits (08 R316). -/
def onesSum (a b : BitVec 64) : BitVec 64 :=
  let n := a.toNat
  let t := field n 0 16 + field n 16 16 + field n 32 16 + field n 48 16 + field b.toNat 0 16
  let t := t % 65536 + t / 65536
  BitVec.ofNat 64 (t % 65536 + t / 65536)

/-- LDC (08 R316). -/
def ldc (x : Ctx) (w : BitVec 64) : WordOut :=
  let o := x.fieldAt w
  if AWord.ctxBits < o + AWord.width w then .fault 4
  else .next (x.setG (AWord.d w) (BitVec.ofNat 64 (x.ctxField o (AWord.width w)))).advance

/-- STC (08 R314, R316); frame bytes beyond the frame's end, `len`, stay as they are. -/
def stc (len : Nat) (x : Ctx) (w : BitVec 64) : WordOut :=
  let o := x.fieldAt w
  let n := AWord.width w
  if AWord.ctxBits < o + n then .fault 4
  else if o < 2048 + 640 ∧ 2048 < o + n then .fault 5
  else
    let y := x.setCtxField o n ((x.g (AWord.d w)).toNat % 2 ^ n)
    let k := min 256 len
    .next { y with bytes := y.bytes.take k ++ slice x.bytes k (256 - k) ++ y.bytes.drop 256 }.advance

/-- SEL (08 R316). -/
def sel (x : Ctx) (w : BitVec 64) : WordOut :=
  .next (x.setG (AWord.d w) (if x.z then x.g (AWord.a w) else x.g (AWord.b w))).advance

/-- LDH (08 R316). -/
def ldh (x : Ctx) (w : BitVec 64) : WordOut :=
  .next (x.setG (AWord.d w) (BitVec.ofNat 64 ((x.g (AWord.d w)).toNat % 2 ^ 48 + field w.toNat 0 16 * 2 ^ 48))).advance

/-- BR (08 R316–R318). -/
def br (x : Ctx) (w : BitVec 64) : WordOut :=
  .next (if x.holds (AWord.d w) then x.goto_ (AWord.target w) else x.advance)

/-- BBIT (08 R316). -/
def bbit (x : Ctx) (w : BitVec 64) : WordOut :=
  .next (if (x.g (AWord.a w)).getLsbD (AWord.bitNo w) = decide (AWord.d w = 1) then x.goto_ (AWord.target w) else x.advance)

/-- BTAB (08 R316, R318). -/
def btab (x : Ctx) (w : BitVec 64) : WordOut :=
  .next (x.goto_ (AWord.target w + min (x.g (AWord.a w)).toNat (AWord.limit w)))

/-- The pattern hits of the metadata, lowest-numbered first: index, group and 24 bits (08 R312). -/
def patternHits (x : Ctx) : List (Nat × Nat × Nat) :=
  (List.range (min 4 (x.meta_ 18 1))).map (fun i =>
    let v := x.meta_ (20 + 3 * i) 3
    (field v 12 12, field v 8 4, v))

/-- PAT (08 R316). -/
def pat (x : Ctx) (w : BitVec 64) : WordOut :=
  let n := AWord.number w
  let r := x.patternHits.find? (fun h => decide ((if AWord.kind w then h.2.1 else h.1) = n))
  let v := match r with
    | some h => h.2.2
    | none => 0
  .next { x.setG (AWord.d w) (BitVec.ofNat 64 v) with h := r.isSome }.advance

/-- The largest value, the metadata offset and the size of an output field (08 R312, R320). -/
def emitField (n : Nat) : Nat × Nat × Nat :=
  match n with
  | 0 => (255, 72, 1)
  | 1 => (48, 73, 1)
  | 2 => (2, 74, 1)
  | 3 => (255, 75, 1)
  | 4 => (7, 76, 1)
  | _ => (65535, 78, 2)

/-- EMIT (08 R320). -/
def emit (x : Ctx) (w : BitVec 64) : WordOut :=
  let (top, off, n) := emitField (AWord.fieldE w)
  let v := (x.g (AWord.a w)).toNat
  if top < v then .fault 10 else .next (x.setMeta off n v).advance

/-- BINDC (08 R316, R325). -/
def bindc (x : Ctx) (w : BitVec 64) : WordOut :=
  if x.bindcDone then .fault 11
  else
    let ok := decide (x.mode = 3) && !x.dec
    let st := if ok then 0 else 5
    let y := (x.setMeta 68 1 st).setG (AWord.d w) (BitVec.ofNat 64 st)
    let y := if ok then y.setMeta 70 2 (2 ^ 15 + (x.g (AWord.a w)).toNat % 4096) else y
    .next { y with h := ok, bindcDone := true }.advance

/-- The result of a lookup in G[D] and, when WIDE, G[D + 1], with H (08 R316, R319). -/
def take (x : Ctx) (w : BitVec 64) (r : Bool × BitVec 64 × BitVec 64) : Ctx :=
  let y := x.setG (AWord.d w) r.2.1
  let y := if AWord.wide w then y.setG (AWord.d w + 1) r.2.2 else y
  { y with h := r.1, tags := Tab.del y.tags (AWord.tagW w) }.advance

end Ctx

namespace State

/-- LKI (08 R307, R309, R310, R316, R319; 09 R345–R347). -/
def lki (e : Nat) (parity : Option (Fin 4)) (s : State) (k : Nat) (x : Ctx) (id : Nat) (f : Frame) (w : BitVec 64) : WordEnd :=
  let n := AWord.table w
  let g := AWord.tagL w
  let key := x.keyBytes (AWord.keyReg w) (AWord.keyWords w)
  let at_ := x.executed + x.parked
  if (Tab.find x.tags g).isSome then .fault 7
  else if s.lkp.inHbm n then
    if x.bounded = false then .fault 9
    else if 2 ≤ x.hbm ∨ s.hbm.reqs.any (fun r => decide (r.engine = e ∧ r.ctx = k)) then .fault 8
    else if x.mode = 3 ∧ x.nearBound then .stop (s.endDrop e k x id f 0x60 (cycleOf f x))
    else
      let t := (s.bump (lkpCtr 0x08)).pmuCount 4 0 1 1
      let t := match parity.bind (t.dieEntry n key) with
        | some o => t.entryFault n false o
        | none => t
      let r : HbmReq := { client := e / 32, age := cycleOf f x % 4096, cycle := cycleOf f x, engine := e, ctx := k,
                          tag := some g, granted := false, out := none, read := none }
      let t := if (t.lkp.place n key true).isSome then t.hbmAsk r else (t.bump (lkpCtr 0x30)).hbmAsk (t.latchRead r n key)
      let tag : LkTag := { table := n, hbm := true, issued := at_, result := none, key := key }
      .go t { x with hbm := x.hbm + 1, tags := Tab.ins x.tags g tag }.advance
  else
    let (r, t) := s.lookDie n key parity
    let tag : LkTag := { table := n, hbm := false, issued := at_, result := some r, key := key }
    .go t { x with tags := Tab.ins x.tags g tag }.advance

/-- LKW (08 R319): an on-die result is there in the 12th cycle after its LKI; a result from HBM that has
not arrived parks the context. -/
def lkw (e : Nat) (s : State) (k : Nat) (x : Ctx) (_ : Nat) (f : Frame) (w : BitVec 64) : WordEnd :=
  let g := AWord.tagW w
  match Tab.find x.tags g with
  | none => .fault 7
  | some t =>
    match t.result with
    | some r =>
      let n := if t.hbm then x.executed else max x.executed (t.issued + 12 - x.parked)
      if 120 ≤ n then .go s { x with executed := 120 } else .go s (({ x with executed := n }).take w r)
    | none => .stop (s.park e k { x with age := (f.arrival + 104 + t.issued) % 4096 } f (some g))

/-- A binding kept with its frame and its context (08 R312, R325). -/
def bound (s : State) (x : Ctx) (id : Nat) (f : Frame) (h st : Nat) (b : Option Binding) : State × Ctx :=
  let y := (x.setMeta 68 1 st)
  let y := if b.isSome then y.setMeta 64 4 h else y
  let y := { y with nearBound := y.nearBound || (b.isSome && !Handle.far h) }
  (match b with
    | some b => s.setFrame id { f with bind := some b, far := Handle.far h }
    | none => s, y)


/-- BIND's status in G[D] and H, and the next word (08 R316, R325). -/
def bindAnswer (x : Ctx) (w : BitVec 64) (st : Nat) : Ctx :=
  { x.setG (AWord.d w) (BitVec.ofNat 64 st) with h := decide (st = 0) }.advance

/-- BIND of a far handle by a BOUNDED frame: the context parks until the store answers (10 R385). -/
def bindFar (s : State) (e k : Nat) (x : Ctx) (f : Frame) (h : Nat) : State :=
  let hit := s.cached (Handle.index h)
  let t := ((s.bump (chnCtr 0x08)).bump (chnCtr (if hit then 0x10 else 0x18))).pmuCount 5 0 1 1
  let t := if hit then t
    else (t.pmuCount 5 0 2 1).hbmAsk { client := 32, age := cycleOf f x % 4096, cycle := cycleOf f x, engine := e, ctx := k,
                                       tag := none, granted := false, out := none, read := none }
  t.park e k { x with age := cycleOf f x % 4096, hbm := x.hbm + 1, bindDone := true } f none

/-- BIND (08 R308–R310, R316, R325; 10 R384, R385): the handle is the low 32 bits of G[A]. -/
def bind (e : Nat) (parity : Bool) (s : State) (k : Nat) (x : Ctx) (id : Nat) (f : Frame) (w : BitVec 64) : WordEnd :=
  let h := (x.g (AWord.a w)).toNat % 2 ^ 32
  if x.bindDone then .fault 11
  else if x.bounded ∧ (2 ≤ x.hbm ∨ s.hbm.reqs.any (fun r => decide (r.engine = e ∧ r.ctx = k))) then .fault 8
  else if Handle.far h then
    if x.bounded then .stop (s.bindFar e k x f h) else .stop (s.endDrop e k x id f 0x58 (cycleOf f x))
  else
    let t := if Handle.kind h = 1 then (s.bump (chnCtr 0)).pmuCount 5 0 0 1 else s
    let t := if parity then t.recordFault false (Handle.index h) else t
    let (st, b, t) := t.bindTo f h
    let (t, y) := t.bound x id f h st b
    let y := bindAnswer { y with bindDone := true, hbm := if x.bounded then x.hbm + 1 else x.hbm } w st
    if b.isSome ∧ x.mode = 3 ∧ 0 < x.hbm then
      .stop (t.endDrop e k y id ((t.frame id).getD f) 0x60 (cycleOf f x))
    else .go t y

/-- VERD (08 R302, R313, R323). -/
def verd (e : Nat) (s : State) (k : Nat) (x : Ctx) (id : Nat) (f : Frame) (w : BitVec 64) : WordEnd :=
  if x.mode = 1 ∧ (x.meta_ 72 1 ≠ 0 ∨ x.meta_ 73 1 ≠ 0) then .fault 10
  else
    let y := (x.setMeta 69 1 (AWord.verdict w * 32 + AWord.reason w)).advance
    let (v, o) := s.settleVerdict f (AWord.verdict w) (AWord.reason w)
    let t := s.endProgram e k y id f v (AWord.reason w) o (cycleOf f x)
    let t := t.pmuCount 3 (e / 32) 1 1
    .stop ((t.sample e 1 x.pc f (offsetOf x)).sample e 2 x.pc f (offsetOf x))

/-- CNT (08 R322): octets at once when the frame has fully arrived or its length is known. -/
def cnt (s : State) (x : Ctx) (id : Nat) (f : Frame) (w : BitVec 64) : WordEnd :=
  let i := AWord.baseN w + (if AWord.idx w then (x.g (AWord.a w)).toNat else 0)
  if 16384 ≤ i then .fault 14
  else
    let now := x.lenFinal || decide (f.rx = .good)
    let n := if now then s.winLen f else 0
    let t := { s with counts := Tab.upd (fun _ => CountEntry.zero) s.counts i (fun c =>
      { frames := c.frames + 1, octets := c.octets + BitVec.ofNat 64 n }) }
    .go (if now then t else t.setFrame id { f with cnts := f.cnts ++ [i] }) x.advance

/-- The cycles of a frame's duration, counted in its decrypt latency (01 R39; 06 R207). -/
def duration (s : State) (f : Frame) : Nat :=
  let w := (s.pair f.pair).width
  if f.dec then Rate.ceil (if f.isTrunk then Rate.trunk w f.wire.length else Rate.ether w f.wire.length) else 0

/-- What the line coding adds to the departure of a trunk frame's header at a byte of the port's stream (04 R155, R161; 06
R207; log entry 96): the lane that carries it, and the time. -/
def codingOut (s : State) (p pos : Nat) : Nat × Int :=
  let w := (s.pair p).width
  let (k, j) := Ndoath.wordAt w (pos - (s.framer p).txRow.getD 0)
  let debt := (s.lane (32 + p + k)).tx.debt
  let short := min 8 (debt / 32)
  (k, Ndoath.symbolTime (Ndoath.coding (8 - short) (debt - 32 * short) j))

/-- The corrected counter value of a departure in cycle `d` (14 R525): the start-of-frame leaves with the
phase it arrived with (01 R38, R39; DEDUCED). -/
def departCount (s : State) (f : Frame) (d : Nat) : Int :=
  let pcs : Int := countAt d + f.phase
  let w := (s.pair f.pair).width
  if f.dec then pcs
  else if (s.pair f.pair).mode = .trunk then
    let (k, t) := s.codingOut f.pair (Ndoath.streamAt w (departAt f d))
    pcs + s.laneDelay (f.pair + k) false + t
  else pcs + s.laneDelay (f.pair + Config.departLane d % (max 1 w)) false

/-- TIME (08 R321; 14 R520). -/
def time (s : State) (x : Ctx) (f : Frame) (w : BitVec 64) : WordEnd :=
  let base := s.baseSeen (AWord.baseT w)
  let put := fun (s : State) (v : Nat) (h : Bool) =>
    WordEnd.go s { x.setG (AWord.d w) (BitVec.ofNat 64 (if AWord.half w then v else v / 2 ^ 16)) with h := h }.advance
  if AWord.point w = 0 then put s (base.at_ f.count) true
  else if AWord.point w = 1 then
    if x.parkAt = 0 ∧ (f.dec = false ∨ x.lenFinal) then
      put s (base.at_ (s.departCount f (f.arrival + 370 + s.duration f))) true
    else .go s { x.setG (AWord.d w) 0 with h := false }.advance
  else
    let (i, t) := s.fresh
    .go t { x.setG (AWord.d w) (Config.timePoint i) with h := Config.timePointH i }.advance

/-- LRN (08 R322; 09 R357, R358). -/
def lrn (e : Nat) (s : State) (x : Ctx) (f : Frame) (w : BitVec 64) : WordEnd :=
  let n := AWord.table w
  let two : Bool := match s.table n with
    | some t => decide (t.datawords = 2)
    | none => false
  if 2 ≤ x.lrn then .fault 12
  else if two ∧ AWord.regK w = 15 then .fault 4
  else
    let r : LearnReport := { table := n, key := x.keyBytes (AWord.keyReg w) (AWord.keyWords w), d0 := x.g (AWord.regK w)
                             d1 := if two then x.g (AWord.regK w + 1) else 0, engine := e, pair := f.pair, dec := f.dec
                             ensign := f.ensign }
    .go (s.learnSend r) { x with lrn := x.lrn + 1 }.advance

/-! ### Resumption -/

/-- The oldest ready context of an engine (08 R328). -/
def oldestReady (s : State) (e : Nat) : Option (Nat × Ctx) :=
  ((s.engine e).ctxs.filter (fun c => decide (c.2.cond = .ready))).foldl (fun acc c =>
    match acc with
    | none => some c
    | some b => if older c.2.age b.2.age then some c else acc) none

/-- A ready context resumes and its word completes (08 R303, R319, R328; 10 R385). -/
def resume (s : State) (e k : Nat) (x : Ctx) (f : Frame) : State :=
  let w := (s.polder (e / 32)).word x.pc
  let x := { x with cond := .running, parked := x.parked + (s.now - x.parkAt), waitTag := none }
  let y := if AWord.op w = 0x29 then
      (match Tab.find x.tags (AWord.tagW w) with
       | some t => x.take w (t.result.getD (false, 0, 0))
       | none => x.advance)
    else bindAnswer x w (x.meta_ 68 1)
  let t := (s.add (pldWin e 0x50) (s.now - x.readyAt)).pmuCount 3 (e / 32) 1 1
  let t := t.setCtx e k y
  (t.sample e 4 x.pc f (offsetOf x)).sample e 1 x.pc f (offsetOf x)

/-- A far BIND is answered (10 R385–R388): the record comes to the cache unless its read failed. A sealing key's cell that
fails ends the run in C4, the frame with it. -/
def farAnswer (s : State) (e k : Nat) (x : Ctx) (f : Frame) (h : Nat) (err : FarErr) : State :=
  let i := Handle.index h
  let err := if s.cached i then err else s.readErr err
  let t := s.farFault i err
  if err = .cell then t else
  let clean : Bool := match err with
    | .none | .parity | .single _ => true
    | _ => false
  let t := if clean && (t.chIndex true i).body.isSome then t.cacheTake i else t
  let (st, b, t) := t.bindTo f h
  let (t, y) := t.bound x x.frame f h st b
  let t := { t with hbm := { t.hbm with reqs := t.hbm.reqs.filter (fun r =>
    decide (¬(r.engine = e ∧ r.ctx = k ∧ r.tag = none))) } }
  t.setCtx e k { y with cond := .ready, readyAt := s.now }

end State

/-- NOP (08 R316). -/
def execWNop (e : Fin 1024) (s : State) : Out := s.runPure e.val 0x00 (fun x _ => .next x.advance)

/-- LDC (08 R316). -/
def execWLdc (e : Fin 1024) (s : State) : Out := s.runPure e.val 0x01 Ctx.ldc

/-- STC (08 R314). -/
def execWStc (e : Fin 1024) (s : State) : Out :=
  s.runWord e.val 0x02 (fun s _ x _ f w =>
    match x.stc (s.winLen f) w with
    | .next y => .go s y
    | .fault r => .fault r)

/-- MOV (08 R316). -/
def execWMov (e : Fin 1024) (s : State) : Out :=
  s.runPure e.val 0x03 (fun x w => .next (x.setG (AWord.d w) (x.g (AWord.a w))).advance)

/-- LDI (08 R316). -/
def execWLdi (e : Fin 1024) (s : State) : Out :=
  s.runPure e.val 0x04 (fun x w => .next (x.setG (AWord.d w) (AWord.imm w)).advance)

/-- LDH (08 R316). -/
def execWLdh (e : Fin 1024) (s : State) : Out := s.runPure e.val 0x05 Ctx.ldh

/-- SEL (08 R316). -/
def execWSel (e : Fin 1024) (s : State) : Out := s.runPure e.val 0x06 Ctx.sel

/-- ADD (08 R316). -/
def execWAdd (e : Fin 1024) (s : State) : Out := s.runPure e.val 0x08 (Ctx.binary (fun a b => a + b))

/-- SUB (08 R316). -/
def execWSub (e : Fin 1024) (s : State) : Out := s.runPure e.val 0x09 (Ctx.binary (fun a b => a - b))

/-- AND (08 R316). -/
def execWAnd (e : Fin 1024) (s : State) : Out := s.runPure e.val 0x0A (Ctx.binary (fun a b => a &&& b))

/-- OR (08 R316). -/
def execWOr (e : Fin 1024) (s : State) : Out := s.runPure e.val 0x0B (Ctx.binary (fun a b => a ||| b))

/-- XOR (08 R316). -/
def execWXor (e : Fin 1024) (s : State) : Out := s.runPure e.val 0x0C (Ctx.binary (fun a b => a ^^^ b))

/-- SHL (08 R316). -/
def execWShl (e : Fin 1024) (s : State) : Out := s.runPure e.val 0x0D (Ctx.binary (fun a b => a <<< (b.toNat % 64)))

/-- SHR (08 R316). -/
def execWShr (e : Fin 1024) (s : State) : Out := s.runPure e.val 0x0E (Ctx.binary (fun a b => a >>> (b.toNat % 64)))

/-- CMP (08 R316). -/
def execWCmp (e : Fin 1024) (s : State) : Out :=
  s.runPure e.val 0x0F (fun x w => .next (x.compare (x.g (AWord.a w)) (x.g (AWord.b w))))

/-- ADDI (08 R316). -/
def execWAddi (e : Fin 1024) (s : State) : Out := s.runPure e.val 0x10 (Ctx.immediate (fun a b => a + b))

/-- SUBI (08 R316). -/
def execWSubi (e : Fin 1024) (s : State) : Out := s.runPure e.val 0x11 (Ctx.immediate (fun a b => a - b))

/-- ANDI (08 R316). -/
def execWAndi (e : Fin 1024) (s : State) : Out := s.runPure e.val 0x12 (Ctx.immediate (fun a b => a &&& b))

/-- ORI (08 R316). -/
def execWOri (e : Fin 1024) (s : State) : Out := s.runPure e.val 0x13 (Ctx.immediate (fun a b => a ||| b))

/-- XORI (08 R316). -/
def execWXori (e : Fin 1024) (s : State) : Out := s.runPure e.val 0x14 (Ctx.immediate (fun a b => a ^^^ b))

/-- SHLI (08 R316). -/
def execWShli (e : Fin 1024) (s : State) : Out := s.runPure e.val 0x15 (Ctx.immediate (fun a b => a <<< (b.toNat % 64)))

/-- SHRI (08 R316). -/
def execWShri (e : Fin 1024) (s : State) : Out := s.runPure e.val 0x16 (Ctx.immediate (fun a b => a >>> (b.toNat % 64)))

/-- CMPI (08 R316). -/
def execWCmpi (e : Fin 1024) (s : State) : Out :=
  s.runPure e.val 0x17 (fun x w => .next (x.compare (x.g (AWord.a w)) (AWord.imm w)))

/-- CSUM (08 R316). -/
def execWCsum (e : Fin 1024) (s : State) : Out := s.runPure e.val 0x18 (Ctx.binary Ctx.onesSum)

/-- TST (08 R316). -/
def execWTst (e : Fin 1024) (s : State) : Out :=
  s.runPure e.val 0x19 (fun x w => .next ({ x with z := decide (x.g (AWord.a w) &&& AWord.imm w = 0) }).advance)

/-- BR (08 R316). -/
def execWBr (e : Fin 1024) (s : State) : Out := s.runPure e.val 0x20 Ctx.br

/-- BBIT (08 R316). -/
def execWBbit (e : Fin 1024) (s : State) : Out := s.runPure e.val 0x21 Ctx.bbit

/-- BTAB (08 R316). -/
def execWBtab (e : Fin 1024) (s : State) : Out := s.runPure e.val 0x22 Ctx.btab

/-- LKI (08 R319): `parity` names the way it reads on die whose parity fails; of a filter entry there is one. -/
def execWLki (e : Fin 1024) (parity : Option (Fin 4)) (s : State) : Out := s.runWord e.val 0x28 (State.lki e.val parity)

/-- LKW (08 R319). -/
def execWLkw (e : Fin 1024) (s : State) : Out := s.runWord e.val 0x29 (State.lkw e.val)

/-- PAT (08 R316). -/
def execWPat (e : Fin 1024) (s : State) : Out := s.runPure e.val 0x2C Ctx.pat

/-- BIND (08 R325): `parity` says that the near record it reads fails its parity check. -/
def execWBind (e : Fin 1024) (parity : Bool) (s : State) : Out := s.runWord e.val 0x30 (State.bind e.val parity)

/-- BINDC (08 R325). -/
def execWBindc (e : Fin 1024) (s : State) : Out :=
  s.runWord e.val 0x31 (fun s _ x id f w =>
    match x.bindc w with
    | .fault r => .fault r
    | .next y =>
      .go (if y.h then s.setFrame id { f with circuit := some ((x.g (AWord.a w)).toNat % 4096) } else s) y)

/-- VERD (08 R323). -/
def execWVerd (e : Fin 1024) (s : State) : Out := s.runWord e.val 0x34 (State.verd e.val)

/-- CNT (08 R322). -/
def execWCnt (e : Fin 1024) (s : State) : Out := s.runWord e.val 0x38 (fun s _ x id f w => s.cnt x id f w)

/-- EMIT (08 R320). -/
def execWEmit (e : Fin 1024) (s : State) : Out := s.runPure e.val 0x3A Ctx.emit

/-- TIME (08 R321). -/
def execWTime (e : Fin 1024) (s : State) : Out := s.runWord e.val 0x3C (fun s _ x _ f w => s.time x f w)

/-- LRN (08 R322). -/
def execWLrn (e : Fin 1024) (s : State) : Out := s.runWord e.val 0x3E (fun s _ x _ f w => s.lrn e.val x f w)

/-- CONTEXT_RESUME (08 R328): the oldest ready context takes the free run slot. -/
def execContextResume (e : Fin 1024) (s : State) : Out :=
  if (s.engine e.val).ctxs.any (fun c => decide (c.2.cond = .running ∨ c.2.cond = .done)) then .next s
  else
    match s.oldestReady e.val with
    | none => .next s
    | some (k, x) =>
      match s.frame x.frame with
      | none => .next s
      | some f => .next (s.resume e.val k x f)

/-- FAR_BIND_ANSWER (10 R385): the store answers a far BIND, once a missing record's read is granted. -/
def execFarBindAnswer (e : Fin 1024) (c : Fin 3) (err : FarErr) (s : State) : Out :=
  match Tab.find (s.engine e.val).ctxs c.val with
  | none => .next s
  | some x =>
    let waits := s.hbm.reqs.any (fun r => decide (r.engine = e.val ∧ r.ctx = c.val ∧ r.tag = none) && !r.granted)
    if x.cond ≠ .parked ∨ x.waitTag.isSome ∨ waits then .next s
    else
      match s.frame x.frame with
      | none => .next s
      | some f => .next (s.farAnswer e.val c.val x f (s.parkedHandle e.val x) err)

end Sys2Proof.Machine
end

