-- ==== Sys2Proof/Machine/Polders.lean ====
section
/-! DEFINITION. Polders as units: their program stores, faults, counters and registers (08 R306,
R329–R342). -/

namespace Sys2Proof.Machine
open Sys2Proof.Bits

namespace State

/-- An error captured in PLD_STORE_ERR. -/
def storeErr (s : State) (p kind engine addr : Nat) : State :=
  s.capture (Reg.polder p + 0x0C) [(kind, 28, 2), (engine, 16, 5), (addr, 0, 14)]

/-- A block of a polder changed, in the store or in the steward's copy of one out of service (08 R337). -/
def updBlock (s : State) (p b : Nat) (f : Block → Block) : State :=
  let empty := fun (_ : Nat) => Block.empty
  s.setPolder p ((s.polder p).edit (fun t => Tab.put empty t b (f (Tab.get empty t b))))

/-- A store error found (08 R334). -/
def storeError (s : State) (p addr : Nat) (double : Bool) : State :=
  if double then
    (((s.updBlock p (addr / 64) (fun b => { b with faulty := true })).storeErr p 1 0 addr)).pldCause p 2 1
  else ((s.storeErr p 0 0 addr).bump (Reg.polder p + 0x60)).pldCause p 1 1

/-! ### Commands of PLD_ACC_CMD (08 R330, R341) -/

/-- RESULT of PLD_ACC_STATUS. -/
def pldResult (s : State) (r : Nat) : State := s.setField Reg.pldAccStatus 8 8 r

/-- The polders a command applies to. -/
def accPolders (s : State) (a : PldAccess) : List Nat :=
  (if a.all then List.range 32 else [a.polder]).filter (fun p => !(s.polder p).out)

/-- The command the registers hold. -/
def pldAccessOf (s : State) (cmd : Nat) : PldAccess :=
  let a := s.regN Reg.pldAccAddr
  { cmd := cmd, all := a.testBit 31, polder := field a 24 5, block := field a 6 8, word := field a 0 6
    data := BitVec.ofNat 64 (s.regN Reg.pldAccData + s.regN (Reg.pldAccData + 4) * 2 ^ 32) }

/-- Whether a block refuses a change with LIVE_ENTRY (08 R330, 07 R281). -/
def blockLive (b : Block) (cmd pend : Nat) : Bool :=
  if cmd = 2 ∨ cmd = 6 then decide (b.slots ≠ 0 ∧ b.slots ≠ 2 ^ pend)
  else if cmd = 3 then b.faulty
  else false

/-- The refusal of a command: a change that names only a removed polder has no store to act on. -/
def pldRefusal (s : State) (a : PldAccess) : Option Nat :=
  let ps := s.accPolders a
  let blk := fun p => (s.polder p).block a.block
  let changes := decide (a.cmd = 2 ∨ a.cmd = 3 ∨ a.cmd = 4 ∨ a.cmd = 6)
  if s.pldAcc.isSome then some 0x01
  else if a.cmd ≠ 1 ∧ ps.isEmpty then some 0x46
  else if changes ∧ s.cls.theSlot .pending = none then some 0x44
  else if changes ∧ ps.any (fun p => blockLive (blk p) a.cmd ((s.cls.theSlot .pending).getD 0)) then some 0x45
  else if a.cmd = 5 ∧ ps.all (fun p => !(blk p).faulty) then some 0x47
  else none

/-- A PLD_ACC_CMD write that takes effect, BUSY before an unlisted code (00 R653; log entry 102). -/
def pldBegin (s : State) (cmd : Nat) : State :=
  let a := s.pldAccessOf cmd
  match s.pldRefusal a with
  | some r => s.pldResult r
  | none => { s with pldAcc := some a }

/-- A PLD_ACC_CMD write. -/
def pldCommand (s : State) (cmd : Nat) : State := s.wr .pf0 Reg.pldAccCmd (fun s => s.pldBegin cmd)

/-- What a command does to a block. -/
def blockApply (a : PldAccess) (pend : Nat) (b : Block) : Block :=
  let put := Tab.put (fun _ => 0) b.words a.word a.data
  if a.cmd = 2 then { b with words := put, slots := 2 ^ pend }
  else if a.cmd = 3 then { b with slots := b.slots ||| 2 ^ pend }
  else if a.cmd = 4 then { b with slots := b.slots - (b.slots &&& 2 ^ pend) }
  else if a.cmd = 5 then (if b.faulty then { b with words := put, faulty := false } else b)
  else { b with bounded := a.data.getLsbD 0 }

/-- A READ: the word and its block's flags; with ALL, of the lowest polder not removed. -/
def pldReadOut (s : State) (a : PldAccess) : State :=
  match s.accPolders a with
  | [] => s.setRegs [(Reg.pldAccData, 0), (Reg.pldAccData + 4, 0), (Reg.pldAccBlock, 0)]
  | p :: _ =>
    let b := (s.polder p).block a.block
    let w := (s.polder p).word (a.block * 64 + a.word)
    s.setRegs [(Reg.pldAccData, BitVec.ofNat 32 w.toNat), (Reg.pldAccData + 4, BitVec.ofNat 32 (w.toNat / 2 ^ 32)),
      (Reg.pldAccBlock, word [(b.slots, 0, 4), (b2n b.bounded, 8, 1), (b2n b.faulty, 9, 1)])]

/-- A command completes: its checks are made again where the PENDING slot has moved on meanwhile. With ALL, a change
reaches the steward's copy of a polder out of service too (08 R330, R337). -/
def pldFinish (s : State) : State :=
  match s.pldAcc with
  | none => s
  | some a =>
    let t := { s with pldAcc := none }
    match t.pldRefusal a with
    | some r => t.pldResult r
    | none =>
      let pend := (t.cls.theSlot .pending).getD 0
      let u := if a.cmd = 1 then t.pldReadOut a
        else (if a.all then List.range 32 else [a.polder]).foldl (fun u p => u.updBlock p a.block (blockApply a pend)) t
      u.pldResult 0

/-- A count entry's snapshot (08 R341). -/
def cntSnapshot (s : State) : State :=
  let i := s.regField Reg.pldCntIndex 0 14
  let e := Tab.get (fun _ => CountEntry.zero) s.counts i
  let t := s.setWords Reg.pldCntData [BitVec.ofNat 32 e.frames.toNat, BitVec.ofNat 32 (e.frames.toNat / 2 ^ 32),
    BitVec.ofNat 32 e.octets.toNat, BitVec.ofNat 32 (e.octets.toNat / 2 ^ 32)]
  if s.regField Reg.pldCntIndex 31 1 = 1 then { t with counts := Tab.del t.counts i } else t

end State

/-- STORE_SCRUB (08 R334): a word of a program store is checked. -/
def execStoreScrub (p : Fin 32) (addr : Fin 16384) (err : ScrubErr) (s : State) : Out :=
  if err = .none ∨ (s.polder p.val).out then .next s
  else .next (s.storeError p.val addr.val (decide (err = .double)))

/-- ENGINE_PARITY_ERROR (08 R335): in an engine's registers or its context bytes. -/
def execEngineParityError (e : Fin 1024) (inRegs : Bool) (s : State) : Out :=
  let q := s.polder (e.val / 32)
  if q.inService.getLsbD (e.val % 32) = false ∨ q.state = .removed ∨ q.state = .retired then .next s
  else .next ((s.storeErr (e.val / 32) (if inRegs then 3 else 2) (e.val % 32) 0).removeEngine e.val)

/-- POLDER_FAILURE (08 R335). -/
def execPolderFailure (p : Fin 32) (s : State) : Out := .next (s.removePolder p.val)

/-- POLDER_WAKE_DONE (01 R49, 08 R306). -/
def execPolderWakeDone (p : Fin 32) (s : State) : Out :=
  let q := s.polder p.val
  if q.state = .waking then .next (s.setPolder p.val { q with state := .awake }).unitsWoken else .next s

/-- READ (08 R341). -/
def execPldRead (s : State) : Out := .next (s.pldCommand 1)

/-- WRITE (08 R330). -/
def execPldWrite (s : State) : Out := .next (s.pldCommand 2)

/-- JOIN (08 R330). -/
def execPldJoin (s : State) : Out := .next (s.pldCommand 3)

/-- LEAVE (08 R330). -/
def execPldLeave (s : State) : Out := .next (s.pldCommand 4)

/-- REPAIR (08 R330). -/
def execPldRepair (s : State) : Out := .next (s.pldCommand 5)

/-- MARK (08 R330, R341). -/
def execPldMark (s : State) : Out := .next (s.pldCommand 6)

/-- PLD_ACCESS_DONE (08 R341). -/
def execPldAccessDone (s : State) : Out := .next s.pldFinish

/-- PLD_CNT_SNAPSHOT (08 R341). -/
def execPldCntSnapshot (v : Word) (s : State) : Out :=
  .next (s.wr .pf0 Reg.pldCntIndex (fun s => (s.storeReg Reg.pldCntIndex v).cntSnapshot))

/-- ARB_MAX_READ (08 R341). -/
def execArbMaxRead (r : Req) (s : State) : Out := .next (s.rd r Reg.pldArbMax)

/-- PLD_CLR_COUNTS (08 R339). -/
def execPldClrCounts (p : Fin 32) (s : State) : Out :=
  .next (s.wr .pf0 (Reg.polder p.val + 0x14) (fun s => s.clearCounts (Reg.polder p.val + 0x14)))

/-- PLD_ARRAY_CLR_COUNTS (08 R341). -/
def execPldArrayClrCounts (s : State) : Out :=
  .next (s.wr .pf0 Reg.pldArrayControl (fun s => s.clearCounts Reg.pldArrayControl))

end Sys2Proof.Machine
end

