-- ==== Sys2Proof/Machine/Channels.lean ====
section
/-! DEFINITION. Channel commands, the release of old keys and indexes, and the sweep after an
invalidation (10 R374–R419; 12 R458–R472). -/

namespace Sys2Proof.Machine
open Sys2Proof.Bits

/-- A 64-bit value in two data words, low word first. -/
def dword (d : List Word) (i : Nat) : Nat := (d.getD i 0).toNat + (d.getD (i + 1) 0).toNat * 2 ^ 32

namespace ChnCmd

/-- ARG.AN, ARG.NEXT_AN, GIVEN and FORCE (10 R417). -/
def an (c : ChnCmd) : Nat := field c.arg 0 2
/-- See `an`. -/
def nextAn (c : ChnCmd) : Nat := field c.arg 2 2
/-- See `an`. -/
def given (c : ChnCmd) : Bool := c.arg.testBit 30
/-- See `an`. -/
def force (c : ChnCmd) : Bool := c.arg.testBit 31
/-- Data word k. -/
def word (c : ChnCmd) (k : Nat) : Nat := (c.data.getD k 0).toNat

end ChnCmd

namespace ChRec

/-- An armed mark that names a slot is cleared (10 R406, R410). -/
def unmark (c : ChRec) (an : Nat) : ChRec := if c.markSet && decide (c.nextAn = an) then { c with markSet := false } else c

/-- A slot left EMPTY without a key. -/
def emptied (c : ChRec) (an keyGen : Nat) : ChRec :=
  c.setSlot an { c.slot an with st := .empty, shown := none, keyGen := keyGen % 256, key := Cell.empty, salt := [] }

/-- A record without its keys: those of the frames in flight are in holding cells (R404). -/
def keyless (c : ChRec) : ChRec := { c with slots := c.slots.map (fun e => (e.1, { e.2 with key := Cell.empty, salt := [] })) }

/-- Every C_ counter at 0. -/
def zeroed (c : ChRec) : ChRec :=
  { c with cOk := 0, cOctets := 0, cLate := 0, cIcv := 0, cReplay := 0, cSlot := 0, cRefused := 0 }

/-- The record a CREATE asks for, its limits aside (10 R379, R380, R410). -/
def asked (c : ChnCmd) : ChRec :=
  let g := c.word 2
  let peer := dword c.data 5
  { sci := dword c.data 0, dec := g.testBit 30, mode := field g 28 2, suite := field g 26 2, conf := g.testBit 25
    offset := field g 23 2, replayProtect := g.testBit 22, check := g.testBit 21, curAn := 0, nextAn := 0
    markSet := false, profile := field g 12 4, window := field (c.word 3) 0 30, frames := 0, mark := 0
    trunkChannel := field (c.word 4) 0 24, pair := field (c.word 4) 24 5, drainCount := 0, drainLeft := 0, softLimit := 0
    peerDevice := field peer 0 16, peerChannel := field peer 16 24, peerCheck := peer.testBit 63, cOk := 0, cOctets := 0
    cLate := 0, cIcv := 0, cReplay := 0, cSlot := 0, cRefused := 0, slots := [], faulty := false, notice := none }

/-- A reserved bit of a CREATE's words is set (10 R379, R380, R383). -/
def reservedBits (c : ChnCmd) : Bool :=
  let peer := dword c.data 5
  decide (field (c.word 2) 10 2 ≠ 0 ∨ field (c.word 2) 0 4 ≠ 0 ∨ field (c.word 3) 30 2 ≠ 0 ∨
    field (c.word 4) 29 3 ≠ 0 ∨ field peer 40 23 ≠ 0)

end ChRec

namespace State

/-! ### What a command finds -/

/-- The policy of a domain slot: DRAIN rather than IMMEDIATE (10 R413, R414). -/
def drains (s : State) (slot : Nat) : Bool := (s.reg (Reg.chnPolicy + 4 * (slot / 32))).getLsbD (slot % 32)

/-- The soft limit a CREATE copies from its profile (10 R410, R413). -/
def softLimitOf (s : State) (p suite mode : Nat) : Nat :=
  let a := Reg.chnProfile + 0x20 * p
  if 2 ≤ suite then s.inForce (a + 0x08) + s.inForce (a + 0x0C) * 2 ^ 32
  else if mode = 3 then s.inForce (a + 0x10) + s.inForce (a + 0x14) * 2 ^ 32
  else s.inForce a

/-- BAD_CONFIG of a CREATE (10 R383). -/
def badCreate (s : State) (c : ChnCmd) (far : Bool) : Bool :=
  let r := ChRec.asked c
  let m := (s.pair r.pair).mode
  decide (m = .none ∨ r.mode ≠ m.code) || (decide (r.mode = 1) && far) ||
    (decide (r.mode = 3) && (decide (1 < r.suite ∨ r.offset ≠ 0) || !r.conf || r.check)) ||
    decide (r.offset = 3) || ChRec.reservedBits c

/-- Whether an index is allocated or held (10 R377). -/
def taken (x : ChIndex) : Bool := x.body.isSome || x.held

/-- The trunk channel an index bears, allocated or held (10 R383). -/
def bears (x : ChIndex) (t : Nat) : Bool :=
  (match x.body with
   | some c => decide (c.mode = 3 ∧ c.trunkChannel = t)
   | none => false) ||
  (match x.last with
   | some c => x.held && decide (c.mode = 3 ∧ c.trunkChannel = t)
   | none => false)

/-- The lowest index not taken, from `n` on; the table rises (10 R376). -/
def lowestFree : Nat → Tab ChIndex → Nat
  | n, [] => n
  | n, (k, x) :: r => if k = n ∧ taken x then lowestFree (n + 1) r else if k = n then n else if k < n then lowestFree n r else n

/-- The frames of the module that a predicate on their binding picks. -/
def boundFrames (s : State) (p : Binding → Bool) : Bool :=
  s.frames.any (fun e => decide (e.2.stage ≠ .gone) && (match e.2.bind with
    | some b => p b
    | none => false))

/-- Whether a frame bound to a channel of an index is still in the module. -/
def indexBusy (s : State) (far : Bool) (i : Nat) : Bool :=
  s.boundFrames (fun b => decide (Handle.far b.handle = far ∧ Handle.index b.handle = i))

/-! ### CREATE and DESTROY (10 R375–R378, R383) -/

/-- What a command answers: its result, the handle of a CREATE, the words of a READ, and the state. -/
structure ChAnswer where
  result : Nat
  handle : Nat
  words : List Word
  state : State

/-- A command carried out. -/
def chDone (s : State) : ChAnswer := { result := 0, handle := 0, words := [], state := s }

/-- A command refused: nothing changes. -/
def chNo (s : State) (r : Nat) : ChAnswer := { result := r, handle := 0, words := [], state := s }

/-- CREATE (10 R376, R383). -/
def chCreate (s : State) (c : ChnCmd) : ChAnswer :=
  let far := Handle.far c.handle
  let size := if far then 2 ^ 24 else 65536
  let kindOk := decide (Handle.kind c.handle = 1 ∨ Handle.kind c.handle = 2)
  let tab := if far then s.chn.far else s.chn.near
  let r := ChRec.asked c
  let i := if c.given then Handle.index c.handle else lowestFree 0 tab
  let x := s.chIndex far i
  if kindOk = false ∨ (c.given ∧ size ≤ Handle.index c.handle) then s.chNo 0x46
  else if s.badCreate c far then s.chNo 0x52
  else if r.mode = 3 ∧ (s.chn.near.any (fun e => bears e.2 r.trunkChannel) ∨ s.chn.far.any (fun e => bears e.2 r.trunkChannel)) then
    s.chNo 0x51
  else if c.given ∧ taken x then s.chNo 0x4C
  else if size ≤ i then s.chNo 0x48
  else
    let r := { r with softLimit := s.softLimitOf r.profile r.suite r.mode
                      drainCount := s.inForce (Reg.chnProfile + 0x20 * r.profile + 0x18) }
    let h := Handle.mk far i x.gen
    let t := s.setChIndex far i { x with body := some r }
    let t := if far then (t.cacheTake i).setRecord h r else t
    { t.chDone with handle := h }

/-- The key cells a DESTROY leaves for the frames in flight (10 R404). -/
def destroyCells (h : Nat) (r : ChRec) : List KeyCell :=
  (([0, 1, 2, 3].foldl (fun e an => e.spend h an true) (ChEffect.of r))).cells

/-- A channel destroyed (10 R375, R377): its handle is stale, and its index held while a frame bound to
it is in the module. -/
def destroyAt (s : State) (far : Bool) (i : Nat) (r : ChRec) : State :=
  let x := s.chIndex far i
  let h := Handle.mk far i x.gen
  let held := s.indexBusy far i
  let t := s.setChIndex far i { gen := (x.gen + 1) % 64, held := held, body := none
                                last := if held then some r.keyless else none }
  { t with chn := { t.chn with
      cells := t.chn.cells ++ destroyCells h r
      cache := if far then t.chn.cache.filter (fun e => decide (e.index ≠ i)) else t.chn.cache
      evicted := if far then t.chn.evicted.filter (fun e => decide (e ≠ i)) else t.chn.evicted } }

/-! ### Invalidation (10 R406; 12 R468, R469) -/

/-- The channel slots under the invalidated generations move at once; the record shows their old states
and the PARENT_STOP note waits until the sweep's visit. The note names the lowest slot concerned. -/
def stopRecord (s : State) (h : Nat) (r : ChRec) (inv : List (Nat × Nat)) : ChEffect :=
  [3, 2, 1, 0].foldl (fun (e : ChEffect) an =>
    let o := e.body.slot an
    if o.st = .empty ∨ o.st = .spent ∨ inv.contains (o.domain, o.domainGen) = false then e
    else
      let e : ChEffect := { e with body := { e.body with notice := some an } }
      if o.st = .loaded ∨ s.drains o.domain = false then
        let e : ChEffect := if o.st = .loaded then { e with body := e.body.unmark an } else e
        let e := e.spend h an true
        { e with body := e.body.setSlot an { e.body.slot an with shown := some (o.shown.getD o.st) } }
      else e) (ChEffect.of r)

/-- The invalidated generations take effect on every channel (10 R406). -/
def stopChannels (s : State) (inv : List (Nat × Nat)) : State :=
  let one := fun (far : Bool) (t : State) (e : Nat × ChIndex) =>
    match e.2.body with
    | none => t
    | some r =>
      let h := Handle.mk far e.1 e.2.gen
      let f := t.stopRecord h r inv
      if f.body = r then t else t.chEffect h f
  (s.chn.far.foldl (one true) (s.chn.near.foldl (one false) s))

/-- Every allocated channel, as the sweep visits it (12 R469). -/
def sweepList (s : State) : List Nat :=
  (s.chn.near.filter (fun e => e.2.body.isSome)).map Prod.fst ++
    (s.chn.far.filter (fun e => e.2.body.isSome)).map (fun e => 2 ^ 24 + e.1)

/-- A step that invalidates generations, root first, and all they reach (12 R468): the slots that still hold
one become EMPTY, the channels under them stop, and their sweep begins. -/
def invalidate (s : State) (roots : List (Nat × Nat)) (cause : Nat) : State :=
  let all := (s.key.cascade roots).eraseDups
  let live := all.filter (fun e => s.key.stands e.1 e.2)
  let k := live.foldl Key.kill s.key
  let todo := s.sweepList
  let sweeps := if todo.isEmpty then [] else all.map (fun e => ({ slot := e.1, gen := e.2, todo := todo } : Sweep))
  let root := roots.head?.getD (0, 0)
  let t := { s with key := { k with sweeps := k.sweeps ++ sweeps, digestPending := true } }
  let t := t.setRegs [(Reg.keyInval, word [((all.map Prod.fst).eraseDups.length, 0, 11), (root.1, 16, 10), (cause, 30, 2)]),
    (Reg.keyInvalGen, BitVec.ofNat 32 root.2)]
  ((t.stopChannels all).keyBump 0x18).keyCause 1 0

/-! ### LOAD (10 R400; 12 R458, R460, R469) -/

/-- The usage a LOAD's method needs of its domain slot: UNWRAP_OK or DERIVE_OK (10 R400). -/
def loadUsage (d0 : Nat) : Nat := if d0.testBit 16 then 1 else 2

/-- Whether a LOAD's domain slot serves it at acceptance; otherwise PARENT_INVALID. -/
def loadParent (s : State) (d0 : Nat) : Bool :=
  let d := s.key.slot (field d0 0 10)
  d.usage.testBit (loadUsage d0) && d.key.isSome

/-- The domain key a LOAD fetches from the generation it holds; none where the cell fails its integrity code (12
R474). -/
def loadKek (s : State) (c : ChnCmd) (bad : Bool) : Option Bytes :=
  (s.key.cellOf (field (c.word 0) 0 10) c.domGen).bind (fun x => s.fetch x bad)

/-- A domain key cell failed its integrity code: its generation is invalidated with cause CELL (12 R474). -/
def domainFault (s : State) (n gen : Nat) : State :=
  let t := s.cellFault 1 n
  if t.key.stands n gen then t.invalidate [(n, gen)] 3 else t

/-- The key a LOAD gives; none for KEY_FAIL. -/
def loadKey (c : ChnCmd) (kek : Bytes) : Option Bytes :=
  let mat := Blob.ofWords ((List.range 10).map (fun i => c.data.getD (7 + i) 0))
  let n := if (c.word 0).testBit 17 then 32 else 16
  if (c.word 0).testBit 16 then some (Crypto.kdf kek (Crypto.ascii "TYJ ASSOCIATION") mat (8 * n))
  else Crypto.kwUnwrap kek (mat.take (n + 8))

/-- BAD_CONFIG of a LOAD. -/
def badLoad (c : ChnCmd) (r : ChRec) : Bool :=
  let d0 := c.word 0
  let pn := dword c.data 1
  let mat := Blob.ofWords ((List.range 10).map (fun i => c.data.getD (7 + i) 0))
  decide (d0.testBit 17 ≠ r.aes256 ∨ pn = 0 ∨ r.lastPn < pn) ||
    (!d0.testBit 16 && (mat.drop (if d0.testBit 17 then 40 else 24)).any (fun b => decide (b ≠ 0)))

/-- A PARENT_STOP note. -/
def stopNote (an : Nat) : Note := { kind := 7, an := an, value := 0 }

/-- A LOAD's slot as loaded. -/
def loadedSlot (c : ChnCmd) (r : ChRec) (key : Cell) : ChSlot :=
  let d0 := c.word 0
  let old := r.slot c.an
  { st := .loaded, shown := none, keyGen := (old.keyGen + 1) % 256, softRaised := false, key256 := d0.testBit 17
    derived := d0.testBit 16, domain := field d0 0 10, domainGen := c.domGen, pn := dword c.data 1, frames := 0
    ssci := if r.xpn then c.word 3 else 0, key := key
    salt := if r.xpn then Blob.ofWords ((List.range 3).map (fun i => c.data.getD (4 + i) 0)) else [] }

/-- A LOAD that fails: its slot is left EMPTY with KEY_GEN advanced (10 R400). -/
def loadFail (s : State) (c : ChnCmd) : ChAnswer :=
  match s.chRecord c.handle with
  | none => s.chNo 0x4F
  | some r =>
    let e := ChEffect.of (r.emptied c.an ((r.slot c.an).keyGen + 1))
    (s.chEffect c.handle { e with cells := ChEffect.keepLoaded r c.handle c.an }).chNo 0x4F

/-- LOAD, which keeps the key generation a LOADED slot held for the frames bound to it (10 R404); `abort` says that an alarm
aborts it (12 R472), `cell` that the domain key cell fails at its fetch (12 R474). A key whose domain generation was
invalidated meanwhile leaves its slot SPENT (12 R470). Its derivation counts in DERIVATIONS (12 R489; log entry 32). -/
def chLoad (s : State) (c : ChnCmd) (r : ChRec) (abort cell : Bool) : ChAnswer :=
  let o := r.slot c.an
  if o.st = .current ∨ o.st = .draining ∨ o.st = .exhausted ∨ (r.markSet ∧ r.nextAn = c.an) then s.chNo 0x4C
  else if c.domOk = false then s.chNo 0x50
  else if badLoad c r then s.chNo 0x52
  else if abort then s.loadFail c
  else
    match s.loadKek c cell with
    | none => (s.domainFault (field (c.word 0) 0 10) c.domGen).loadFail c
    | some kek =>
        match loadKey c kek with
        | none => s.loadFail c
        | some key =>
          let x := s.newCell key
          let e := ChEffect.of (r.setSlot c.an (loadedSlot c r x.1))
          let e := { e with cells := ChEffect.keepLoaded r c.handle c.an }
          let e := if s.key.stands (field (c.word 0) 0 10) c.domGen then e
            else { e.spend c.handle c.an true with notes := [stopNote c.an] }
          let t := x.2.chEffect c.handle e
          (if (c.word 0).testBit 16 then t.bump (Reg.keyCtr + 0x20) else t).chDone

/-! ### The other commands (10 R401, R410) -/

/-- ERASE. -/
def chErase (s : State) (c : ChnCmd) (r : ChRec) : ChAnswer :=
  let o := r.slot c.an
  if o.st = .empty then s.chDone
  else
    let e := (ChEffect.of (r.unmark c.an)).spend c.handle c.an true
    let b := e.body
    let e := { e with body := b.setSlot c.an { b.slot c.an with keyGen := (o.keyGen + 1) % 256, shown := none } }
    (s.chEffect c.handle e).chDone

/-- SET_MARK. -/
def chSetMark (s : State) (c : ChnCmd) (r : ChRec) : ChAnswer :=
  let m := dword c.data 0
  if r.dec then s.chNo 0x52
  else if c.nextAn = r.curAn ∨ (r.slot c.nextAn).st ≠ .loaded then s.chNo 0x4D
  else if m < r.frames ∧ c.force = false then s.chNo 0x54
  else (s.setRecord c.handle { r with nextAn := c.nextAn, mark := max m r.frames, markSet := true }).chDone

/-- SET_PN. -/
def chSetPn (s : State) (c : ChnCmd) (r : ChRec) : ChAnswer :=
  let v := dword c.data 0
  let o := r.slot c.an
  if r.lastPn < v then s.chNo 0x52
  else if v < o.pn then s.chNo 0x4E
  else (s.setRecord c.handle (r.setSlot c.an { o with pn := v })).chDone

/-- A command on an allocated channel that is not faulty. -/
def chOn (s : State) (c : ChnCmd) (r : ChRec) (abort cell : Bool) : ChAnswer :=
  let gen := Handle.gen c.handle
  if c.code = 2 then (s.destroyAt (Handle.far c.handle) (Handle.index c.handle) r).chDone
  else if c.code = 3 then { s.chDone with words := Blob.toWords 32 (r.head gen) }
  else if c.code = 4 then { s.chDone with words := Blob.toWords 32 r.tail }
  else if c.code = 5 then s.chLoad c r abort cell
  else if c.code = 6 then s.chErase c r
  else if c.code = 7 then s.chSetMark c r
  else if c.code = 8 then
    (if r.dec then s.chNo 0x52 else (s.setRecord c.handle { r with markSet := false }).chDone)
  else if c.code = 9 then s.chSetPn c r
  else if c.code = 10 then
    (if r.dec = false ∨ field (c.word 0) 30 2 ≠ 0 then s.chNo 0x52
     else (s.setRecord c.handle { r with window := c.word 0 }).chDone)
  else (s.setRecord c.handle r.zeroed).chDone

/-- A command takes effect (10 R408, R410, R412). -/
def chApply (s : State) (c : ChnCmd) (abort cell : Bool) : ChAnswer :=
  if c.code = 1 then s.chCreate c
  else if Handle.valid c.handle = false then s.chNo 0x46
  else
    match s.chRecord c.handle with
    | none => s.chNo 0x4B
    | some r =>
      if r.faulty ∧ c.code ≠ 2 then s.chNo 0x53
      else
        let far := Handle.far c.handle
        let t := if far ∧ s.cached (Handle.index c.handle) = false then s.cacheTake (Handle.index c.handle) else s
        t.chOn c r abort cell

/-! ### Acceptance and completion (10 R408, R412) -/

/-- COMMAND_REFUSED. -/
def chRefused (s : State) : State := (s.bump (chnCtr 0x30)).chnCause 5 0

/-- The words the steward's own port returns for a command: they appear on the bus. -/
def stewardAnswer (s : State) (result : Nat) (words : List Word) : State :=
  { s with bus := { s.bus with status := result, bytes := Blob.ofWords words } }

/-- A command's result set at its port; a LOAD's key, salt and context words read 0 after it (10 R382,
R417). -/
def chReport (c : ChnCmd) (a : ChAnswer) : State :=
  let t := a.state
  let t := if a.result = 0 then t else t.chRefused
  if c.host then
    let t := t.setField Reg.chnCmdStatus 8 8 a.result
    let t := if c.code = 1 ∧ a.result = 0 then t.setReg Reg.chnResultHandle (BitVec.ofNat 32 a.handle) else t
    let t := t.setWords Reg.chnData a.words
    if c.code = 5 then t.setWords (Reg.chnData + 16) (List.replicate 13 0) else t
  else t.stewardAnswer a.result (if c.code = 1 then [BitVec.ofNat 32 a.handle] else a.words)

/-- A command accepted, with its domain slot's key as it stands now. -/
def chAccept (s : State) (code : Nat) (host : Bool) (h arg : Word) (data : List Word) : State :=
  let d0 := (data.getD 0 0).toNat
  let c : ChnCmd :=
    { code := code, host := host, handle := h.toNat, arg := arg.toNat, data := data
      domOk := decide (code = 5) && s.loadParent d0
      domGen := if code = 5 then (s.key.slot (field d0 0 10)).gen else 0 }
  let t := ({ s with chn := { s.chn with cmds := s.chn.cmds ++ [c] } }.bump (chnCtr 0x28)).pmuCount 5 0 3 1
  if Handle.far h.toNat ∧ code ≠ 1 ∧ s.cached (Handle.index h.toNat) = false then t.hbmWake else t

/-- A write of CODE by the host: one command at a time. While it is busy, BUSY answers an unlisted code too (00 R653 gives no
order but for CLS_ACC: DESIGN CHOICE, log entry 102). -/
def chBegin (s : State) (code : Nat) : State :=
  if s.chn.cmds.any (fun c => c.host) then (s.setField Reg.chnCmdStatus 8 8 1).chRefused
  else if code = 0 ∨ 11 < code then (s.setField Reg.chnCmdStatus 8 8 0x65).chRefused
  else s.chAccept code true (s.reg Reg.chnCmdHandle) (s.reg Reg.chnCmdArg) (s.words Reg.chnData 32)

/-- A command given at a port; the steward has up to 16 in progress. -/
def chCommand (s : State) (code : Nat) (p : CmdPort) : State :=
  match p with
  | .host => s.wr .pf0 Reg.chnCmd (fun s => s.chBegin code)
  | .steward h arg data =>
    if s.stewardServes ∧ (s.chn.cmds.filter (fun c => !c.host)).length < 16 then s.chAccept code false h arg data else s

/-- Whether a command must wait: for an earlier one on its handle (10 R408), or for a far record that a
stack out of service cannot read. -/
def chWaits (s : State) (n : Nat) (c : ChnCmd) : Bool :=
  (decide (c.code ≠ 1) && (s.chn.cmds.take n).any (fun d => decide (d.code ≠ 1 ∧ d.handle = c.handle))) ||
    (decide (c.code ≠ 1) && Handle.far c.handle && (s.chRecord c.handle).isSome &&
      !s.cached (Handle.index c.handle) && decide (s.hbm.st ≠ .active))

/-- What a command's own read of its record finds (10 R387): on die only the parity check can fail, and a record read in
from the sealed store fails as in a far BIND. -/
def chReadFault (s : State) (c : ChnCmd) (err : FarErr) : State :=
  let far := Handle.far c.handle
  let i := Handle.index c.handle
  if c.code = 1 ∨ (s.chRecord c.handle).isNone then s
  else if far ∧ s.cached i = false then s.farFault i (s.readErr err)
  else
    match err with
    | .none | .single _ => s
    | _ => s.recordFault far i

/-- Whether a command's record stays sealed, since a sealing key's cell failed (12 R474): the command is refused as for a
faulty record, which the spec leaves open (log entry 100). -/
def chSealed (s : State) (c : ChnCmd) (err : FarErr) : Bool :=
  decide (c.code ≠ 1 ∧ c.code ≠ 2) && (s.chRecord c.handle).isSome && Handle.far c.handle && !s.cached (Handle.index c.handle) &&
    decide (s.readErr err = .cell)

/-- An accepted command completes; `err` is what the read of its record finds, `cell` says that the domain key cell that a
LOAD fetches fails. -/
def chFinish (s : State) (n : Nat) (c : ChnCmd) (err : FarErr) (cell : Bool) : State :=
  let t := { s with chn := { s.chn with cmds := s.chn.cmds.eraseIdx n } }
  let u := t.chReadFault c err
  chReport c (if t.chSealed c err then u.chNo 0x53 else u.chApply c false cell)

/-! ### Keys and indexes released (10 R377, R404) -/

/-- Whether a frame bound to a key generation is still in the module. -/
def keyBusy (s : State) (h an keyGen : Nat) : Bool :=
  s.boundFrames (fun b => decide (b.handle = h ∧ b.an = an ∧ b.keyGen = keyGen))

/-- A holding cell's key is destroyed; the SPENT slot whose newest key it was becomes EMPTY, with its
note. -/
def releaseKey (s : State) (h an keyGen : Nat) : State :=
  let mine := fun (k : KeyCell) => decide (k.handle = h ∧ k.an = an ∧ k.keyGen = keyGen)
  if s.chn.cells.any mine = false ∨ s.keyBusy h an keyGen then s
  else
    let newest : Bool := match s.heldCell h an with
      | some k => mine k
      | none => false
    let t := { s with chn := { s.chn with cells := s.chn.cells.filter (fun k => !mine k) } }
    match t.chRecord h with
    | none => t
    | some r =>
      if newest ∧ (r.slot an).st = .spent then
        let r := r.setSlot an { r.slot an with st := .empty, shown := none, key := Cell.empty, salt := [] }
        (t.setRecord h r).noteQueue h { kind := 5, an := an, value := 0 }
      else t

/-! ### The sweep after an invalidation (12 R469) -/

/-- The sweep visits a channel: its record shows its slots, and its note is queued (12 R469). -/
def sweepVisit (s : State) (far : Bool) (i : Nat) : State :=
  let x := s.chIndex far i
  let key := if far then 2 ^ 24 + i else i
  let left := s.key.sweeps.map (fun w => { w with todo := w.todo.filter (fun k => decide (k ≠ key)) })
  let t := { s with key := { s.key with sweeps := left.filter (fun w => !w.todo.isEmpty) } }
  match x.body with
  | none => t
  | some r =>
    let h := Handle.mk far i x.gen
    let shown := [0, 1, 2, 3].foldl (fun (r : ChRec) an => r.setSlot an { r.slot an with shown := none }) r
    let t := if shown = r ∧ r.notice = none then t else t.setRecord h { shown with notice := none }
    match r.notice with
    | some an => t.noteQueue h (stopNote an)
    | none => t

end State

/-- CREATE (10 R376, R383). -/
def execChnCreate (port : CmdPort) (s : State) : Out := .next (s.chCommand 0x01 port)

/-- DESTROY (10 R375, R377). -/
def execChnDestroy (port : CmdPort) (s : State) : Out := .next (s.chCommand 0x02 port)

/-- READ (10 R410). -/
def execChnRead (port : CmdPort) (s : State) : Out := .next (s.chCommand 0x03 port)

/-- READ_SLOTS (10 R410). -/
def execChnReadSlots (port : CmdPort) (s : State) : Out := .next (s.chCommand 0x04 port)

/-- LOAD (10 R400). -/
def execChnLoad (port : CmdPort) (s : State) : Out := .next (s.chCommand 0x05 port)

/-- ERASE (10 R410). -/
def execChnErase (port : CmdPort) (s : State) : Out := .next (s.chCommand 0x06 port)

/-- SET_MARK (10 R401). -/
def execChnSetMark (port : CmdPort) (s : State) : Out := .next (s.chCommand 0x07 port)

/-- CLEAR_MARK (10 R401, R410). -/
def execChnClearMark (port : CmdPort) (s : State) : Out := .next (s.chCommand 0x08 port)

/-- SET_PN (10 R410). -/
def execChnSetPn (port : CmdPort) (s : State) : Out := .next (s.chCommand 0x09 port)

/-- SET_WINDOW (10 R410). -/
def execChnSetWindow (port : CmdPort) (s : State) : Out := .next (s.chCommand 0x0A port)

/-- CLEAR_COUNTERS (10 R410). -/
def execChnClearCounters (port : CmdPort) (s : State) : Out := .next (s.chCommand 0x0B port)

/-- CHN_COMMAND_DONE (10 R387, R408): the n-th accepted command completes; `err` is what its read of the record finds,
`cell` says that the domain key cell that a LOAD fetches fails (12 R474). -/
def execChnCommandDone (n : Nat) (s : State) (err : FarErr := .none) (cell : Bool := false) : Out :=
  match s.chn.cmds[n]? with
  | none => .next s
  | some c => if s.chWaits n c then .next s else .next (s.chFinish n c err cell)

/-- KEY_GENERATION_RELEASE (10 R404). -/
def execKeyGenerationRelease (handle : Word) (an : Fin 4) (keyGen : Fin 256) (s : State) : Out :=
  .next (s.releaseKey handle.toNat an.val keyGen.val)

/-- INDEX_RELEASE (10 R377). -/
def execIndexRelease (far : Bool) (index : Nat) (s : State) : Out :=
  let x := s.chIndex far index
  if x.held = false ∨ s.indexBusy far index then .next s
  else .next (s.setChIndex far index { x with held := false, last := none })

/-- INVALIDATION_SWEEP_VISIT (12 R469). -/
def execInvalidationSweepVisit (far : Bool) (index : Nat) (s : State) : Out :=
  let key := if far then 2 ^ 24 + index else index
  if s.key.sweeps.any (fun w => w.todo.contains key) then .next (s.sweepVisit far index) else .next s

/-- A POP of the note queue: NOTE_THRESHOLD is armed again below half of it. -/
def State.notePop (s : State) : State :=
  match s.chn.notes with
  | [] => s.setWords Reg.chnNoteData [0, 0, 0, 0]
  | r :: rest =>
    let t := s.setWords Reg.chnNoteData (Blob.toWords 4 r)
    let armed := s.chn.armed || decide (2 * rest.length < s.noteLimit)
    { t with chn := { t.chn with notes := rest, armed := armed } }

/-- CHN_NOTE_POP (10 R415, R417). -/
def execChnNotePop (s : State) : Out := .next (s.wr .pf0 Reg.chnNotePop State.notePop)

/-- CHN_CLR_COUNTS (10 R417). -/
def execChnClrCounts (s : State) : Out :=
  .next (s.wr .pf0 Reg.chnControl (fun s => s.clearCounts Reg.chnControl))

end Sys2Proof.Machine
end

