-- ==== Sys2Proof/Machine/Cipher.lean ====
section
/-! DEFINITION. The end of the engine stage, the cipher stage, the receive decision, a frame's departure
and the pipes (01 R33, R38–R43; 06 R212–R221, R238; 08 R302–R305; 10 R386, R396–R405; 11). -/

namespace Sys2Proof.Machine
open Sys2Proof.Bits

namespace State

/-! ### Leaving the engine stage (08 R302–R305, R323) -/

/-- Whether an earlier frame of the same pair and direction keeps a far-bound frame held (08 R305). -/
def holdsBack (id : Nat) (f : Frame) (e : Nat × Frame) : Bool :=
  decide (e.1 < id ∧ e.2.pair = f.pair ∧ e.2.dec = f.dec ∧
    (e.2.stage = .arriving ∨ e.2.stage = .handed ∨ e.2.stage = .engine ∨ e.2.stage = .held)) && e.2.here &&
    (match e.2.bind, f.bind with
     | some b, some c => decide (b.handle = c.handle)
     | _, _ => true)

/-- Whether a frame is held. -/
def heldBack (s : State) (id : Nat) (f : Frame) : Bool := s.frames.any (holdsBack id f)

/-- An association cell fails its integrity check at a fetch (11 R446, 12 R474). -/
def assocCell (s : State) (b : Binding) : State :=
  (s.cellFault 2 0).recordFault (Handle.far b.handle) (Handle.index b.handle)

/-- What the pipes fetch for a binding: the holding cell's or the slot's of its key generation, held while the frame is in
the module (10 R404, 11 R424), with the salt and SSCI beside it. -/
def boundCell (s : State) (b : Binding) : Cell × Bytes × Nat :=
  match s.chn.cells.find? (fun k => decide (k.handle = b.handle ∧ k.an = b.an ∧ k.keyGen = b.keyGen)) with
  | some k => (k.key, k.salt, k.ssci)
  | none =>
    match (s.chRecord b.handle).map (fun r => r.slot b.an) with
    | some o => if o.keyGen = b.keyGen then (o.key, o.salt, o.ssci) else (Cell.empty, [], 0)
    | none => (Cell.empty, [], 0)

/-- Whether the fetch of a binding's key fails its integrity code; `bad` says that the arrays read back damaged. -/
def keyBad (s : State) (b : Binding) (bad : Bool) : Bool := (s.fetch (s.boundCell b).1 bad).isNone

/-- The cipher stage begins in core cycle `at_` (11 R437–R439, R445, R446; 14 R520). -/
def beginCipher (s : State) (id : Nat) (f : Frame) (at_ : Nat) (keyFault : Bool) : State :=
  let g := { f with stage := .cipher, cipherAt := at_, depart := some (at_ + 146 + s.duration f)
                    tbase := some (s.tsBase f.pair, s.baseSeen (s.tsBase f.pair)) }
  if s.lev.locked then s.dropFrame id (ctrLocked f)
  else if f.verdict = some .bypass then (s.setFrame id g).bump (cphCtr f.dec 0x10)
  else
    match f.bind with
    | none => s
    | some b => if s.keyBad b keyFault then (s.assocCell b).dropFrame id (cphCtr f.dec 0x28) else s.setFrame id g

/-- A frame released by the engine stage or by its hold goes where its verdict sends it. -/
def sendOn (s : State) (id : Nat) (f : Frame) (at_ : Nat) (keyFault : Bool) : State :=
  if f.verdict = some .divert then
    (if f.rx = .good then s.toSteward id f else s.setFrame id { f with stage := .decided })
  else s.beginCipher id f at_ keyFault

/-- A frame leaves the engine stage with its verdict; one bound to a far handle may be held. -/
def leaveEngine (s : State) (id : Nat) (f : Frame) (keyFault : Bool) : State :=
  let at_ := f.arrival + 224 + f.waited
  if f.verdict = some .drop then s.dropFrame id 0
  else if f.far ∧ s.heldBack id f then s.setFrame id { f with stage := .held, hold := at_ }
  else s.sendOn id f at_ keyFault

/-- The executed cycles a context still had, counted for its polder (08 R302; 18 R606). -/
def spendRest (s : State) (e : Nat) (x : Ctx) : State := s.pmuCount 3 (e / 32) 1 (120 - x.executed)

/-! ### What the pipes compute (11 R420–R431, R443) -/

/-- The key material of a binding. -/
def cipherKey (s : State) (b : Binding) : CipherKey :=
  let (c, salt, ssci) := s.boundCell b
  { key := c.key, salt := salt, ssci := ssci }

/-- CUT and OUTER_LEN applied (08 R313). -/
def framed (f : Frame) (b : Bytes) : Bytes :=
  CipherFn.output (slice f.meta_ 80 48) (leAt f.meta_ 73 1) (leAt f.meta_ 72 1) b

/-- A frame's bytes as its program left them, FCS and PAD left out. A trunk CLEAR frame is the Ethernet
frame it carries (06 R221). -/
def leftBytes (f : Frame) : Bytes := f.head ++ (unframed f).drop f.head.length

/-- The correction field written into plain bytes (11 R443, 14 R529). -/
def correct (s : State) (f : Frame) (b : Bytes) : Bytes × State :=
  let o := leAt f.meta_ 75 1
  if tsCtrl f ≠ 2 then (b, s)
  else if b.length < o + 8 then (b, s.bump (Reg.timCtr + 0x48))
  else
    let t := (s.frameBase f).2
    let d := s.departCount f (f.depart.getD s.now)
    let v := signed 64 (beAt b o 8) + ((t.at_ d : Int) - (t.at_ f.count : Int))
    let v := if 2 ^ 63 ≤ v then 2 ^ 63 - 1 else if v < -(2 ^ 63 : Int) then -(2 ^ 63 : Int) else v
    (splice b o (beBytes 8 (wrap 64 v)), s.bump (Reg.timCtr + 0x40))

/-- An encrypt frame's output on its line port, and its block slots: a protected frame, or the frame itself
for BYPASS, with its FCS or as a CLEAR frame (05 R182, 06 R221, 11 R425–R430). `seq` is the circuit and SEQ
of a circuit frame. -/
def sealOut (s : State) (f : Frame) (seq : Option (Nat × Nat)) : Bytes × Nat × State :=
  let (plain, t) := s.correct f (framed f (leftBytes f))
  let trunk := decide ((s.pair f.pair).mode = .trunk)
  match f.verdict, f.bind with
  | some .encrypt, some b =>
    let k := s.cipherKey b
    if trunk then
      let (o, n) := CipherFn.protectTrunk (s.devNumber.getD 0) b k seq plain
      (o, n, t)
    else
      let sci := if b.mode = 2 then 0 else (s.pair f.pair).txSci
      let (o, n) := CipherFn.protectEth b k sci (leAt f.meta_ 73 1) plain
      (o ++ fcs o, n, t)
  | _, _ => if trunk then (CipherFn.clearTrunk plain, 0, t) else (plain ++ fcs plain, 0, t)

/-- A decrypt frame undone: its plain bytes, whether its tag verifies, and its block slots (11 R429,
R431). -/
def openIn (s : State) (f : Frame) (b : Binding) : Bytes × Bool × Nat :=
  let k := s.cipherKey b
  match f.trunk with
  | some h => CipherFn.unprotectTrunk h.peer h.chan h.pn h.typ h.an k (slice f.wire 6 h.len)
  | none => CipherFn.unprotectEth b k (f.sectag.getD 12) (unframed f)

/-! ### Receive decisions (10 R396–R405, 11 R439) -/

/-- The decision on a frame of a destroyed channel: it completes with the key and PN it was given (10
R377), judged as a slot SPENT by ERASE, but for a slot SPENT before through 10 R402 or R403 (R405). -/
def decideDestroyed (s : State) (b : Binding) : RxResult × State :=
  match (s.chIndex (Handle.far b.handle) (Handle.index b.handle)).last,
      s.chn.cells.find? (fun k => decide (k.handle = b.handle ∧ k.an = b.an ∧ k.keyGen = b.keyGen)) with
  | some c, some k =>
    let r := if k.keep then c.judge k.pn b.pn else .slotGone
    let cells := if r = .accepted then s.chn.cells.map (fun x => if x = k then { x with pn := max x.pn (b.pn + 1) } else x)
      else s.chn.cells
    (r, { s with chn := { s.chn with cells := cells } })
  | _, _ => (.slotGone, s)

/-- The decision on a frame whose tag verifies: against its slot while it holds the key generation bound,
otherwise against what the holding cell kept (10 R397, R405). -/
def decideFrame (s : State) (b : Binding) (octets : Nat) : RxResult × State :=
  match s.chRecord b.handle with
  | none => s.decideDestroyed b
  | some c =>
    let o := c.slot b.an
    let live := decide (o.keyGen = b.keyGen ∧ (o.st = .loaded ∨ o.st = .current ∨ o.st = .draining))
    if live then
      let (e, r) := c.decideLive b octets
      (r, s.chEffect b.handle e)
    else
      match s.chn.cells.find? (fun k => decide (k.handle = b.handle ∧ k.an = b.an ∧ k.keyGen = b.keyGen)) with
      | some k =>
        if k.keep then
          let r := c.judge k.pn b.pn
          let e := (ChEffect.of (c.countRx r octets)) |> ChRec.drainStep b.handle
          let t := s.chEffect b.handle e
          let cells := if r = .accepted then t.chn.cells.map (fun x => if x = k then { x with pn := max x.pn (b.pn + 1) } else x)
            else t.chn.cells
          (r, { t with chn := { t.chn with cells := cells } })
        else (.slotGone, s.chEffect b.handle ((ChEffect.of (c.countRx .slotGone 0)) |> ChRec.drainStep b.handle))
      | none => (.slotGone, s.chEffect b.handle ((ChEffect.of (c.countRx .slotGone 0)) |> ChRec.drainStep b.handle))

/-- Whether an earlier frame of the channel still awaits its decision. -/
def awaitsTurn (s : State) (id : Nat) (b : Binding) : Bool :=
  s.frames.any (fun e => decide (e.1 < id ∧ e.2.stage = .cipher ∧ e.2.dec = true) &&
    (match e.2.bind with
     | some c => decide (c.handle = b.handle)
     | none => false))

/-- A frame dropped at its decision: its counter is the record's (10 R419). -/
def dropDecided (s : State) (id : Nat) (f : Frame) : State := (s.tsDropped f).delFrame id f

/-- The frame that a decision accepts: a CIRCUIT frame goes to its spillway (06 R240, R246), any other
waits for its departure. -/
def deliverRx (s : State) (id : Nat) (f : Frame) (out : Bytes) : State :=
  match f.trunk with
  | some h =>
    if h.typ = 2 then (s.delFrame id f).spillway f.pair h.circuit h.seq out
    else s.setFrame id { f with stage := .decided, out := some { bytes := out, tagOk := true } }
  | none => s.setFrame id { f with stage := .decided, out := some { bytes := out, tagOk := true } }

/-- The tag check of a decrypt frame ends and the store decides (10 R396). -/
def rxDecide (s : State) (id : Nat) (f : Frame) (b : Binding) : State :=
  let (plain, ok, n) := s.openIn f b
  let s := s.add (cphCtr true 0x08) n
  if ok = false then
    let t := s.bump (cphCtr true 0x30)
    let t := match t.chRecord b.handle with
      | some c => t.setRecord b.handle (c.countRx .icv 0)
      | none => t
    let t := match f.trunk with
      | some h => t.blockIcv f.pair h.errored
      | none => t
    t.dropDecided id f
  else
    let s := s.bump (cphCtr true 0)
    let size := (framed f plain).length + 4
    let (r, t) := s.decideFrame b size
    if r = .accepted ∨ r = .late then
      let (fixed, t) := t.correct f plain
      t.deliverRx id f (framed f fixed)
    else t.dropDecided id f

/-! ### Departure (01 R38, R39, R43; 05 R186; 06 R212, R213, R238; 11 R438–R444) -/

/-- A frame whose output began: it leaves the module, once it has fully arrived. -/
def gone (s : State) (id : Nat) (f : Frame) : State :=
  if f.receiving then s.setFrame id { f with stage := .leaving } else s.delFrame id f

/-- The record of a two-step frame as it departs (14 R530). -/
def tsDeparted (s : State) (f : Frame) (d : Nat) : State :=
  if tsCtrl f = 1 then s.tsqPut (s.tsRecord f (some (s.departCount f d))) else s

/-- The record kept for a stomp. -/
def stompRecord (s : State) (f : Frame) : Option Bytes := if tsCtrl f = 1 then some (s.tsRecord f none) else none

/-- What a protected frame is counted for at its channel. -/
def chargeOf (f : Frame) (bytes : Bytes) : Option (Nat × Nat) :=
  match f.verdict, f.bind with
  | some .encrypt, some b => if f.dec then none else some (b.handle, bytes.length)
  | _, _ => none

/-- The end of an Ethernet output: counters and the frame's leaving. -/
def etherOut (s : State) (id : Nat) (f : Frame) (d : Nat) (bytes : Bytes) : State :=
  let line := !f.dec
  let start := departAt f d
  let o : OutFrame := { frame := some id, cycle := d, start := start, ends := Rate.ceil (start + Rate.ether (s.pair f.pair).width bytes.length)
                        bytes := bytes, stomped := false, dec := f.dec, pair := f.pair, ts := s.stompRecord f
                        charge := chargeOf f bytes }
  let t := s.etherPut line f.pair o
  let t := (t.bump (Reg.port line f.pair + 0x50)).add (Reg.port line f.pair + 0x58) bytes.length
  ((t.tsDeparted f d).pairEvent f.pair (2 + b2n f.dec)).gone id f

/-- A frame leaves its trunk framer. -/
def trunkSend (s : State) (id : Nat) (f : Frame) (d : Nat) (bytes : Bytes) : State :=
  let start := departAt f d
  let o : OutFrame := { frame := some id, cycle := d, start := start, ends := Rate.ceil (start + Rate.trunk (s.pair f.pair).width bytes.length)
                        bytes := bytes, stomped := false, dec := false, pair := f.pair, ts := s.stompRecord f
                        charge := chargeOf f bytes }
  let t := (s.trunkPut f.pair o).bump (Reg.framer f.pair + 0x90)
  ((t.tsDeparted f d).pairEvent f.pair 2).gone id f

/-- What a channel counts of a protected frame (10 R379; 11 R454). -/
def countSealed (s : State) (f : Frame) (octets blocks : Nat) : State :=
  match f.verdict, f.bind with
  | some .encrypt, some b =>
    let t := (s.bump (cphCtr false 0)).add (cphCtr false 0x08) blocks
    match t.chRecord b.handle with
    | some c => t.setRecord b.handle { c with cOk := c.cOk + 1, cOctets := c.cOctets + octets }
    | none => t
  | _, _ => s

/-- The circuit of an encrypt frame that is to be sent as a CIRCUIT frame. -/
def circuitOf (s : State) (f : Frame) : Option Nat :=
  if (s.pair f.pair).mode = .trunk ∧ f.verdict = some .encrypt then f.circuit else none

/-- A protected frame that is dropped at its output has used its block slots all the same (11 R430, R454). -/
def usedSlots (s : State) (f : Frame) (n : Nat) : State :=
  if f.verdict = some .encrypt then s.add (cphCtr false 0x08) n else s

/-- The output of a port before has not ended, with its gap on an Ethernet port and its PAD on a trunk port, when a frame
that departs in cycle `d` would begin (01 R43; 05 R181; 06 R213; 11 R441). -/
def overruns (s : State) (line : Bool) (f : Frame) (d : Nat) : Bool :=
  if s.trunkSide line f.pair then decide (departAt f d < (s.portOut line f.pair).busyUntil) else !s.etherFits line f.pair (departAt f d)

/-- An encrypt frame leaves on its line port, or is suppressed there (16 R575). A pair out of service sends no frame (05
R188). -/
def departEnc (s : State) (id : Nat) (f : Frame) (d : Nat) : State :=
  let c := s.circuitOf f
  let size := (framed f (leftBytes f)).length
  let refused := match c with
    | some k => s.circRefuses k f.pair size
    | none => false
  let (b, n, t) := s.sealOut f (c.map (fun k => (k, (s.circuit k).txSeq)))
  if s.pairInService f.pair = false then (s.usedSlots f n).dropFrame id (s.ctrIdle f)
  else if s.overruns true f d then (s.usedSlots f n).dropFrame id (s.ctrOverrun f)
  else if refused then (s.usedSlots f n).dropFrame id (Reg.framer f.pair + 0xB0)
  else if (s.pair f.pair).mode = .trunk then
      let t := match c with
        | some k => t.setCircuit k { t.circuit k with txSeq := ((t.circuit k).txSeq + 1) % 65536 }
        | none => t
      let t := t.countSealed f b.length n
      if s.pp.outputs then t.trunkSend id f d b else t.suppress id f
    else if s.txLimit f.pair < b.length ∧ f.rx = .good then (s.usedSlots f n).dropFrame id (Reg.port false f.pair + 0xA0)
    else
      let t := t.countSealed f b.length n
      if s.pp.outputs then t.etherOut id f d b else t.suppress id f

/-- A decrypt frame leaves on its host port; the collisions of 06 R213 and 11 R441. A pair out of service sends no frame
(05 R188). -/
def departDec (s : State) (id : Nat) (f : Frame) (d : Nat) : State :=
  let m := (s.pair f.pair).mode
  if s.pairInService f.pair = false then s.dropFrame id (s.ctrIdle f)
  else if (m = .tunnel ∨ m = .trunk) ∧ s.overruns false f d then s.dropFrame id (s.ctrOverrun f)
  else if s.pp.outputs = false then s.suppress id f
  else
    match f.out with
    | some o => s.etherOut id f d (o.bytes ++ fcs o.bytes)
    | none =>
      let (b, t) := s.correct f (leftBytes f)
      t.etherOut id f d (framed f b ++ fcs (framed f b))

/-- Whether an earlier frame of the same channel and direction has still to leave (01 R31). -/
def behind (s : State) (id : Nat) (f : Frame) : Bool :=
  s.frames.any (fun e => decide (e.1 < id ∧ e.2.pair = f.pair ∧ e.2.dec = f.dec ∧ e.2.verdict ≠ some .divert ∧ e.2.stage ≠ .leaving) &&
    e.2.here && (match e.2.bind, f.bind with
      | some b, some c => decide (b.handle = c.handle)
      | _, _ => false))

/-- Whether a frame's output is fixed: an encrypt or BYPASS frame in the cipher stage, a decrypt frame
once decided; a decrypt frame must have arrived whole. -/
def mayDepart (f : Frame) : Bool :=
  if f.dec then decide (f.rx = .good) && (decide (f.stage = .cipher ∧ f.verdict = some .bypass) || f.out.isSome)
  else decide (f.stage = .cipher)

/-! ### Steward, cache, pipes -/

/-- A frame the steward puts in (01 R33): an Ethernet frame without its FCS, or a trunk frame from its
core header on. It has arrived whole, at this cycle. -/
def inject (s : State) (p : Nat) (dec : Bool) (b : Bytes) : State :=
  let trunk := dec && decide ((s.pair p).mode = .trunk)
  let f := s.arriving p dec (if trunk then b else b ++ fcs b) (if trunk then some (s.trunkHdrOf p b false) else none) 0 s.count
  s.addFrame { f with rx := .good, injected := true }

/-- A record written back is sealed under the boot keys, both parts (10 R386; 15 R541, R547). -/
def writeBack (s : State) (i : Nat) : State :=
  let t := { s with chn := { s.chn with evicted := s.chn.evicted.filter (fun k => decide (k ≠ i)) } }
  match (t.chIndex true i).body, t.key.k1, t.key.k2, t.key.kt with
  | some c, some k1, some k2, some kt =>
    let m := t.hbm.sealRecord k1.key k2.key kt.key (2 * i) (c.partA (t.chIndex true i).gen)
    let m := m.sealRecord k1.key k2.key kt.key (2 * i + 1) c.partB
    let t := ({ t with hbm := m }).bump (chnCtr 0x20)
    (t.lineCount (Hbm.recordAddr (2 * i)) 1).lineCount (Hbm.recordAddr (2 * i + 1)) 1
  | _, _, _, _ => t

/-- The slots of a round counted by pipe group (18 R606): how many served frames is free. -/
def countRound (s : State) : State :=
  let (i, t) := s.fresh
  (List.range 16).foldl (fun t g =>
    let k := popCount (field s.cph.awake (4 * g) 4) 4
    let used := Config.dealtSlots i g % (255 * k + 1)
    ((t.pmuCount 6 g 0 used).pmuCount 6 g 1 (255 * k - used)).pmuCount 6 g 2 k) t

/-- The deal takes the pipes and lanes that are there now (11 R433, R434, R436). -/
def roundBoundary (s : State) : State :=
  let n := s.pipesInService
  let t := ({ s with cph := { s.cph with fitN := n } }).settle
  { t with cph := { t.cph with n := popCount t.cph.awake 64, dealt := t.cph.awake, lanes := t.lanesInService } }

/-- A pipe error captured (11 R453). -/
def pipeError (s : State) (p kind : Nat) : State := s.capture Reg.cphCheck [(kind, 28, 2), (p, 0, 6)]

/-- A pipe that failed at wake leaves service (11 R449). -/
def wakeFail (s : State) (p : Nat) : State := ((s.pipesOut (2 ^ p) []).pipeError p 2).cphCause p 2 3

/-- A woken group's pipes join the deal, or are removed (11 R449, R452). -/
def groupWoken (s : State) (g : Nat) (bad : BitVec 4) : State :=
  let ps := (List.range 4).filter (fun i => s.cph.inService.testBit (4 * g + i) && !s.cph.awake.testBit (4 * g + i))
  let t := (ps.filter (fun i => bad.getLsbD i)).foldl (fun t i => t.wakeFail (4 * g + i)) s
  let good := ps.filter (fun i => !bad.getLsbD i)
  let t := { t with cph := { t.cph with
    awake := good.foldl (fun m i => setBit m (4 * g + i) true) t.cph.awake
    waking := setBit t.cph.waking g false } }
  let t := if good.length = ps.length ∧ ps ≠ [] then t.cphCause (4 * g) 0 0 else t
  t.unitsWoken

/-! ### The user test (11 R451) -/

/-- RESULT of CPH_TEST_CTRL. -/
def testResult (s : State) (r : Nat) : State := s.setField Reg.cphTestCtrl 24 8 r

/-- The test the registers ask for. -/
def testOf (s : State) : CphTest :=
  let c := s.regN Reg.cphTestCtrl
  let l := s.regN Reg.cphTestLen
  { pipe := field c 0 6, key256 := c.testBit 17, dec := c.testBit 18
    key := (s.regBytes Reg.cphTestKey 8).take (if c.testBit 17 then 32 else 16), iv := s.regBytes Reg.cphTestIv 3
    aad := (s.regBytes Reg.cphTestAad 16).take (field l 0 7), text := (s.regBytes Reg.cphTestIn 16).take (field l 16 7)
    tag := s.regBytes Reg.cphTestTag 4 }

/-- A write of CPH_TEST_CTRL: START is refused, or the test begins. -/
def testStart (s : State) (v : Word) : State :=
  let t := s.storeReg Reg.cphTestCtrl v
  let l := t.regN Reg.cphTestLen
  if v.getLsbD 16 = false then t
  else if t.cph.test.isSome then t.testResult 0x01
  else if t.lev.locked then t.testResult 0x55
  else if t.cph.inService.testBit (field (t.regN Reg.cphTestCtrl) 0 6) = false then t.testResult 0x46
  else if 64 < field l 0 7 ∨ 64 < field l 16 7 then t.testResult 0x52
  else { t with cph := { t.cph with test := some t.testOf } }

/-- The test ends: its output, its tag or TAG_OK, and the key registers zeroed. -/
def testDone (s : State) (x : CphTest) : State :=
  let out := Crypto.gcmCrypt x.key x.iv x.text
  let tag := Crypto.gcmTag x.key x.iv x.aad (if x.dec then x.text else out)
  let t := { s with cph := { s.cph with test := none } }
  let t := t.setWords Reg.cphTestOut (Blob.toWords 16 (padTo out 64))
  let t := if x.dec then t.setField Reg.cphTestCtrl 22 1 (b2n (decide (tag = x.tag)))
    else (t.setWords Reg.cphTestTag (Blob.toWords 4 tag)).setField Reg.cphTestCtrl 22 1 0
  (t.setWords Reg.cphTestKey (List.replicate 8 0)).testResult 0

end State

/-- ENGINE_BUDGET_END (08 R302–R304): a frame's 120 cycles are used, or it carried a verdict from the classifier. While a
program still has cycles to run there is no such end, and nothing happens. -/
def execEngineBudgetEnd (id : Nat) (keyFault : Bool) (s : State) : Out :=
  match s.frame id with
  | none => .next s
  | some f =>
    if f.stage ≠ .engine then .next s
    else
      match s.whereIs id with
      | none => .next (if f.verdict.isSome then s.leaveEngine id f keyFault else s)
      | some (e, k) =>
        match Tab.find (s.engine e).ctxs k with
        | none => .next s
        | some x =>
          if x.cond = .parked ∨ x.cond = .ready ∨ (x.cond = .running ∧ x.executed < 120) then .next s
          else
            let t := s.spendRest e x
            if f.verdict.isNone then .next (t.dropFrame id (State.pldCtr f.dec 0x30))
            else .next ((t.freeCtx id).leaveEngine id { f with waited := x.parked } keyFault)

/-- FAR_HOLD_RELEASE (08 R305): the cipher stage begins when the hold releases the frame (11); `bad` is the line of its reorder
buffer, if any, found uncorrectable as the frame is read (15 R543, R545). -/
def execFarHoldRelease (id : Nat) (keyFault : Bool) (s : State) (bad : Option (Fin 0x100000) := none) : Out :=
  let s := match bad with
    | some l => (s.hbmBad (0x274000000 + 256 * l.val) false).reorderBad (0x2740000 + l.val)
    | none => s
  match s.frame id with
  | none => .next s
  | some f =>
    if f.stage ≠ .held ∨ s.heldBack id f then .next s
    else
      let at_ := max f.hold s.now
      .next (s.sendOn id { f with hold := at_ - f.hold } at_ keyFault)

/-- CACHE_WRITE_BACK (10 R386): the oldest replaced record that changed is written back; `cell` says that the cell of a
sealing key fails at its fetch (12 R474). -/
def execCacheWriteBack (s : State) (cell : Bool := false) : Out :=
  match s.chn.evicted with
  | [] => .next s
  | i :: _ =>
    if s.hbm.st ≠ .active then .next s
    else if cell ∨ s.sealKeysOk = false then .next s.deviceFault
    else .next (s.writeBack i)

/-- RX_DECISION (10 R396): a decrypt frame's tag check ends. -/
def execRxDecision (id : Nat) (s : State) : Out :=
  match s.frame id with
  | none => .next s
  | some f =>
    match f.bind with
    | none => .next s
    | some b =>
      if f.stage = .cipher ∧ f.verdict = some .decrypt ∧ f.rx = .good ∧ s.awaitsTurn id b = false then
        .next (s.rxDecide id f b)
      else .next s

/-- FRAME_DEPART (01 R31; 11 R438, R439): the start-of-frame leaves, behind the earlier frames of its channel. -/
def execFrameDepart (id : Nat) (s : State) : Out :=
  match s.frame id with
  | none => .next s
  | some f =>
    if State.mayDepart f ∧ s.behind id f = false then
      let d := f.depart.getD s.now
      .next (if f.dec then s.departDec id f d else s.departEnc id f d)
    else .next s

/-- STEWARD_INJECT (01 R33). -/
def execStewardInject (p : Fin 32) (dec : Bool) (bytes : Bytes) (s : State) : Out :=
  let trunk := dec && decide ((s.pair p.val).mode = .trunk)
  let whole := !trunk || (decide (6 ≤ bytes.length) && Ndoath.valid (bytes.take 6) &&
    decide (bytes.length = Ndoath.size bytes) && [1, 2, 5].contains (Ndoath.typ bytes))
  if s.stewardServes ∧ s.pairInService p.val ∧ whole then .next (s.inject p.val dec bytes) else .next s

/-- CIPHER_ROUND_BOUNDARY (11 R433, R436). -/
def execCipherRoundBoundary (s : State) : Out := .next (s.countRound.roundBoundary)

/-- PIPE_GROUP_WAKE_DONE (11 R449). -/
def execPipeGroupWakeDone (g : Fin 16) (bad : BitVec 4) (s : State) : Out :=
  if s.cph.waking.testBit g.val then .next (s.groupWoken g.val bad) else .next s

/-- PIPE_CHECK_ERROR (11 R447, R450): `held` are the frames with a block or a partial tag in the pipe. -/
def execPipeCheckError (p : Fin 64) (kat : Bool) (held : List Nat) (s : State) : Out :=
  if s.cph.inService.testBit p.val ∧ s.cph.awake.testBit p.val then
    let t := { s with cph := { s.cph with failed := if kat then s.cph.failed ||| 2 ^ p.val else s.cph.failed } }
    let t := (t.pipesOut (2 ^ p.val) held).pipeError p.val (b2n kat)
    .next ((t.cphCause p.val (1 + b2n kat) 3).settle)
  else .next s

/-- CPH_TEST_START (11 R451): a write of CPH_TEST_CTRL. -/
def execCphTestStart (v : Word) (s : State) : Out := .next (s.wr .pf0 Reg.cphTestCtrl (fun s => s.testStart v))

/-- CPH_TEST_DONE (11 R451). -/
def execCphTestDone (s : State) : Out :=
  match s.cph.test with
  | none => .next s
  | some x => .next (s.testDone x)

/-- CPH_CLR_COUNTS (11 R453). -/
def execCphClrCounts (s : State) : Out :=
  .next (s.wr .pf0 Reg.cphControl (fun s => s.clearCounts Reg.cphControl))

end Sys2Proof.Machine
end

