-- ==== Sys2Proof/Machine/Mail.lean ====
section
/-! DEFINITION. The messages of the steward mailboxes: the frame of a request and a response, and which requests are turned
away before their command runs (19 R628–R632; 03 R91). -/

namespace Sys2Proof.Machine
open Sys2Proof.Bits

/-! ### Messages (19 R628) -/

namespace Mail

/-- COMMAND. -/
def code (b : Bytes) : Nat := leAt b 0 2

/-- LENGTH. -/
def length (b : Bytes) : Nat := leAt b 4 2

/-- The payload. -/
def payload (b : Bytes) : Bytes := sliceZ b 16 (length b)

/-- RESULT, FLAGS and the last eight bytes of a request's header are 0, and LENGTH is in range. -/
def headerOk (b : Bytes) : Bool := decide (leAt b 6 10 = 0 ∧ length b ≤ 4080)

/-- The codes of 19 R632. -/
def known (c : Nat) : Bool := [0x01, 0x02, 0x10, 0x11, 0x12, 0x20, 0x21, 0x30, 0x31, 0x32, 0x40, 0x41, 0x50, 0x60, 0x61].contains c

/-- Whether a command takes a LENGTH (19 R632). -/
def takes (c n : Nat) : Bool :=
  if c = 0x10 then decide (n = 12) else if c = 0x11 then decide (9 ≤ n ∧ n ≤ 4080) else if c = 0x12 then decide (n = 8)
  else if c = 0x30 ∨ c = 0x31 ∨ c = 0x32 ∨ c = 0x60 then decide (n = 4)
  else if c = 0x40 then decide (n = 24) else if c = 0x41 then decide (n = 20)
  else if c = 0x50 then decide (n = 32) else if c = 0x61 then decide (n = 48) else decide (n = 0)

/-- The reserved bytes of a command's payload are 0. -/
def reservedOk (c : Nat) (p : Bytes) : Bool :=
  if c = 0x10 ∨ c = 0x11 ∨ c = 0x12 ∨ c = 0x60 then decide (leAt p 1 3 = 0)
  else if c = 0x30 ∨ c = 0x31 ∨ c = 0x32 then decide (leAt p 1 1 = 0)
  else if c = 0x40 ∨ c = 0x41 then decide (leAt p 2 2 = 0)
  else true

/-- A response to a request. -/
def reply (req : Bytes) (r : Nat) (out : Bytes) : Bytes :=
  req.take 4 ++ leBytes 2 out.length ++ [BitVec.ofNat 8 r, 1] ++ zeros 8 ++ out

end Mail

namespace State

/-! ### Requests and answers (19 R630, R631) -/

/-- The request of a mailbox that awaits its answer. -/
def request (s : State) (m : MbxId) : Option Bytes :=
  let b := s.mbx m
  if b.busy ∧ b.answer = none then some b.req else none

/-- The result with which hardware answers a command in place of the steward (19 R631; 12 R483). The unlock
commands follow 19 R627. -/
def mbxShut (s : State) (c : Nat) : Option Nat :=
  let ident := decide (c = 0x01 ∨ c = 0x02)
  let unlock := decide (c = 0x60 ∨ c = 0x61)
  if ident then none
  else if s.evt.c4.isSome then some 0x67
  else if unlock && s.vaultValid then none
  else if s.lev.locked ∨ (s.running ∧ s.vaultValid = false) then some 0x55
  else if s.running = false then some 0x64
  else if s.stw.restarting then some 0x01
  else none

/-- The result a request is turned away with, before its command runs: a malformed header, a state of 19
R631, an unknown command, a LENGTH or reserved byte out of place. -/
def mbxRefusal (s : State) (req : Bytes) : Option Nat :=
  let c := Mail.code req
  if Mail.headerOk req = false then some 0x66
  else
    match s.mbxShut c with
    | some r => some r
    | none =>
      if Mail.known c = false then some 0x65
      else if Mail.takes c (Mail.length req) && Mail.reservedOk c (Mail.payload req) then none
      else some 0x66

/-- The answer of a mailbox's command computed. -/
def mbxAnswer (s : State) (m : MbxId) (req : Bytes) (r : Nat) (out : Bytes) : State :=
  s.setMbx m { s.mbx m with answer := some (Mail.reply req r out) }

end State

end Sys2Proof.Machine
end

