-- ==== Sys2Proof/Machine/KeyUnit.lean ====
section
/-! DEFINITION. The key hierarchy unit: domain commands, invalidation, aborts, attestation, the DRBG and
its registers (12 R464–R487). -/

namespace Sys2Proof.Machine
open Sys2Proof.Bits

namespace KeyCmd

/-- Whether a code names a parent usage (12 R465). -/
def needsParent (code : Nat) : Bool := decide (2 ≤ code ∧ code ≤ 5)

/-- The bit of USAGE that a code needs of its parent. -/
def needed (code : Nat) : Nat := if code = 2 then 2 else if code = 3 then 1 else 3

/-- The domain slots a command names. -/
def names (c : KeyCmd) : List Nat :=
  if c.code = 7 then [] else if needsParent c.code then [c.slot, c.parent] else [c.slot]

/-- A command that writes its SLOT. -/
def writes (c : KeyCmd) : Bool := decide (1 ≤ c.code ∧ c.code ≤ 4)

end KeyCmd

namespace State

/-- REFS of a generation: the commands in progress that use its key, channel LOADs among them (12 R464,
R470). -/
def keyRefs (s : State) (slot gen : Nat) : Nat :=
  (s.key.cmds.filter (fun c => c.refused.isNone && KeyCmd.needsParent c.code && decide (c.parent = slot ∧ c.parentGen = gen))).length +
    (s.chn.cmds.filter (fun c => decide (c.code = 5 ∧ field (c.word 0) 0 10 = slot ∧ c.domGen = gen) && c.domOk)).length

/-! ### Domain slots written (12 R467, R471) -/

/-- A slot written (12 R467): its old generation is invalidated in the same step; a child whose parent
generation no longer stands is invalidated at once (12 R471). -/
def writeDomain (s : State) (n : Nat) (d : Domain) : State :=
  let old := s.key.slot n
  let gen := (old.gen + 1) % 65536
  let k := match old.key with
    | some key => { s.key with dead := s.key.dead ++ [DeadKey.mk n old.gen key] }
    | none => s.key
  let t := { s with key := { k.setSlot n { d with gen := gen } with digestPending := true } }
  let orphan := d.derived && !t.key.stands d.parent d.parentGen
  let was := old.key.isSome
  let roots := (if was then [(n, old.gen)] else []) ++ (if orphan then [(n, gen)] else [])
  if roots.isEmpty then t else t.invalidate roots (b2n was)

/-! ### Attestation and the configuration digest (12 R480, R481) -/

/-- The CHANNEL_POLICY body with its profiles and domain policies as currently held. -/
def heldPolicy (s : State) : Bytes :=
  let prof := fun (p : Nat) =>
    let a := Reg.chnProfile + 0x20 * p
    leBytes 4 (s.inForce a) ++ zeros 4 ++ leBytes 4 (s.inForce (a + 0x08)) ++ leBytes 4 (s.inForce (a + 0x0C)) ++
      leBytes 4 (s.inForce (a + 0x10)) ++ leBytes 4 (s.inForce (a + 0x14)) ++ leBytes 2 (s.inForce (a + 0x18)) ++ zeros 6
  leBytes 2 1 ++ zeros 14 ++ (List.range 16).flatMap prof ++ s.regBytes Reg.chnPolicy 32

/-- The configuration digest of the inputs as they stand. -/
def configDigest (s : State) : Bytes :=
  Crypto.sha384 (s.portPolicy ++ s.heldPolicy ++ s.key.table s.drains)

/-- The attestation response for a challenge (12 R480). -/
def attestation (s : State) (ak chal : Bytes) : Bytes :=
  let dev := beBytes 2 (s.devNumber.getD 0)
  let ens := beBytes 2 (s.ensign % 4096)
  let mac := Crypto.hmac384 ak (chal ++ dev ++ dieId ++ s.imageDigest ++ ens ++ s.key.digest)
  beBytes 2 1 ++ dev ++ ens ++ zeros 2 ++ dieId ++ s.imageDigest ++ s.key.digest ++ mac

/-- What an ATTEST captures now: nothing while a recomputation of the digest is pending. -/
def attestNow (s : State) (chal : Bytes) : Option Bytes :=
  if s.key.digestPending then none else s.key.ak.map (fun ak => s.attestation ak.key chal)

/-- The digest recomputed; the ATTESTs that wait for it capture their fields. -/
def recompute (s : State) : State :=
  let t := { s with key := { s.key with digest := s.configDigest, digestPending := false } }
  let fill := fun (c : KeyCmd) => if c.code = 7 ∧ c.att.isNone then { c with att := t.attestNow (Blob.ofWords c.data) } else c
  { t with key := { t.key with cmds := t.key.cmds.map fill } }

/-! ### Acceptance (12 R466, R471) -/

/-- The refusal of a command, the first in the order of 12 R466; the checks of PARENT are made for the codes that name a
parent usage. Without an attestation key an ATTEST is refused as under a LOCK. -/
def keyRefusal (s : State) (code slot parent usage : Nat) : Option Nat :=
  let p := s.key.slot parent
  let np := KeyCmd.needsParent code
  if s.lev.locked then some 0x55
  else if np ∧ slot = parent then some 0x46
  else if s.key.sweeping slot then some 0x01
  else if code = 7 ∧ s.key.ak.isNone then some 0x55
  else if np ∧ p.key.isNone then some 0x50
  else if np ∧ (p.usage.testBit (KeyCmd.needed code) = false ∨ (code = 3 ∧ usage &&& p.usage ≠ usage)) then some 0x56
  else if code = 3 ∧ 3 ≤ p.depth then some 0x59
  else if (code = 4 ∨ code = 5) ∧ s.key.drbg.isNone then some 0x57
  else none

/-- COMMAND_REFUSED. -/
def keyRefused (s : State) : State := (s.keyBump 0x08).keyCause 0 0

/-- RESULT of KEY_CMD_STATUS. -/
def keyResult (s : State) (r : Nat) : State := s.setField Reg.keyCmdStatus 8 8 r

/-- A command accepted with what its PARENT holds now. -/
def keyAccept (s : State) (code : Nat) (host : Bool) (arg : Nat) (data : List Word) : State :=
  let slot := field arg 0 10
  let parent := field arg 16 10
  let usage := field arg 10 4
  let p := s.key.slot parent
  let c : KeyCmd :=
    { code := code, host := host, slot := slot, parent := parent, usage := usage, data := data
      parentGen := p.gen, parentDepth := p.depth
      refused := s.keyRefusal code slot parent usage
      att := if code = 7 then s.attestNow (Blob.ofWords data) else none }
  { s with key := { s.key with cmds := s.key.cmds ++ [c] } }.keyBump 0

/-- A write of CODE by the host: one command at a time (12 R487), BUSY before an unlisted code (log entry 102). -/
def keyBegin (s : State) (code : Nat) : State :=
  if s.key.cmds.any (fun c => c.host) then (s.keyResult 0x01).keyRefused
  else if code = 0 ∨ 7 < code then (s.keyResult 0x65).keyRefused
  else s.keyAccept code true (s.regN Reg.keyCmdArg) (if code = 7 then s.words Reg.keyAttChal 8 else s.words Reg.keyData 16)

/-- A command given at a port; the steward has up to 16 in progress. -/
def keyCommand (s : State) (code : Nat) (p : CmdPort) : State :=
  match p with
  | .host => s.wr .pf0 Reg.keyCmd (fun s => s.keyBegin code)
  | .steward _ arg data =>
    if s.stewardServes ∧ (s.key.cmds.filter (fun c => !c.host)).length < 16 then s.keyAccept code false arg.toNat data else s

/-! ### Effects (12 R465) -/

/-- A random key of the length USAGE names, from the DRBG. -/
def drawKey (s : State) (usage : Nat) : Bytes × State :=
  s.draw (if usage.testBit 0 then 32 else 16)

/-- A key written into a domain slot's cell. -/
def keyInto (s : State) (n : Nat) (key : Bytes) (d : Domain) : State :=
  let (c, t) := s.newCell key
  t.writeDomain n { d with key := some c }

/-- The cell whose key a command uses: a device key's, or that of the PARENT generation it holds (12 R465, R470). -/
def usedCell (s : State) (c : KeyCmd) : Option Cell :=
  if c.code = 1 then s.key.dtk else if c.code = 7 then s.key.ak else s.key.cellOf c.parent c.parentGen

/-- A command's result, its returned bytes, and the state; `kek` is the key it fetched. -/
def keyApply (s : State) (c : KeyCmd) (kek : Bytes) : Nat × Bytes × State :=
  let blob := Blob.ofWords c.data
  if c.code = 1 ∨ c.code = 2 then
    match Blob.openDomain kek (blob.take 56) c.slot (s.devNumber.getD 0) with
    | none => (0x4F, [], s)
    | some (key, usage) =>
      (0, [], s.keyInto c.slot key { Domain.empty with usage := usage, origin := if c.code = 1 then .import else .unwrap })
  else if c.code = 3 then
    let key := Crypto.kdf kek (Crypto.ascii "TYJ DOMAIN") (sliceZ blob 0 40) (if c.usage.testBit 0 then 256 else 128)
    (0, [], (s.keyBump 0x20).keyInto c.slot key { Domain.empty with
      usage := c.usage, origin := .derive, depth := c.parentDepth + 1, derived := true, parent := c.parent
      parentGen := c.parentGen })
  else if c.code = 4 then
    let (key, t) := s.drawKey c.usage
    (0, Crypto.kwWrap kek (Blob.domainPlain key c.slot c.usage 0xFFFF),
      t.keyInto c.slot key { Domain.empty with usage := c.usage, origin := .generate })
  else if c.code = 5 then
    let (key, t) := s.drawKey c.usage
    (0, Crypto.kwWrap kek key, t)
  else if c.code = 6 then
    (0, [], if s.key.valid c.slot then s.invalidate [(c.slot, (s.key.slot c.slot).gen)] 0 else s)
  else (0, c.att.getD [], (s.keyBump 0x40).keyCause 6 0)

/-- A command's end at its port: the data words are cleared but for a returned blob; an ATTEST leaves its
MAC (12 R480, R487). -/
def keyReport (s : State) (c : KeyCmd) (r : Nat) (out : Bytes) : State :=
  if c.host then
    let t := s.keyResult r
    let t := t.setWords Reg.keyData (Blob.toWords 16 (if c.code = 7 then [] else out))
    let t := t.setWords Reg.keyAttChal (List.replicate 8 0)
    if c.code = 7 then t.setWords Reg.keyAttMac (Blob.toWords 12 (out.drop 120)) else t
  else s.stewardAnswer r (Blob.toWords ((out.length + 3) / 4) out)

/-- A domain or device key cell that fails its integrity code at a command's fetch (12 R474). -/
def keyCell (s : State) (c : KeyCmd) : State :=
  if c.code = 1 ∨ c.code = 7 then s.deviceFault else s.domainFault c.parent c.parentGen

/-- A command fetches its key and is carried out: its result, its returned bytes, and the state. -/
def keyRun (s : State) (c : KeyCmd) (cellFault : Bool) : Nat × Bytes × State :=
  if c.code = 6 then s.keyApply c []
  else
    match s.usedCell c with
    | none => (0x4F, [], s)
    | some x =>
      match s.fetch x cellFault with
      | none => (0x4F, [], s.keyCell c)
      | some kek => s.keyApply c kek

/-- An accepted command completes. An INVALIDATE in progress completes under a LOCK, since it only destroys (12 R472); every
other command is gone from the unit then. -/
def keyFinish (s : State) (n : Nat) (c : KeyCmd) (cellFault : Bool) : State :=
  let t := { s with key := { s.key with cmds := s.key.cmds.eraseIdx n } }
  let late := if t.key.sweeping c.slot then some 0x01
    else if (c.code = 4 ∨ c.code = 5) ∧ t.key.drbg.isNone then some 0x57
    else none
  match c.refused.or late with
  | some r => (t.keyRefused).keyReport c r []
  | none =>
    let (r, out, u) := t.keyRun c cellFault
    let u := if r = 0 then u else u.keyRefused
    u.keyReport c r out

/-- Whether a command must wait: for an earlier one on one of its slots (12 R471), or an ATTEST for the
digest. -/
def keyWaits (s : State) (n : Nat) (c : KeyCmd) : Bool :=
  (s.key.cmds.take n).any (fun d => d.names.any (fun k => c.names.contains k)) ||
    (decide (c.code = 7 ∧ c.refused = none) && c.att.isNone)

/-! ### Aborts (12 R472) -/

/-- An abort captured, counted and raised. -/
def keyAborted (s : State) (code slot : Nat) : State :=
  ((s.keyBump 0x10).capture Reg.keyAbort [(0, 28, 2), (code, 20, 8), (slot, 0, 10)]).keyCause 2 1

/-- A domain command aborted: its destination is left EMPTY. After an ATTEST the MAC registers read 0. -/
def abortCmd (s : State) (c : KeyCmd) : State :=
  let t := s.keyAborted c.code c.slot
  let t := if c.writes && t.key.valid c.slot then t.invalidate [(c.slot, (t.key.slot c.slot).gen)] 2 else t
  let t := if c.code = 7 then t.setWords Reg.keyAttMac (List.replicate 12 0) else t
  t.keyReport c 0x58 []

/-- An ATTEST that a mailbox asks for and that has not been answered is aborted: its answer is ABORTED and carries no
response. -/
def abortMail (s : State) (m : MbxId) : State :=
  match s.request m with
  | none => s
  | some req =>
    if Mail.code req ≠ 0x50 ∨ (s.mbxRefusal req).isSome then s
    else ((s.keyAborted 7 0).setWords Reg.keyAttMac (List.replicate 12 0)).mbxAnswer m req 0x58 []

/-- A tamper alarm, a LOCK or a ZEROIZE aborts every key operation in progress: every domain command but
INVALIDATE, every ATTEST a mailbox asks for, and every LOAD. -/
def abortKeys (s : State) : State :=
  let hit := fun (c : KeyCmd) => decide (c.code ≠ 6) && c.refused.isNone
  let ks := s.key.cmds.filter hit
  let ls := s.chn.cmds.filter (fun c => decide (c.code = 5))
  let t := { s with
    key := { s.key with cmds := s.key.cmds.filter (fun c => !hit c) }
    chn := { s.chn with cmds := s.chn.cmds.filter (fun c => decide (c.code ≠ 5)) } }
  let t := (ks.foldl abortCmd t).abortMail .pcie |>.abortMail .i2c
  ls.foldl (fun t c => chReport c ((t.keyAborted 5 (field (c.word 0) 0 10)).chApply c true false)) t

/-! ### Mask refresh (12 R474) -/

/-- A cell that holds a key under a fresh mask. -/
def remaskCell (c : Cell) (s : State) : Cell × State :=
  if c.share.isEmpty then (c, s)
  else
    let (m, t) := s.draw c.share.length
    (c.remask m, t)

/-- A list of entries, each changed in turn with the state. -/
def inTurn {α : Type} (f : α → State → α × State) : List α → State → List α × State
  | [], s => ([], s)
  | a :: r, s =>
    let x := f a s
    let y := inTurn f r x.2
    (x.1 :: y.1, y.2)

/-- A device or boot key's cell, if it stands. -/
def remaskKey (c : Option Cell) (s : State) : Option Cell × State :=
  match c with
  | none => (none, s)
  | some c => ((remaskCell c s).1, (remaskCell c s).2)

/-- One association slot's cell. -/
def remaskSlot (x : Nat × ChSlot) (s : State) : (Nat × ChSlot) × State :=
  let r := remaskCell x.2.key s
  ((x.1, { x.2 with key := r.1 }), r.2)

/-- The cells of a channel's slots. -/
def remaskChannel (e : Nat × ChIndex) (s : State) : (Nat × ChIndex) × State :=
  match e.2.body with
  | none => (e, s)
  | some r =>
    let l := inTurn remaskSlot r.slots s
    ((e.1, { e.2 with body := some { r with slots := l.1 } }), l.2)

/-- One domain slot's cell. -/
def remaskDomain (e : Nat × Domain) (s : State) : (Nat × Domain) × State :=
  let r := remaskKey e.2.key s
  ((e.1, { e.2 with key := r.1 }), r.2)

/-- The cell of an invalidated domain key not yet destroyed. -/
def remaskDead (d : DeadKey) (s : State) : DeadKey × State :=
  let r := remaskCell d.key s
  ({ d with key := r.1 }, r.2)

/-- A holding cell. -/
def remaskHeld (d : KeyCell) (s : State) : KeyCell × State :=
  let r := remaskCell d.key s
  ({ d with key := r.1 }, r.2)

/-- The device and boot key cells re-masked. -/
def remaskDevice (s : State) : State :=
  let r := inTurn remaskKey [s.key.dtk, s.key.ak, s.key.uk, s.key.k1, s.key.k2, s.key.kt] s
  let c := fun n => (r.1[n]?).getD none
  { r.2 with key := { r.2.key with dtk := c 0, ak := c 1, uk := c 2, k1 := c 3, k2 := c 4, kt := c 5 } }

/-- The domain key cells re-masked, the invalidated ones not yet destroyed among them. -/
def remaskDomains (s : State) : State :=
  let r := inTurn remaskDomain s.key.slots s
  let d := inTurn remaskDead s.key.dead r.2
  { d.2 with key := { d.2.key with slots := r.1, dead := d.1 } }

/-- The association and holding cells re-masked. -/
def remaskChannels (s : State) : State :=
  let n := inTurn remaskChannel s.chn.near s
  let f := inTurn remaskChannel s.chn.far n.2
  let c := inTurn remaskHeld s.chn.cells f.2
  { c.2 with chn := { c.2.chn with near := n.1, far := f.1, cells := c.1 } }

/-- Every key cell re-masked with fresh DRBG bits. -/
def remaskAll (s : State) : State := s.remaskDevice.remaskDomains.remaskChannels

/-- A domain slot's snapshot (12 R487). -/
def slotSnapshot (s : State) (n : Nat) : State :=
  let d := s.key.slot n
  s.setRegs [(Reg.keySlotInfo0, word [(b2n d.key.isSome, 31, 1), (d.depth, 29, 2), (d.origin.code, 27, 2),
      (s.keyRefs n d.gen, 20, 7), (d.usage, 16, 4), (d.gen, 0, 16)]),
    (Reg.keySlotInfo1, word [(b2n d.derived, 31, 1), (b2n (s.key.sweeping n), 30, 1), (d.parent, 16, 10), (d.parentGen, 0, 16)])]

end State

/-- DOMAIN_IMPORT (12 R465). -/
def execDomainImport (port : CmdPort) (s : State) : Out := .next (s.keyCommand 0x01 port)

/-- DOMAIN_UNWRAP (12 R465). -/
def execDomainUnwrap (port : CmdPort) (s : State) : Out := .next (s.keyCommand 0x02 port)

/-- DOMAIN_DERIVE (12 R465). -/
def execDomainDerive (port : CmdPort) (s : State) : Out := .next (s.keyCommand 0x03 port)

/-- DOMAIN_GENERATE (12 R465). -/
def execDomainGenerate (port : CmdPort) (s : State) : Out := .next (s.keyCommand 0x04 port)

/-- ASSOC_GENERATE (12 R465). -/
def execAssocGenerate (port : CmdPort) (s : State) : Out := .next (s.keyCommand 0x05 port)

/-- INVALIDATE (12 R468). -/
def execDomainInvalidate (port : CmdPort) (s : State) : Out := .next (s.keyCommand 0x06 port)

/-- ATTEST (12 R480). -/
def execKeyAttest (port : CmdPort) (s : State) : Out := .next (s.keyCommand 0x07 port)

/-- KEY_COMMAND_DONE (12 R471, R474): the n-th accepted command completes; `cellFault` says that the key
cell it fetches fails. -/
def execKeyCommandDone (n : Nat) (cellFault : Bool) (s : State) : Out :=
  match s.key.cmds[n]? with
  | none => .next s
  | some c => if s.keyWaits n c then .next s else .next (s.keyFinish n c cellFault)

/-- DOMAIN_KEY_DESTROY (12 R470). -/
def execDomainKeyDestroy (slot : Fin 1024) (gen : Fin 65536) (s : State) : Out :=
  if s.keyRefs slot.val gen.val = 0 then
    .next { s with key := { s.key with dead := s.key.dead.filter (fun d => decide (¬(d.slot = slot.val ∧ d.gen = gen.val))) } }
  else .next s

/-- CELL_REMASK (12 R474, R475): mask refresh pauses while the DRBG is not instantiated. -/
def execCellRemask (s : State) : Out := .next (if s.key.drbg.isSome then s.remaskAll.keyBump 0x38 else s)

/-- DRBG_RESEED (12 R475). -/
def execDrbgReseed (s : State) : Out := .next s.reseed

/-- NOISE_HEALTH_FAIL (12 R475). -/
def execNoiseHealthFail (s : State) : Out :=
  if s.clockOn = false ∨ s.key.sourceRemoved then .next s
  else .next (({ s with key := { s.key with drbg := none, healthFail := true } }).keyCause 3 2)

/-- DRBG_REINSTANTIATE (12 R475). -/
def execDrbgReinstantiate (ok : Bool) (s : State) : Out :=
  if s.key.healthFail ∧ s.key.sourceRemoved = false ∧ ok then
    let t := s.seedDrbg
    .next { t with key := { t.key with healthFail := false } }
  else .next s

/-- KAT_PERIODIC (12 R476). -/
def execKatPeriodic (ok : Bool) (s : State) : Out :=
  if s.running ∧ ok = false then .next (s.keyCause 5 4) else .next s

/-- CONFIG_DIGEST_RECOMPUTE (12 R481). -/
def execConfigDigestRecompute (s : State) : Out := .next (if s.key.digestPending then s.recompute else s)

/-- KEY_SLOT_SNAPSHOT (12 R487). -/
def execKeySlotSnapshot (v : Word) (s : State) : Out :=
  .next (s.wr .pf0 Reg.keySlotSel (fun s => (s.storeReg Reg.keySlotSel v).slotSnapshot (v.toNat % 1024)))

/-- KEY_CLR_COUNTS (12 R487). -/
def execKeyClrCounts (s : State) : Out :=
  .next (s.wr .pf0 Reg.keyControl (fun s => s.clearCounts Reg.keyControl))

end Sys2Proof.Machine
end

