-- ==== Sys2Proof/Machine/Tamper.lean ====
section
/-! DEFINITION. The levee's commands: the clock and log, the tamper sources with their filters and
responses, the settings, the unlock exchange and the debug port (12 R478–R488; 13). -/

namespace Sys2Proof.Machine
open Sys2Proof.Bits

namespace State

/-! ### Events and records -/

/-- An event of the levee, with the source concerned; none on VBAT (13 R512). -/
def levCause (s : State) (src bit cls : Nat) : State :=
  if s.fed then (s.setField Reg.levTampEvent 24 4 src).cause Reg.levTampEvent bit (200 + bit) cls else s

/-- A log record written now (12 R479). -/
def levLog (s : State) (kind src detail : Nat) : State :=
  { s with lev := s.lev.write kind src (!s.fed) detail }

/-- A source that only notes its condition: one ALARM record and its event (13 R493). -/
def noteSource (s : State) (src bit cls : Nat) : State := (s.levLog 1 src 0).levCause src bit cls

/-! ### Responses (12 R482, R483; 13 R495–R500, R656) -/

/-- Traffic stops (11 R445): every frame of the cipher stage or the hold buffer is dropped under
DROP_LOCKED, also where its output has begun. -/
def stopCipher (s : State) : State :=
  let t := s.dropWhere (fun f => decide (f.stage = .cipher ∨ f.stage = .leaving ∨ (f.stage = .decided ∧ f.verdict ≠ some .divert)))
    (fun _ f => ctrLocked f)
  t.pairsUsed.foldl (fun t e => (t.endOutput e.1 (cphCtr false 0x20)).endOutputOn false e.1 (cphCtr true 0x20)) t

/-- A LOCK takes effect (13 R496, R500; 03 R116; 16 R580). One in force already, or an empty vault, leaves it
without effect (R498). -/
def takeLock (s : State) (src : Nat) : State :=
  if s.lev.locked ∨ s.lev.root = none then s
  else if s.fed = false then ({ s with lev := { s.lev with lockDeferred := true } }).levLog 3 src 0
  else
    let t := (({ s with lev := { s.lev with lock := true } }).levLog 2 src 0).levCause src 4 2
    let t := (t.stopCipher.abortKeys).fatalYield true
    let t := { t with stw := { t.stw with halted := true } }
    if t.running then t else t.halt 0x89

/-- Every channel is destroyed (10 R378, 12 R482). -/
def destroyAll (s : State) : State :=
  let t := s.chn.near.foldl (fun t e =>
    match e.2.body with
    | some r => t.destroyAt false e.1 r
    | none => t) s
  s.chn.far.foldl (fun t e =>
    match e.2.body with
    | some r => t.destroyAt true e.1 r
    | none => t) t

/-- The secrets outside the vault overwritten (12 R482). -/
def wipe (s : State) : State :=
  let k : Key := { Key.reset with
    cmds := s.key.cmds
    digestPending := true
    digest := s.key.digest
    healthFail := s.key.healthFail
    sourceRemoved := s.key.sourceRemoved }
  let t := s.destroyAll
  let t := { t with
    key := k
    chn := { t.chn with cells := [] }
    cph := { t.cph with test := t.cph.test.map (fun (x : CphTest) => { x with key := zeros x.key.length }) } }
  t.setWords Reg.cphTestKey (List.replicate 8 0)

/-- A ZEROIZE takes effect (12 R482, R483; 03 R119): on VBAT it destroys the vault alone. -/
def takeZeroize (s : State) (src : Nat) : State :=
  let t := ({ s with lev := { s.lev with root := none, chal := none } }).levLog 4 src 0
  if s.fed = false then t
  else
    let t := ((t.abortKeys).stopCipher.wipe).levCause src 5 4
    let t := { t with stw := { t.stw with halted := true } }
    if t.running then t else t.halt 0x8A

/-- An alarm during KEY_UNSEAL aborts the key operation in progress there (03 R120): which import that is depends on
the time of the alarm and is free (log entry 94). -/
def abortUnseal (s : State) : State :=
  if s.booting .keyUnseal then
    let (i, t) := s.fresh
    { t with boot := { t.boot with aborts := i :: t.boot.aborts } }
  else s

/-- The responses of the sources that fire in one levee tick: their ALARM records, the key operations and an
outstanding challenge ended, and of their responses ZEROIZE before LOCK (13 R495, R498, R505; 12
R472). -/
def fire (s : State) (l : List (Nat × Nat)) : State :=
  if l.isEmpty then s
  else
    let t := l.foldl (fun t e => t.levLog 1 e.1 0) s
    let t := ({ t with lev := { t.lev with chal := none } }).abortKeys.abortUnseal
    match l.find? (fun e => decide (e.2 = 2)), l.find? (fun e => decide (e.2 = 1)) with
    | some e, _ => t.takeZeroize e.1
    | none, some e => t.takeLock e.1
    | none, none => t

/-! ### Filters (13 R490–R493) -/

/-- Whether a temperature breaks a source's limits. -/
def tempOut (l : Lev) (n raw : Nat) : Bool :=
  decide (signed 12 raw < signed 12 (l.setting n).low ∨ signed 12 (l.setting n).high < signed 12 raw)

/-- The conditions of sources 1 to 4 as the last samples and the settings give them; sensor A's hold only on a
feed (13 R490). -/
def refreshTemps (s : State) : State :=
  let l := s.lev
  let l := (l.setCond 1 (s.fed && tempOut l 1 l.tempA)).setCond 2 (s.fed && tempOut l 2 l.tempA)
  { s with lev := (l.setCond 3 (tempOut l 3 l.tempB)).setCond 4 (tempOut l 4 l.tempB) }

/-- The event bit of a settable source (13 R512). -/
def sourceBit (n : Nat) : Nat := (n - 1) / 2

/-- The current second qualifies for a source: counted once, its event raised once in the second (13 R492,
R495). -/
def qualify (s : State) (n : Nat) : State :=
  let f := s.lev.filter n
  if f.now then s
  else
    let first := (List.range 6).all (fun k => decide (k = 0 ∨ sourceBit k ≠ sourceBit n) || !(s.lev.filter k).now)
    let t := { s with lev := s.lev.setFilter n { marks := s.lev.second :: f.marks, now := true } }
    if first then t.levCause n (sourceBit n) 0 else t

/-- Whether a source's count has reached COUNT (13 R492). -/
def ripe (l : Lev) (n : Nat) : Bool := decide ((l.setting n).count ≤ l.countOf n)

/-- Every settable source whose count has reached COUNT fires, and its count restarts (13 R492). -/
def fireRipe (s : State) : State :=
  let l := [1, 2, 3, 4, 5].filter (ripe s.lev)
  let t := { s with lev := l.foldl (fun v n => v.setFilter n { v.filter n with marks := [] }) s.lev }
  t.fire (l.map (fun n => (n, (s.lev.setting n).response)))

/-- The current second qualifies for each source of a list whose condition holds, and what is ripe fires. -/
def watch (s : State) (l : List Nat) : State :=
  ((l.filter s.lev.holds).foldl qualify s).fireRipe

/-- A sample of the sensors: both on a feed, sensor B alone without one (13 R491, R493). -/
def sampleTemps (s : State) (a b : Nat) : State :=
  let far := decide (40 < (signed 12 a - signed 12 b).natAbs)
  let l := if s.fed then { s.lev with tempA := a, tempB := b, disagree := s.lev.disagree || far }
    else { s.lev with tempB := b }
  ({ s with lev := l }.refreshTemps).watch [1, 2, 3, 4]

/-- The end of a levee second for source 9 (13 R493). -/
def endDisagree (s : State) : State :=
  let l := s.lev
  if s.fed && l.disagree then
    let t := { s with lev := { l with disagreeRun := l.disagreeRun + 1 } }
    if l.disagreeRun + 1 = 3 then ({ t with lev := t.lev.setCond 9 true }).noteSource 9 7 1 else t
  else { s with lev := { (l.setCond 9 false) with disagreeRun := 0 } }

/-- The vault re-masked at a 1 Hz sample (12 R477; 13 R494). -/
def remaskVault (s : State) : State :=
  let (i, t) := s.fresh
  { t with lev := { t.lev with root := t.lev.root.map (fun v => v.remask (beBytes 32 (Config.vaultMask i).toNat)) } }

/-- A levee second ends and the next begins: the clock has its ticks, the vault is re-masked, hold-off runs, filters forget
what no window reaches, and TAMPER_IN_N still low qualifies the new second (12 R477, R478; 13 R492, R508). -/
def levSecond (s : State) : State :=
  let t := s.fireRipe.remaskVault
  let t := { t with lev := { t.lev.secondTicks with holdoff := t.lev.holdoff - 1 } }
  let t := t.endDisagree
  let l := t.lev
  let fs := [1, 2, 3, 4, 5].foldl (fun v n =>
    v.setFilter n { marks := ((v.filter n).marks.filter (fun m => decide (v.second < m + 255))), now := false }) l
  ({ t with lev := { fs with second := l.second + 1, disagree := false } }).watch [5]

/-! ### Settings (13 R503, R504, R513) -/

/-- Whether new settings tighten old ones. -/
def tightens (o n : TampSet) : Bool :=
  decide (o.response ≤ n.response ∧ signed 12 o.low ≤ signed 12 n.low ∧ signed 12 n.high ≤ signed 12 o.high ∧
    n.count ≤ o.count ∧ o.window ≤ n.window)

/-- A source's settings as a register write would leave them. -/
def settingOf (o : TampSet) (filter : Bool) (v : Nat) : TampSet :=
  if filter then { o with response := min 2 (field v 24 2), count := field v 16 4, window := field v 0 8 }
  else { o with low := field v 16 12, high := field v 0 12 }

/-- A write of a settings register; the limits of source 5 ignore it. -/
def writeSetting (s : State) (n : Nat) (filter : Bool) (v : Nat) : State :=
  let o := s.lev.setting n
  let x := settingOf o filter v
  if n = 5 ∧ filter = false then s
  else if signed 12 x.high < signed 12 x.low ∨ x.count = 0 ∨ x.window = 0 then { s with lev := { s.lev with cfgResult := 0x52 } }
  else if tightens o x = false ∧ s.lev.configOpen = false then { s with lev := { s.lev with cfgResult := 0x60 } }
  else
    let l := { s.lev with settings := Tab.put Lev.defaultSet s.lev.settings n x, cfgResult := 0 }
    { s with lev := l }.refreshTemps

/-! ### LEV_CMD (12 R478, R488) -/

/-- A write of LEV_CMD, BUSY before an unlisted code (00 R653; log entry 102). -/
def levBegin (s : State) (c : Nat) : State :=
  if c = 0 ∨ 2 < c then (if s.lev.cmd.isSome then s.setField Reg.levCmd 24 8 0x01 else s.setField Reg.levCmd 24 8 0x65)
  else if s.lev.cmd.isSome then s.setField Reg.levCmd 24 8 0x01
  else { s with lev := { s.lev with cmd := some c } }

/-- The levee carries the command out. -/
def levFinish (s : State) (c : Nat) : State :=
  let t := { s with lev := { s.lev with cmd := none } }
  if c = 1 then
    let v := s.regN Reg.levRtcSet + s.regN (Reg.levRtcSet + 4) * 2 ^ 32
    (({ t with lev := { t.lev with rtc := v } }).levLog 8 0 v).setField Reg.levCmd 24 8 0
  else
    match s.lev.record (s.regN Reg.levLogIndex) with
    | none => t.setField Reg.levCmd 24 8 0x49
    | some r => (t.setWords Reg.levLogData ((List.range 4).map (fun k => BitVec.ofNat 32 (beAt r (4 * k) 4)))).setField Reg.levCmd 24 8 0

/-! ### The unlock exchange (13 R505–R511) -/

/-- The unlock key, computed from the vault on demand (12 R458). -/
def unlockKey (s : State) : Bytes := s.rootKey "TYJ UNLOCK" dieId 384

/-- START for a purpose: its result, and the challenge placed. -/
def unlockStart (s : State) (purpose : Nat) : Nat × State :=
  if purpose = 0 ∨ 2 < purpose then (0x52, s)
  else if s.vaultValid = false then (0x5F, s)
  else if 0 < s.lev.holdoff then (0x5C, s)
  else if purpose = 1 ∧ s.lev.locked = false then (0x5A, s)
  else
    let (i, t) := s.fresh
    let derived := s.key.healthFail || s.key.sourceRemoved || !(s.key.drbg.isSome || Config.noiseReady i)
    let n := s.lev.chalCount + 1
    let rtc := beBytes 8 s.lev.rtc
    let tail := if derived then Crypto.hmac384 s.unlockKey (rtc ++ beBytes 8 n)
      else Crypto.sha384 (beBytes 32 (Config.noise i).toNat)
    let c : Challenge := { bytes := rtc ++ tail.take 24, purpose := purpose, seq := s.lev.nextSeq }
    (0, { t with lev := { t.lev with chal := some c, chalCount := n, seqLow := s.lev.nextSeq % 2 ^ 16, derivedForm := derived } })

/-- The response that answers a challenge (13 R507). -/
def answerOf (s : State) (c : Challenge) : Bytes :=
  Crypto.hmac384 s.unlockKey (c.bytes ++ beBytes 2 (s.devNumber.getD s.lev.device) ++ dieId ++ [BitVec.ofNat 8 c.purpose] ++ beBytes 4 c.seq)

/-- Whether the condition of a source whose response is LOCK holds (13 R508). -/
def lockCondition (l : Lev) : Bool := [1, 2, 3, 4, 5].any (fun n => l.holds n && decide ((l.setting n).response = 1))

/-- The LOCK is lifted (13 R510, R512; 03 R117; 16 R574). -/
def liftLock (s : State) : State :=
  let t := { s with
    lev := { s.lev with lock := false, lockDeferred := false }
    evt := { s.evt with standing := Tab.del s.evt.standing 204 }
    stw := { s.stw with halted := s.evt.c4.isSome } }
  let t := if t.pp.role = .failed ∧ t.pp.byLock ∧ t.evt.c4.isNone then
      ({ t with pp := { t.pp with byLock := false } }).roleChange .starting 0
    else t
  if t.running = false ∧ t.boot.halted ∧ t.boot.code = 0x89 then t.restartBoot else t

/-- A response checked: its result (13 R508–R511). The challenge is used. -/
def unlockCheck (s : State) (resp : Bytes) : Nat × State :=
  let t := { s with lev := { s.lev with chal := none } }
  if s.vaultValid = false then (0x5F, t)
  else
    match s.lev.chal with
    | none => (0x5B, t)
    | some c =>
      if resp ≠ s.answerOf c then
        let n := min 255 (s.lev.fails + 1)
        let l := { t.lev with fails := n, holdoff := if 4 ≤ n then 60 else 0 }
        (0x5E, (({ t with lev := l }).levLog 6 0 0).levCause 0 6 1)
      else if c.purpose = 1 ∧ lockCondition s.lev then (0x5D, t)
      else
        let t := (({ t with lev := { t.lev with fails := 0, holdoff := 0 } }).levLog 5 0 0).levCause 0 6 0
        (0, if c.purpose = 1 then t.liftLock else { t with lev := { t.lev with configOpen := true } })

/-- RESULT of LEV_UNL_CTRL. -/
def unlResult (s : State) (r : Nat) : State := s.setField Reg.levUnlCtrl 24 8 r

/-- A write of LEV_UNL_CTRL with CMD `c`, BUSY before any other answer (log entry 102). -/
def unlCommand (s : State) (c : Nat) (v : Word) : State :=
  let t := s.storeReg Reg.levUnlCtrl v
  if c = 0 then t
  else if t.lev.checking.isSome then t.unlResult 0x01
  else if c = 1 then
    let (r, u) := t.unlockStart (t.regField Reg.levUnlCtrl 8 2)
    u.unlResult r
  else if c = 2 then
    let t := { t with lev := { t.lev with checking := some (t.regBytes Reg.levUnlResp 12) } }
    t.setWords Reg.levUnlResp (List.replicate 12 0)
  else ({ t with lev := { t.lev with chal := none } }).unlResult 0

/-- The check of a response ends. -/
def unlDone (s : State) (resp : Bytes) : State :=
  let (r, t) := ({ s with lev := { s.lev with checking := none } }).unlockCheck resp
  t.unlResult r

/-! ### The debug port (12 R484, R485) -/

/-- OPEN reaches Update-IR with TRST high. -/
def debugOpen (s : State) : State :=
  let t := { s with dbg := s.dbg.load 0xA5 }
  if s.dbg.open_ ∨ s.dbg.gate then t
  else
    let t := { t with lev := t.lev.setCond 7 true }
    if s.lev.root = none then ({ t with dbg := { t.dbg with open_ := true } }).levLog 7 0 0
    else ({ t with dbg := { t.dbg with gate := true } }).fire [(7, 2)]

end State

/-- SET_RTC (12 R478): a write of LEV_CMD. -/
def execLevSetRtc (s : State) : Out := .next (s.wr .pf0 Reg.levCmd (fun s => s.levBegin 1))

/-- LOG_READ (12 R488): a write of LEV_CMD. -/
def execLevLogRead (s : State) : Out := .next (s.wr .pf0 Reg.levCmd (fun s => s.levBegin 2))

/-- LEV_COMMAND_DONE (12 R478, R488). -/
def execLevCommandDone (s : State) : Out :=
  match s.lev.cmd with
  | none => .next s
  | some c => .next (s.levFinish c)

/-- SENSOR_SAMPLE (13 R491, R492). -/
def execSensorSample (a b : BitVec 12) (s : State) : Out := .next (s.sampleTemps a.toNat b.toNat)

/-- TAMPER_IN_LOW (13 R490, R492). -/
def execTamperInLow (s : State) : Out := .next (({ s with lev := s.lev.setCond 5 true }).watch [5])

/-- TAMPER_IN_RELEASE (13 R508). -/
def execTamperInRelease (s : State) : Out := .next { s with lev := s.lev.setCond 5 false }

/-- LEVEE_SECOND_END (13 R492, R493). -/
def execLeveeSecondEnd (s : State) : Out := .next s.levSecond

/-- VBAT_LOW (02 R72, 13 R493): below 2.0 V with no feed present. -/
def execVbatLow (s : State) : Out :=
  if s.fed ∨ s.lev.holds 6 then .next s else .next (({ s with lev := s.lev.setCond 6 true }).fire [(6, 2)])

/-- VBAT_WARN (13 R490, R493): below 2.2 V with a feed present. -/
def execVbatWarn (s : State) : Out :=
  if s.fed = false ∨ s.lev.holds 8 then .next s else .next (({ s with lev := s.lev.setCond 8 true }).noteSource 8 3 0)

/-- VBAT_RESTORED (13 R493). -/
def execVbatRestored (s : State) : Out := .next { s with lev := (s.lev.setCond 8 false).setCond 6 false }

/-- XT32_FAIL (13 R494): XT32_RUN is cleared (02 R86). -/
def execXt32Fail (s : State) : Out :=
  if s.lev.xt32 then
    let t := { s with lev := { (s.lev.setCond 10 true) with xt32 := false }, pwr := { s.pwr with xt32 := false } }
    .next (t.noteSource 10 7 1)
  else .next s

/-- XT32_RECOVER (13 R494; 02 R86). -/
def execXt32Recover (s : State) : Out :=
  .next { s with lev := { (s.lev.setCond 10 false) with xt32 := true }, pwr := { s.pwr with xt32 := s.fed } }

/-- TAMPER_SETTINGS_WRITE (13 R503, R504): `src` counts sources from 1. -/
def execTamperSettingsWrite (src : Fin 5) (filter : Bool) (v : Word) (s : State) : Out :=
  .next (s.wr .pf0 (Reg.levTampLimits + 8 * src.val + (if filter then 4 else 0)) (fun s => s.writeSetting (src.val + 1) filter v.toNat))

/-- UNL_START (13 R505). -/
def execUnlStart (v : Word) (s : State) : Out := .next (s.wr .pf0 Reg.levUnlCtrl (fun s => s.unlCommand 1 v))

/-- UNL_RESPOND (13 R505). -/
def execUnlRespond (v : Word) (s : State) : Out := .next (s.wr .pf0 Reg.levUnlCtrl (fun s => s.unlCommand 2 v))

/-- UNL_CANCEL (13 R513). -/
def execUnlCancel (v : Word) (s : State) : Out := .next (s.wr .pf0 Reg.levUnlCtrl (fun s => s.unlCommand 3 v))

/-- UNLOCK_CHECK_DONE (13 R508–R511). -/
def execUnlockCheckDone (s : State) : Out :=
  match s.lev.checking with
  | none => .next s
  | some r => .next (s.unlDone r)

/-- CHALLENGE_EXPIRY (13 R505): 60 s after its START a challenge is no longer good for a RESPOND. -/
def execChallengeExpiry (s : State) : Out :=
  if s.lev.checking.isSome then .next s else .next { s with lev := { s.lev with chal := none } }

/-- CONFIG_WINDOW_CLOSE (13 R511). -/
def execConfigWindowClose (s : State) : Out := .next { s with lev := { s.lev with configOpen := false } }

/-- JTAG_RESET (12 R484): Test-Logic-Reset loads IDCODE. -/
def execJtagReset (s : State) : Out := .next { s with dbg := s.dbg.load 0x01 }

/-- JTAG_BYPASS (12 R484): 0xFF, or any other code that is no instruction of the port, which it treats as BYPASS. IDCODE and
OPEN have rows of their own. -/
def execJtagBypass (s : State) (code : BitVec 8 := 0xFF) : Out :=
  if code = 0x01 ∨ code = 0xA5 then .next s else .next { s with dbg := s.dbg.load code }

/-- JTAG_IDCODE (12 R484). -/
def execJtagIdcode (s : State) : Out := .next { s with dbg := s.dbg.load 0x01 }

/-- JTAG_OPEN (12 R485): DBG_TRST_N low holds the port in reset. -/
def execJtagOpen (trst : Bool) (s : State) : Out := if trst && s.fed then .next s.debugOpen else .next s

/-- DEBUG_GATE_RELEASE (12 R485). -/
def execDebugGateRelease (s : State) : Out :=
  if s.dbg.gate then .next (({ s with dbg := { s.dbg with gate := false, open_ := true } }).levLog 7 0 0) else .next s

end Sys2Proof.Machine
end

