-- ==== Sys2Proof/Machine/HbmUnit.lean ====
section
/-! DEFINITION. The HBM controller's commands: scrubbing, self-refresh, temperature and failure (15). -/

namespace Sys2Proof.Machine
open Sys2Proof.Bits

namespace State

/-- The pseudo-channel of an address: 256-byte lines are dealt in turn (15 R538). -/
def hbmChannel (addr : Nat) : Nat := addr / 256 % 16

/-- The far channels with bytes in a line: one in the records, sixteen in the tags (15 R541). -/
def farIn (addr : Nat) : List Nat :=
  if Hbm.regionOf addr = 1 then [(addr - 0x40000000) / 512]
  else (List.range 16).map (fun k => (addr - 0x240000000) / 16 + k)

/-- The sample records in a line of the ring's extension are discarded (15 R545, 18 R612, R613). -/
def discardRing (s : State) (addr : Nat) : State :=
  let line := (addr - 0x284000000) / 256
  let size := 2 ^ s.regField Reg.pmuRingCtrl 24 5
  let keep := s.pmu.ext.filter (fun e => decide (e.1 % size / 8 ≠ line))
  let n := s.pmu.ext.length - keep.length
  if n = 0 then s
  else ((({ s with pmu := { s.pmu with ext := keep } }).add (Reg.pmuCtr + 0x18) n).cause Reg.pmuEvent 3 243 1).ringThreshold

/-- An uncorrectable line, as its region answers a scrub finding (15 R545). -/
def scrubBad (s : State) (addr : Nat) : State :=
  let t := s.hbmBad addr true
  let r := Hbm.regionOf addr
  if r = 1 ∨ r = 2 then (farIn addr).foldl (fun t i => t.recordFault true i) t
  else if r = 7 then t.reorderBad (addr / 256)
  else if r = 8 then t.discardRing addr
  else t

/-- The scrubber reads one line; a pass ends with the last line of region 8 (15 R544). -/
def scrub (s : State) (line : Nat) (err : ScrubErr) (collide : Bool) : State :=
  let addr := 256 * line
  let t := s.pmuCount 7 (hbmChannel addr) 0 1
  let t := match err with
    | .none => t
    | .single => t.hbmFixed addr true collide
    | .double => t.scrubBad addr
  let last := decide (addr + 256 = 0x2A4000000)
  let t := { t with hbm := { t.hbm with scrubPos := if last then 0 else line + 1 } }
  if last then t.bump (hbmCtr 0x18) else t

/-- Whether 1 ms has passed since a cycle. -/
def msPast (s : State) (c : Option Nat) : Bool :=
  match c with
  | none => true
  | some k => decide (k + 1250000 ≤ s.now)

/-- Whether the conditions of 01 R51 hold; `cached` says that the steward's working set is held in its on-die
caches. -/
def maySleep (s : State) (cached : Bool) : Bool :=
  cached && decide (s.hbm.st = .active) && s.hbm.reqs.isEmpty && s.msPast s.hbm.usedAt && s.msPast s.hbm.insertAt &&
    s.frames.all (fun e => !s.farTraffic e.2) &&
    !(decide (s.regField Reg.pmuRingCtrl 31 1 = 1 ∧ s.regField Reg.pmuRingCtrl 29 1 = 1)) &&
    s.lkp.input.isEmpty && s.lkp.cmd.isNone && !s.lkp.anyLearned

end State

/-- HBM_SCRUB_LINE (15 R543–R545): line `line` of 256 bytes; the scrubber pauses while the stack sleeps, and
region 9 is never accessed (R541). -/
def execHbmScrubLine (line : Nat) (err : ScrubErr) (collide : Bool) (s : State) : Out :=
  if 0x2A40000 ≤ line then .fault (.hbmReserved (256 * line))
  else if s.hbm.st = .active then .next (s.scrub line err collide)
  else .next s

/-- HBM_SELF_REFRESH_ENTRY (01 R51, 15 R551). -/
def execHbmSelfRefreshEntry (s : State) (cached : Bool := true) : Out :=
  if s.maySleep cached then
    let t := { s with hbm := { s.hbm with st := .selfRefresh, entered := true } }
    .next ((t.bump (State.hbmCtr 0x28)).hbmCause 3 0)
  else .next s

/-- HBM_WAKE_DONE (15 R551). -/
def execHbmWakeDone (s : State) : Out :=
  if s.hbm.st = .waking then .next (({ s with hbm := { s.hbm with st := .active, entered := false } }).hbmCause 3 0)
  else .next s

/-- STACK_HOT (15 R550). -/
def execStackHot (temp : Nat) (s : State) : Out :=
  if 85 < temp ∧ s.hbm.hot = false then
    .next (({ s with hbm := { s.hbm with hot := true, temp := min 255 temp } }).hbmCause 4 1)
  else .next s

/-- STACK_HOT_END (15 R550). -/
def execStackHotEnd (temp : Nat) (s : State) : Out :=
  if temp ≤ 85 ∧ s.hbm.hot then .next { s with hbm := { s.hbm with hot := false, temp := temp } } else .next s

/-- PC_FAILED (15 R552). -/
def execPcFailed (p : Fin 16) (s : State) : Out :=
  if s.hbm.pcOk.testBit p.val ∧ (s.hbm.st = .active ∨ s.hbm.st = .selfRefresh ∨ s.hbm.st = .waking) then
    .next (({ s with hbm := { s.hbm with pcOk := setBit s.hbm.pcOk p.val false, st := .failed } }).hbmCause 5 4)
  else .next s

/-- HBM_CLR_COUNTS (15 R554). -/
def execHbmClrCounts (s : State) : Out :=
  .next (s.wr .pf0 Reg.hbmControl (fun s => s.clearCounts Reg.hbmControl))

end Sys2Proof.Machine
end

