-- ==== Sys2Proof/Machine/Events.lean ====
section
/-! DEFINITION. The event controller's commands, escalation, and the warden pair (16 R556–R572,
R583, R654, R655). -/

namespace Sys2Proof.Machine
open Sys2Proof.Bits

namespace State

/-! ### Acknowledgement and the history queue -/

/-- An acknowledgement ends every C2 and C3 raise of a source; that of source 204 is ignored while its LOCK
lasts (16 R557). -/
def ackSource (s : State) (src : Nat) : State :=
  if src = 204 ∧ s.lev.locked then s
  else { s with evt := { s.evt with standing := Tab.del s.evt.standing src } }

/-- A history entry's 16 bytes (16 R565). -/
def entryBytes (e : HistEntry) : Bytes :=
  leBytes 4 e.seq ++ [BitVec.ofNat 8 e.source, BitVec.ofNat 8 e.cause,
    BitVec.ofNat 8 (pack [(e.cls, 0, 3), (b2n e.escalated, 3, 1), (b2n e.held, 4, 1), (b2n e.overflow, 5, 1)]),
    BitVec.ofNat 8 e.repeats] ++ leBytes 8 e.time

/-- The oldest entry moves into the data registers (16 R566). -/
def histPop (s : State) : State :=
  match s.evt.hist with
  | [] => s.setWords Reg.evtHistData (List.replicate 4 0)
  | e :: r => ({ s with evt := { s.evt with hist := r } }).setWords Reg.evtHistData (Blob.toWords 4 (entryBytes e))

/-- A message recorded in the pending bit array is sent once its masks are clear (16 R560). -/
def msixSend (s : State) (n : Nat) : State :=
  if s.msixOn && !s.msixMasked n && s.evt.pba.getLsbD n then
    { s with evt := { s.evt with pba := s.evt.pba &&& ~~~(1#256 <<< n), sent := n :: s.evt.sent } }
  else s

/-! ### Escalation (16 R561) -/

/-- The feed is cut off and treated as absent (16 R561). -/
def cutFeed (s : State) (f : FeedId) : State :=
  let t : State := match execFeedAbsent f s with
    | .next t => t
    | _ => s
  t.setFeed f { t.feed f with cut := true }

/-- The steward restarts on its firmware (03 R128 step 8; 16 R561). -/
def restartSteward (s : State) : State := { s with stw := { s.stw with restarting := true } }

/-- Pair protection ends: the module is SOLO and carries traffic (16 R573). -/
def goSolo (s : State) : State :=
  let p := s.pp
  ({ s with pp := { p with burgee := false, outputs := true, yielding := false, bySwitch := false, byLock := false,
                           guard := false, lost := false } }).roleChange .solo 0

/-- What an escalation removes, by the source and the cause that made it stand. -/
def escalated (s : State) (src cause unit : Nat) : State :=
  if 32 ≤ src ∧ src < 64 ∧ cause = 5 then s.removeLane src false
  else if (src = 234 ∨ src = 235) ∧ unit = 1 then s.removeLane (src - 170) false
  else if 80 ≤ src ∧ src < 96 ∧ (cause = 3 ∨ cause = 6) then (s.removePort true unit false).settle
  else if 80 ≤ src ∧ src < 96 ∧ cause = 9 then
    let was := s.circEnabled unit
    (s.setField (Reg.circuit unit) 31 1 0).circuitSwitch unit was
  else if src = 195 then { s with key := { s.key with sourceRemoved := true } }
  else if src = 217 ∨ src = 249 then s.restartSteward
  else if src = 227 then s.cutFeed (if unit = 0 then .a else .b)
  else if src = 237 then
    (((s.removeLane 64 false).removeLane 65 false).setField Reg.wrdPairCfg 31 1 0).goSolo
  else s

/-- A source standing at C2 is raised again at C3 with ESCALATED. -/
def escalate (s : State) (src : Nat) (st : Standing) : State :=
  ((s.bump (Reg.wrdCtr + 0x10)).deliver src st.cause 3 s.nanos true false st.unit).escalated src st.cause st.unit

/-! ### The warden pair (16 R568–R572, R654, R655) -/

/-- The other warden. -/
def otherWarden : Warden → Warden
  | .a => .b
  | .b => .a

/-- A warden's state. -/
def warden (s : State) : Warden → WardenState
  | .a => s.wrd.stateA
  | .b => s.wrd.stateB

/-- A warden's state replaced. -/
def setWarden (s : State) (w : Warden) (v : WardenState) : State :=
  match w with
  | .a => { s with wrd := { s.wrd with stateA := v } }
  | .b => { s with wrd := { s.wrd with stateB := v } }

/-- A holder gives the burgee up, and the guard begins (16 R569). -/
def dropBurgee (s : State) : State :=
  match s.wrd.holder with
  | none => s
  | some w => { s with wrd := { s.wrd with holder := none, lastHolder := some w, guard := true, noTake := none } }

/-- A warden is removed: WARDEN_REMOVED; a holder loses the burgee; WARDENS_LOST where neither is left in
service (16 R569, R572, R655). -/
def loseWarden (s : State) (w : Warden) : State :=
  if s.warden w = .removed then s
  else
    let t := if s.wrd.holder = some w then s.dropBurgee else s
    let t := t.wardenOut w
    if t.wrd.stateA ≠ .inService ∧ t.wrd.stateB ≠ .inService then t.cause Reg.wrdEvent 4 233 4 else t

/-- The warden that does not hold the burgee; in a guard, the one that did not hold it last. -/
def nonHolder (s : State) : Option Warden := (s.wrd.holder.or s.wrd.lastHolder).map otherWarden

/-- The end of a guard: the other warden takes the burgee if it is in service, and applies what waited for a
holder (16 R569, R571). -/
def guardEnd (s : State) : State :=
  let t := { s with wrd := { s.wrd with guard := false } }
  match s.nonHolder with
  | none => t
  | some w =>
    if s.warden w = .inService then
      let d := { t.wrd with holder := some w, leaseFrom := s.now, lastReport := s.now }
      ((({ t with wrd := d }).bump (Reg.wrdCtr + 0x18)).cause Reg.wrdEvent 0 232 1).settle
    else { t with wrd := { t.wrd with noTake := some s.now } }

/-- A warden's self-check (16 R569, R570). -/
def wardenCheck (s : State) (w : Warden) (ok : Bool) : State :=
  if s.warden w = .removed then s
  else if ok = false then s.loseWarden w
  else
    let t := if s.wrd.holder = some w then s else { s with wrd := { s.wrd with lastReport := s.now } }
    if s.warden w = .returning then (t.setWarden w .inService).cause Reg.wrdEvent 2 232 0 else t

end State

/-- MSIX_SEND (16 R560). -/
def execMsixSend (n : Fin 256) (s : State) : Out := .next (s.msixSend n.val)

/-- EVT_ACK (16 R557). -/
def execEvtAck (src : Fin 256) (s : State) : Out := .next (s.wr .pf0 Reg.evtAck (fun s => s.ackSource src.val))

/-- ESCALATION (16 R561, R562): no timer escalates once a C4 fault is latched. -/
def execEscalation (src : Fin 256) (s : State) : Out :=
  match Tab.find s.evt.standing src.val with
  | none => .next s
  | some st => if st.cls = 2 ∧ st.timer.isSome ∧ s.evt.c4.isNone then .next (s.escalate src.val st) else .next s

/-- EVT_HIST_POP (16 R566). -/
def execEvtHistPop (s : State) : Out := .next (s.wr .pf0 Reg.evtHistPop (fun s => s.histPop))

/-- EVT_CLR_COUNTS (16 R583). -/
def execEvtClrCounts (s : State) : Out :=
  .next (s.wr .pf0 Reg.evtControl (fun s => s.clearCounts Reg.evtControl))

/-- BURGEE_RENEW (16 R569). -/
def execBurgeeRenew (s : State) : Out :=
  if s.wrd.holder.isSome then .next { s with wrd := { s.wrd with leaseFrom := s.now } } else .next s

/-- WARDEN_LEASE_LAPSE (16 R569). -/
def execWardenLeaseLapse (s : State) : Out :=
  match s.wrd.holder with
  | none => .next s
  | some w => .next (s.loseWarden w)

/-- BURGEE_GUARD_END (16 R569). -/
def execBurgeeGuardEnd (s : State) : Out := if s.wrd.guard then .next s.guardEnd else .next s

/-- WARDEN_SELF_CHECK (16 R569, R570). -/
def execWardenSelfCheck (w : Warden) (ok : Bool) (s : State) : Out :=
  if s.clockOn then .next (s.wardenCheck w ok) else .next s

/-- WARDEN_REPORT_MISSING (16 R570). -/
def execWardenReportMissing (s : State) : Out :=
  match s.nonHolder with
  | none => .next s
  | some w => if s.warden w = .inService then .next (s.loseWarden w) else .next s

/-- The burgee handed over; ignored unless the other warden is in service. -/
def State.handover (s : State) : State :=
  match s.wrd.holder with
  | none => s
  | some w => if s.warden (State.otherWarden w) = .inService then s.dropBurgee else s

/-- HANDOVER (16 R570). -/
def execHandover (s : State) : Out := .next (s.wr .pf0 Reg.wrdControl State.handover)

/-- WARDENS_LOST_TIMEOUT (16 R572). -/
def execWardensLostTimeout (s : State) : Out :=
  if s.wrd.noTake.isSome ∧ s.wrd.holder.isNone then
    .next (({ s with wrd := { s.wrd with noTake := none } }).cause Reg.wrdEvent 4 233 4)
  else .next s

end Sys2Proof.Machine
end

