-- ==== Sys2Proof/Machine/PairLink.lean ====
section
/-! DEFINITION. Pair protection: the CONTROL frames of the PAIR lanes, the choice of a role, the module
burgee, yields and switchovers; and fleet device numbers (16 R573–R582). -/

namespace Sys2Proof.Machine
open Sys2Proof.Bits

/-- A CONTROL payload as its sender means it (16 R576). -/
structure Control where
  device : Nat
  kind : Nat
  role : Nat
  flags : Nat
  imageTag : Nat
  configTag : Nat
  rate : Nat
deriving DecidableEq, Repr

namespace State

/-- A payload read, if it is one of 48 bytes and FORMAT 1. -/
def controlOf (b : Bytes) : Option Control :=
  if b.length = 48 ∧ beAt b 0 2 = 1 then
    some { device := beAt b 2 2, kind := beAt b 4 1, role := beAt b 5 1, flags := beAt b 6 2, imageTag := beAt b 12 8
           configTag := beAt b 20 8, rate := beAt b 28 2 }
  else none

/-- WRD_PAIR_CFG.ENABLE. -/
def pairOn (s : State) : Bool := decide (s.regField Reg.wrdPairCfg 31 1 = 1)

/-- This module's device number. -/
def myDevice (s : State) : Nat := s.devNumber.getD 0

/-- RESULT of WRD_PAIR_CMD. -/
def pairResult (s : State) (r : Nat) : State := s.setField Reg.wrdPairCmd 24 8 r

/-- The module becomes ACTIVE, takes the burgee, and enables its outputs or waits for STOPPED (16 R577, R579,
R581). -/
def becomeActive (s : State) (outputs : Bool) (cls : Nat) : State :=
  ({ s with pp := { s.pp with burgee := true, outputs := outputs, guard := false, yielding := false, bySwitch := false } }).roleChange .active cls

/-- The module becomes STANDBY: it suppresses its outputs (16 R575). -/
def becomeStandby (s : State) (cls : Nat) : State :=
  ({ s with pp := { s.pp with burgee := false, outputs := false, guard := false, yielding := false, bySwitch := false } }).roleChange .standby cls

/-- A planned yield begins: YIELD is sent and the outputs stay (16 R580). -/
def startYield (s : State) (bySwitch : Bool) : State :=
  let t := s.controlSend 2 false
  { t with pp := { t.pp with yielding := true, bySwitch := bySwitch } }

/-- The choice of a role by what the partner says of its own (16 R579). -/
def chooseRole (s : State) (c : Control) : State :=
  if s.pp.role ≠ .starting then s
  else if c.role = 1 then s.becomeStandby 0
  else if (c.role = 4 ∨ c.role = 2) ∧ s.myDevice < c.device then s.becomeActive true 0
  else s

/-- A CONTROL frame heard: the partner's last ROLE, and a starting module's choice. -/
def heard (s : State) (c : Control) : State :=
  ({ s with pp := { s.pp with fresh := true, lost := false, peerRole := c.role } }).chooseRole c

/-- A CONTROL payload taken, with the device check of HEALTH and CLAIM (16 R576, R579): one of another LENGTH is counted
in DROP_TYPE. -/
def controlTake (s : State) (lane kind : Nat) (b : Bytes) (f : State → Control → State) : State :=
  if b.length ≠ 48 then s.bump (Reg.framer (32 + lane) + 0x70)
  else
    match controlOf b with
    | none => s
    | some c =>
      if c.kind ≠ kind then s
      else if (kind = 0 ∨ kind = 3) ∧ c.device ≠ s.regField Reg.wrdPairCfg 0 16 then s.bump (Reg.wrdCtr + 0x40)
      else f (if s.pairOn then s.heard c else { s with pp := { s.pp with fresh := true, peerRole := c.role } }) c

/-- Whether the next CONTROL frame passed on is for a command of another kind. -/
def otherKind (kind : Nat) (b : Bytes) : Bool :=
  match controlOf b with
  | some c => decide (c.kind ≠ kind ∧ c.kind ≤ 4)
  | none => false

/-- A CONTROL frame received on a PAIR lane, whose framer passes frames on only in SYNC (06 R209, R228): the payload given,
or that of the next CONTROL frame passed on. -/
def receive (s : State) (lane kind : Nat) (b : Bytes) (f : State → Control → State) : State :=
  if b.isEmpty then
    match s.takePassed (32 + lane) [4] with
    | none => s
    | some (p, t) =>
      let pay := slice p.2.2 6 (Ndoath.len p.2.2)
      if otherKind kind pay then s else t.controlTake lane kind pay f
  else if (s.framer (32 + lane)).sync ≠ .sync then s
  else s.controlTake lane kind b f

/-- A HEALTH frame: PARTNER_UNFIT, and the planned yields it may call for (16 R578–R580). -/
def health (s : State) (c : Control) : State :=
  let h : PartnerHealth := { device := c.device, role := c.role, flags := c.flags, imageTag := c.imageTag
                             configTag := c.configTag, rate := c.rate }
  let t := ({ s with pp := { s.pp with peer := some h } }).bump (Reg.wrdCtr + 0x38)
  if t.pairOn = false then t
  else
    let unfit := decide (c.imageTag ≠ beNat (t.imageDigest.take 8)) || !c.flags.testBit 1
    let t := if unfit then t.cause Reg.wrdEvent 9 237 1 else t
    let both := decide (c.role = 1 ∧ c.device < t.myDevice)
    if t.pp.role = .active ∧ t.pp.yielding = false ∧ (both ∨ t.rate < c.rate) then t.startYield false else t

/-- A YIELD frame (16 R579, R581). -/
def yieldIn (s : State) (c : Control) : State :=
  let fatal := c.flags.testBit 5
  if s.pp.role = .active then
    let t := s.controlSend 3 false
    { t with pp := { t.pp with outputs := t.pp.outputs || fatal } }
  else if s.eligible then
    let t := s.becomeActive fatal 1
    t.controlSend 3 false
  else s

/-- A CLAIM frame (16 R580). -/
def claimIn (s : State) : State :=
  if s.pp.role = .active ∧ s.pp.yielding then
    let t := if s.pp.bySwitch then s.pairResult 0 else s
    let t := { t with pp := { t.pp with outputs := false, burgee := false } }
    (t.controlSend 4 false).becomeStandby 1
  else s

/-- A write of WRD_PAIR_CFG (16 R573, R574). -/
def pairEnable (s : State) (v : Word) : State :=
  let was := s.pairOn
  let t := s.storeReg Reg.wrdPairCfg v
  if was = false ∧ t.pairOn then
    ({ t with pp := { t.pp with outputs := false, fresh := false, lost := false, peer := none, peerRole := 0 } }).roleChange .starting 0
  else if was ∧ t.pairOn = false then t.goSolo
  else t

/-- SWITCH (16 R580, R583). -/
def switch (s : State) : State :=
  if s.pp.role ≠ .active then s.pairResult 0x63
  else if s.pp.yielding then s.pairResult 0x01
  else (s.startYield true).pairResult 0x01

/-- SET of WRD_FLEET (16 R582). -/
def fleet (s : State) (v : Word) : State :=
  let t := s.storeReg Reg.wrdFleet v
  let d := v.toNat % 65536
  if v.getLsbD 16 = false then t
  else if t.lev.configOpen = false then t.setField Reg.wrdFleet 24 8 0x60
  else if d = 0xFFFF then t.setField Reg.wrdFleet 24 8 0x52
  else
    let t := (({ t with lev := { t.lev with device := d } }).levLog 11 0 d).setField Reg.wrdFleet 24 8 0
    t.cause Reg.wrdEvent 10 238 0

end State

/-- PAIR_ENABLE_WRITE (16 R573, R574). -/
def execPairEnableWrite (r : Req) (v : Word) (s : State) : Out :=
  .next (s.wr r Reg.wrdPairCfg (fun s => s.pairEnable v))

/-- HEALTH_SEND (16 R576): a FAILED module's HEALTH has FATAL set (R574). -/
def execHealthSend (s : State) : Out := if s.pp.role = .solo then .next s else .next (s.controlSend 0 false)

/-- RENEW_SEND (16 R577). -/
def execRenewSend (s : State) : Out :=
  if s.pp.role = .active ∧ s.pp.burgee then .next (s.controlSend 1 false) else .next s

/-- HEALTH_RX (16 R578–R580). -/
def execHealthRx (lane : Fin 2) (payload : Bytes) (s : State) : Out :=
  .next (s.receive lane.val 0 payload State.health)

/-- RENEW_RX (16 R577): the lease runs from here, and a guard ends. -/
def execRenewRx (lane : Fin 2) (payload : Bytes) (s : State) : Out :=
  .next (s.receive lane.val 1 payload (fun t _ => { t with pp := { t.pp with guard := false } }))

/-- YIELD_RX (16 R579, R581). -/
def execYieldRx (lane : Fin 2) (payload : Bytes) (s : State) : Out :=
  .next (s.receive lane.val 2 payload State.yieldIn)

/-- CLAIM_RX (16 R580). -/
def execClaimRx (lane : Fin 2) (payload : Bytes) (s : State) : Out :=
  .next (s.receive lane.val 3 payload (fun t _ => t.claimIn))

/-- STOPPED_RX (16 R581). -/
def execStoppedRx (lane : Fin 2) (payload : Bytes) (s : State) : Out :=
  .next (s.receive lane.val 4 payload (fun t _ =>
    if t.pp.role = .active then { t with pp := { t.pp with outputs := true } } else t))

/-- MODULE_LEASE_LAPSE (16 R577). -/
def execModuleLeaseLapse (s : State) : Out :=
  if s.pp.role = .standby then .next { s with pp := { s.pp with guard := true } } else .next s

/-- MODULE_GUARD_END (16 R577). -/
def execModuleGuardEnd (s : State) : Out :=
  if s.pp.guard ∧ s.pp.role = .standby then
    let t := { s with pp := { s.pp with guard := false } }
    if t.eligible then .next (t.becomeActive true 1) else .next t
  else .next s

/-- PARTNER_LOST_TIMEOUT (16 R577): raised once for each silence. -/
def execPartnerLostTimeout (s : State) : Out :=
  let t := { s with pp := { s.pp with fresh := false } }
  if (s.pp.role = .standby ∨ s.pp.role = .active) ∧ s.pp.lost = false then
    .next (({ t with pp := { t.pp with lost := true } }).cause Reg.wrdEvent 8 237 2)
  else .next t

/-- STARTING_TIMEOUT (16 R579). -/
def execStartingTimeout (s : State) : Out :=
  if s.pp.role = .starting ∧ s.pp.fresh = false then .next (s.becomeActive true 0) else .next s

/-- CLAIM_TIMEOUT (16 R580): the module stays ACTIVE. -/
def execClaimTimeout (s : State) : Out :=
  if s.pp.yielding then
    let t := if s.pp.bySwitch then s.pairResult 0x62 else s
    .next { t with pp := { t.pp with yielding := false, bySwitch := false } }
  else .next s

/-- YIELD_RESEND (16 R579). -/
def execYieldResend (s : State) : Out :=
  let both := s.pp.peerRole = 1 ∧ (s.pp.peer.map (fun h => h.device)).getD 65536 < s.myDevice
  if s.pp.role = .active ∧ s.pp.yielding = false ∧ both then .next (s.startYield false) else .next s

/-- SWITCH (16 R580). -/
def execPairSwitch (s : State) : Out := .next (s.wr .pf0 Reg.wrdPairCmd (fun s => s.switch))

/-- FLEET_SET (16 R582). -/
def execFleetSet (v : Word) (s : State) : Out := .next (s.wr .pf0 Reg.wrdFleet (fun s => s.fleet v))

end Sys2Proof.Machine
end

