-- ==== Sys2Proof/Machine/LiveChange.lean ====
section
/-! DEFINITION. Live changes and clock crossings: shadows released and put in force, timeouts and
resyncs (17). -/

namespace Sys2Proof.Machine
open Sys2Proof.Bits

namespace State

/-- A counter of the performance monitor whose selection changes is cleared (18 R604). -/
def selectCounter (s : State) (a old : Nat) : State :=
  if Reg.pmuCntCfg ≤ a ∧ a < Reg.pmuCntCfg + 2048 ∧ old ≠ s.regN a then
    { s with pmu := { s.pmu with counters := Tab.del s.pmu.counters ((a - Reg.pmuCntCfg) / 4) } }
  else s

/-- A unit at its safe point: its released shadows come into force together (17 R592, R595). A change of a
profile changes the configuration digest (12 R481). -/
def reachSafePoint (s : State) (u : ShUnit) : State :=
  let mine := fun (e : ShEntry) => e.released && decide (shUnit e.addr = some u)
  let go := s.live.waiting.filter mine
  let t := go.foldl (fun t e =>
    let old := t.inForce e.addr
    ({ t with inforce := Tab.del t.inforce e.addr }).selectCounter e.addr old) s
  let live : Live := { waiting := s.live.waiting.filter (fun e => !mine e), pendingUnits := s.live.pendingUnits.filter (fun v => decide (v ≠ u)) }
  let dig := t.key.digestPending || go.any (fun e => decide (Reg.chnProfile ≤ e.addr ∧ e.addr < Reg.chnPolicy))
  { t with live := live, key := { t.key with digestPending := dig } }

/-- STOPPED framers are at their safe point at once (17 R597). -/
def stoppedFramers (s : State) : State :=
  let l := (List.range 34).filter (fun n => decide ((s.framer n).sync = .stopped) &&
    s.live.waiting.any (fun e => e.released && decide (shUnit e.addr = some (.trunk n))))
  l.foldl (fun t n => t.reachSafePoint (.trunk n)) s

/-- Every waiting shadow is released (17 R592). -/
def release (s : State) : State :=
  let w := s.live.waiting.map (fun e => { e with released := true })
  ({ s with live := { waiting := w, pendingUnits := allUnits.filter s.unitServes } }).stoppedFramers

/-- A write of IDN_APPLY (17 R592, R601). -/
def applyWrite (s : State) (hold apply : Bool) : State :=
  let was := s.hold
  let t := s.setField Reg.idnApply 0 1 (b2n hold)
  if apply ∨ (was ∧ hold = false) then t.release else t

/-- A request abandoned (17 R587): of a request/acknowledge crossing only (R585). -/
def crossingLost (s : State) (x inst : Nat) (write : Bool) : State :=
  let t := s.accErr
  let t := if write then t else t.answer 0xFFFFFFFF
  (t.capture Reg.idnXingErr [(b2n write, 29, 1), (inst, 8, 8), (x, 0, 4)]).cause Reg.idnEvent 3 251 1

/-- The counter of frames a resync drops (17 R599). -/
def ctrResync (f : Frame) : Nat := if f.dec then Reg.idnDropResyncDec else Reg.idnDropResyncEnc

/-- A resync of a pointer crossing (17 R598, R599): the frames with bytes in it are dropped, and an encrypt
frame in output through a lane that leaves it. -/
def resync (s : State) (x inst : Nat) (held : List Nat) : State :=
  let t := held.foldl (fun t id =>
    match t.frame id with
    | some f => t.dropFrame id (ctrResync f)
    | none => t) s
  let t := if x = 9 ∧ 32 ≤ inst ∧ inst < 64 then
      (match t.pairOf (inst - 32) with
       | some p => t.endOutput p Reg.idnDropResyncEnc
       | none => t)
    else t
  t.setReg Reg.idnResync (word [(inst, 24, 8), (x, 20, 4), (t.regField Reg.idnResync 0 20 + 1, 0, 20)])

end State

/-- APPLY (17 R592). -/
def execIdnApply (s : State) : Out := .next (s.wr .pf0 Reg.idnApply (fun s => s.applyWrite s.hold true))

/-- HOLD_WRITE (17 R592). -/
def execHoldWrite (hold : Bool) (s : State) : Out := .next (s.wr .pf0 Reg.idnApply (fun s => s.applyWrite hold false))

/-- SAFE_POINT_APPLY (17 R592, R597). -/
def execSafePointApply (u : ShUnit) (s : State) : Out := .next (s.reachSafePoint u)

/-- CROSSING_TIMEOUT (17 R585, R587): a requester gets the answer on its bus. -/
def execCrossingTimeout (x : Fin 14) (inst : Fin 256) (write : Bool) (_ : Req) (s : State) : Out :=
  if 1 ≤ x.val ∧ x.val ≤ 7 then .next (s.crossingLost x.val inst.val write) else .next s

/-- RESYNC_DONE (17 R598, R599). -/
def execResyncDone (x : Fin 14) (inst : Fin 256) (held : List Nat) (s : State) : Out :=
  if 8 ≤ x.val then .next (s.resync x.val inst.val held) else .next s

end Sys2Proof.Machine
end

