-- ==== Sys2Proof/Machine/Mailbox.lean ====
section
/-! DEFINITION. The steward mailboxes: the frame of a request and a response, which requests are answered
without the steward, the commands on flash, prefixes, attestation and the unlock exchange, and the
steward's watchdog (19 R628–R633, R636; 03 R91; 09 R354, R355; 12 R480; 13 R505–R511). -/

namespace Sys2Proof.Machine
open Sys2Proof.Bits

namespace State

/-! ### Commands run (19 R630) -/

/-- The command `c` run for the request of a mailbox, where that request asks for it: `f` takes the payload
and gives the result, the response payload and the state. -/
def mbxRun (s : State) (m : MbxId) (c : Nat) (f : Bytes → State → Nat × Bytes × State) : State :=
  match s.request m with
  | none => s
  | some req =>
    if Mail.code req = c then
      match s.mbxRefusal req with
      | some r => s.mbxAnswer m req r []
      | none =>
        let (r, out, t) := f (Mail.payload req) s
        t.mbxAnswer m req r out
    else s

/-- A response written to its mailbox, or discarded where PERST_N came in between. -/
def mbxDeliver (s : State) (m : MbxId) (a : Bytes) : State :=
  let b := s.mbx m
  let s := { s with upd := { s.upd with waiting := if s.upd.waiting = some m then none else s.upd.waiting } }
  if b.drop then s.setMbx m { b with busy := false, answer := none, drop := false }
  else
    let t := s.setMbx m { b with busy := false, answer := none, rsp := a, rspReady := true }
    match m with
    | .pcie => (t.setField Reg.stwStatus 24 8 (a.getD 6 0).toNat).cause Reg.idnEvent 0 248 0
    | .i2c => t

/-- A mailbox's response written: the command's, or that of a request turned away. An IMG_APPLY that runs is
turned away by a LOCK or a C4 fault alone (19 R631). -/
def mbxRespond (s : State) (m : MbxId) : State :=
  match (s.mbx m).answer with
  | some a => s.mbxDeliver m a
  | none =>
    match s.request m with
    | none => s
    | some req =>
      match s.mbxRefusal req with
      | none => s
      | some r => if s.upd.waiting = some m ∧ r = 0x01 then s else s.mbxDeliver m (Mail.reply req r [])

/-- A message passed to the steward. -/
def mbxTake (s : State) (m : MbxId) (msg : Bytes) : State :=
  s.setMbx m { req := sliceZ msg 0 4096, busy := true, answer := none, drop := false, rsp := [], rspReady := false }

/-- SEND: discarded with ACC_ERR while the mailbox is busy. -/
def doorbell (s : State) : State :=
  if s.mbxPcie.busy then s.accErr else s.mbxTake .pcie (s.regBytes Reg.stwReq 1024)

/-! ### IDENTITY and STATUS (19 R632) -/

/-- A register's value as mailbox bytes. -/
def mbxReg (s : State) (a : Nat) : Bytes := leBytes 4 (s.regValue a).toNat

/-- The 128 bytes of IDENTITY. -/
def identity (s : State) : Bytes :=
  [0x00, 0xA0, 0x24, 0x28].flatMap s.mbxReg ++ dieId ++ s.imageDigest ++ s.key.digest

/-- The 16 bytes of STATUS. -/
def statusBytes (s : State) : Bytes := [0x04, 0x20, 0x10, 0x30].flatMap s.mbxReg

/-! ### Flash (19 R632, R637; 03 R95) -/

/-- Bytes left by a program operation that failed: free. -/
def flashFree (n i : Nat) : Bytes := (List.range n).map (fun k => Config.flashByte i k)

/-- The refusal of a flash command: a slot or range outside the flash, for which the spec states no result, or
the running slot for a change. -/
def flashRefusal (s : State) (p : Bytes) (len : Nat) (change : Bool) : Option Nat :=
  let slot := leAt p 0 1
  if 1 < slot ∨ 0x4000000 < leAt p 4 4 + len then some Config.flashRefused.toNat
  else if change ∧ slot = s.boot.slot then some 0x4C
  else none

/-- The flash address a payload names. -/
def flashAt (p : Bytes) : Nat := Flash.slotBase (leAt p 0 1) + leAt p 4 4

/-- FLASH_ERROR (19 R633). -/
def flashError (s : State) : Nat × Bytes × State := (0x80, [], s.cause Reg.idnEvent 5 253 1)

/-- FLASH_READ. -/
def flashRead (p : Bytes) (s : State) : Nat × Bytes × State :=
  let n := leAt p 8 4
  if n = 0 ∨ 4064 < n then (Config.flashRefused.toNat, [], s)
  else
    match s.flashRefusal p n false with
    | some r => (r, [], s)
    | none => (0, Flash.read s.flash (flashAt p) n, s)

/-- FLASH_WRITE: the bytes are programmed and read back; `ok` says that the part did it. -/
def flashWrite (ok : Bool) (p : Bytes) (s : State) : Nat × Bytes × State :=
  let d := p.drop 8
  match s.flashRefusal p d.length true with
  | some r => (r, [], s)
  | none =>
    if ok then
      let t := { s with flash := Flash.put s.flash (flashAt p) d }
      if Flash.read t.flash (flashAt p) d.length = d then (0, [], t) else t.flashError
    else
      let (i, t) := s.fresh
      { t with flash := Flash.set s.flash (flashAt p) (flashFree d.length i) }.flashError

/-- FLASH_ERASE. -/
def flashErase (ok : Bool) (p : Bytes) (s : State) : Nat × Bytes × State :=
  if leAt p 4 4 % 65536 ≠ 0 then (Config.flashRefused.toNat, [], s)
  else
    match s.flashRefusal p 65536 true with
    | some r => (r, [], s)
    | none =>
      if ok then (0, [], { s with flash := Flash.erase s.flash (flashAt p) 65536 })
      else
        let (i, t) := s.fresh
        { t with flash := Flash.set s.flash (flashAt p) (flashFree 65536 i) }.flashError

/-! ### Prefixes (19 R632; 09 R354, R355) -/

/-- The checks PFX_ADD and PFX_DELETE share: the table, or the refusal. -/
def pfxTable (s : State) (n : Nat) (p : Prefix) : Except Nat LkTable :=
  match Tab.find s.lkp.tables n with
  | none => .error 0x46
  | some t =>
    if t.kind ≠ 1 then .error 0x4A
    else if t.kbits < p.len ∨ t.lengths.foldl max 0 < p.len ∨ 2 ^ t.kbits ≤ p.value ∨
        p.value % 2 ^ (t.kbits - p.len) ≠ 0 then .error 0x52
    else .ok t

/-- PFX_ADD. -/
def pfxAdd (b : Bytes) (s : State) : Nat × Bytes × State :=
  let n := leAt b 0 1
  let p : Prefix := { len := leAt b 1 1, value := leAt b 8 16, result := BitVec.ofNat 32 (leAt b 4 4) }
  match s.pfxTable n p with
  | .error r => (r, [], s)
  | .ok t =>
    match t.addPrefix p with
    | none => (0x48, [], s)
    | some u =>
      let l := s.lkp.setTable n u
      if Seed.poolsOk l then (0, [], ({ s with lkp := l }).inserted) else (0x48, [], s)

/-- PFX_DELETE: the regions left behind need no more entries than before, but a longer probe length may find
its buckets full. -/
def pfxDelete (b : Bytes) (s : State) : Nat × Bytes × State :=
  let n := leAt b 0 1
  let p : Prefix := { len := leAt b 1 1, value := leAt b 4 16, result := 0 }
  match s.pfxTable n p with
  | .error r => (r, [], s)
  | .ok t =>
    if t.prefixes.any (LkTable.samePrefix p) = false then (0x49, [], s)
    else
      match t.delPrefix p with
      | none => (0x48, [], s)
      | some u => (0, [], ({ s with lkp := s.lkp.setTable n u }).inserted)

/-! ### Attestation and the unlock exchange (12 R480; 13 R505) -/

/-- ATTEST with a challenge, the configuration digest being up to date. -/
def mbxAttestOf (chal : Bytes) (s : State) : Nat × Bytes × State :=
  match s.key.ak with
  | none => (0x55, [], s)
  | some c =>
    match s.fetch c false with
    | none => (0x4F, [], s.deviceFault)
    | some ak => (0, s.attestation ak chal, (s.keyBump 0x40).keyCause 6 0)

/-- UNLOCK_START; BUSY while a response is being checked. -/
def mbxUnlock (p : Bytes) (s : State) : Nat × Bytes × State :=
  if s.lev.checking.isSome then (0x01, [], s)
  else
    let (r, t) := s.unlockStart (leAt p 0 1)
    (r, if r = 0 then (t.lev.chal.map (fun c => c.bytes)).getD [] else [], t)

/-- UNLOCK_RESPOND. -/
def mbxUnlockAnswer (p : Bytes) (s : State) : Nat × Bytes × State :=
  if s.lev.checking.isSome then (0x01, [], s)
  else
    let (r, t) := s.unlockCheck p
    (r, [], t)

end State

/-- SEND (19 R630): a write of STW_DOORBELL. -/
def execStwSend (s : State) : Out := .next (s.wr .pf0 Reg.stwDoorbell State.doorbell)

/-- MAILBOX_RESPONSE (19 R630, R631). -/
def execMailboxResponse (m : MbxId) (s : State) : Out := .next (s.mbxRespond m)

/-- IDENTITY (19 R632). -/
def execMbxIdentity (m : MbxId) (s : State) : Out := .next (s.mbxRun m 0x01 (fun _ s => (0, s.identity, s)))

/-- STATUS (19 R632). -/
def execMbxStatus (m : MbxId) (s : State) : Out := .next (s.mbxRun m 0x02 (fun _ s => (0, s.statusBytes, s)))

/-- FLASH_READ (19 R632). -/
def execMbxFlashRead (m : MbxId) (s : State) : Out := .next (s.mbxRun m 0x10 State.flashRead)

/-- FLASH_WRITE (19 R632, R633). -/
def execMbxFlashWrite (m : MbxId) (ok : Bool) (s : State) : Out := .next (s.mbxRun m 0x11 (State.flashWrite ok))

/-- FLASH_ERASE (19 R632, R633). -/
def execMbxFlashErase (m : MbxId) (ok : Bool) (s : State) : Out := .next (s.mbxRun m 0x12 (State.flashErase ok))

/-- PFX_ADD (19 R632; 09 R354). -/
def execMbxPfxAdd (m : MbxId) (s : State) : Out := .next (s.mbxRun m 0x40 State.pfxAdd)

/-- PFX_DELETE (19 R632; 09 R355). -/
def execMbxPfxDelete (m : MbxId) (s : State) : Out := .next (s.mbxRun m 0x41 State.pfxDelete)

/-- ATTEST by mailbox (12 R480): it waits while the configuration digest is being recomputed. -/
def execMbxAttest (m : MbxId) (s : State) : Out :=
  if s.key.digestPending ∧ s.key.ak.isSome then .next s else .next (s.mbxRun m 0x50 State.mbxAttestOf)

/-- UNLOCK_START (13 R505). -/
def execMbxUnlockStart (m : MbxId) (s : State) : Out := .next (s.mbxRun m 0x60 State.mbxUnlock)

/-- UNLOCK_RESPOND (13 R505). -/
def execMbxUnlockRespond (m : MbxId) (s : State) : Out := .next (s.mbxRun m 0x61 State.mbxUnlockAnswer)

/-- STEWARD_WATCHDOG (19 R636): a firmware that runs missed its watchdog or reported a fault. -/
def execStewardWatchdog (s : State) : Out :=
  if s.stewardServes then .next (s.cause Reg.idnEvent 1 249 2) else .next s

/-- STEWARD_RESTART_DONE (19 R631): not that of IMG_APPLY, whose step ends it. -/
def execStewardRestartDone (s : State) : Out :=
  if s.upd.state = .applying ∧ s.upd.step = 8 then .next s
  else .next { s with stw := { s.stw with restarting := false } }

end Sys2Proof.Machine
end

