-- ==== Sys2Proof/Machine/Perf.lean ====
section
/-! DEFINITION. The performance monitor's commands: freeze and clear, selections put in force, the ring of
samples, the observer's window, and a counter's wrap (18 R602–R618; 19 R623). -/

namespace Sys2Proof.Machine
open Sys2Proof.Bits

namespace State

/-- CLR_COUNTS: every counter, every wrap bit and the sampler's counters (18 R605, R617). -/
def pmuClear (s : State) : State :=
  let t := { s with pmu := { s.pmu with counters := [] } }
  (t.clearRegs Reg.pmuWrap (Reg.pmuWrap + 64)).clearCtr Reg.pmuCtr (Reg.pmuCtr + 0x20)

/-- A write of PMU_CONTROL. -/
def pmuControlWrite (s : State) (v : Word) : State :=
  let t := s.storeReg Reg.pmuControl v
  if v.getLsbD 16 then t.pmuClear else t

/-- The capture ring emptied and armed, as its enabling leaves it; an extension in HBM is asked for (18 R613). -/
def ringFresh (s : State) : State :=
  let t := { s with pmu := { s.pmu with ring := [], ext := [], extNext := 0, asks := [], lostMark := false, armed := true } }
  if t.ringStages then t.hbmWake else t

/-- A write of PMU_RING_CTRL: setting ENABLE empties the ring and the extension (18 R614), and an enabled extension keeps the
stack awake (01 R51). -/
def ringEnable (s : State) (v : Word) : State :=
  let was := s.regField Reg.pmuRingCtrl 31 1
  let t := s.storeReg Reg.pmuRingCtrl v
  if was = 0 ∧ t.regField Reg.pmuRingCtrl 31 1 = 1 then t.ringFresh else t

/-- A popped record in the data registers. -/
def ringData (s : State) (r : Bytes) : State := s.setWords Reg.pmuRingData (Blob.toWords 8 r)

/-- The line of the extension that a POP reads was uncorrectable: its records are discarded (15 R545; 18 R613). -/
def ringBad (s : State) : State :=
  match s.pmu.ext with
  | [] => s
  | (k, _) :: _ => (s.hbmBad (s.ringAddr k / 256 * 256) false).discardRing (s.ringAddr k)

/-- A POP of the extension, which reads it through the HBM arbiter, or of the ring on the die (18 R613, R617). -/
def ringPop (s : State) : State :=
  match s.pmu.ext, s.pmu.ring with
  | (k, r) :: l, _ =>
    let t := (({ s with pmu := { s.pmu with ext := l } }).ringData r).ringThreshold
    (t.lineCount (s.ringAddr k) 0).granted 0
  | [], r :: l => (({ s with pmu := { s.pmu with ring := l, asks := s.pmu.asks.take l.length } }).ringData r).ringThreshold
  | [], [] => s.ringData (zeros 32)

/-- OBSERVER_EN. -/
def observerOn (s : State) : Bool := decide (s.regField Reg.pmuControl 31 1 = 1)

/-- The registers PF1 reads: selections, counters and wrap bits (18 R615). -/
def observable (a : Nat) : Bool :=
  decide (Reg.pmuWrap ≤ a ∧ a < Reg.pmuWrap + 64) || decide (Reg.pmuCntCfg ≤ a ∧ a < Reg.pmuCntCfg + 2048) ||
    decide (Reg.pmuCntLo ≤ a ∧ a < Reg.pmuCntLo + 4096)

/-- PF1 is in D3hot (19 R620, R625): it answers configuration requests alone. -/
def pf1Off (s : State) : Bool := s.pcie.perst || d3hot s.pcie.cfg1

/-- An access through PF1's window (18 R615; 19 R623). -/
def observer (s : State) (off : Nat) (write : Bool) : State :=
  let a := 0x0E00000 + off
  if s.pf1Off then s
  else if s.answers a = false then
    (if write then s.accErr else s.accErr.answer 0xFFFFFFFF)
  else if s.observerOn = false then
    let t := s.cause Reg.pmuEvent 4 244 0
    if write then t else t.answer 0
  else if write then s
  else if observable a then
    let (v, t) := s.readReg .pf1 a
    t.answer v
  else s.answer 0

/-- A counter counts one of the three clocks, by its selection in force. -/
def countsClock (s : State) (c : Nat) : Bool :=
  let a := Reg.pmuCntCfg + 4 * c
  decide (s.forceField a 31 1 = 1 ∧ s.forceField a 24 5 = 0 ∧ s.forceField a 16 6 = 0 ∧ s.forceField a 0 8 < 3) &&
    decide (s.regField Reg.pmuControl 0 1 = 0)

/-- A counter of the performance monitor. -/
def pmuCounter (s : State) (c : Nat) : Nat := Tab.get (fun _ => 0) s.pmu.counters c

end State

/-- FREEZE (18 R605). -/
def execFreezeWrite (v : Word) (s : State) : Out := .next (s.wr .pf0 Reg.pmuControl (fun s => s.pmuControlWrite v))

/-- CLR_COUNTS (18 R605). -/
def execPmuClrCounts (s : State) : Out := .next (s.wr .pf0 Reg.pmuControl State.pmuClear)

/-- PMU_SELECTION_APPLY (18 R604): the always-on 1 MHz tick is the monitor's safe point. -/
def execPmuSelectionApply (s : State) : Out := .next (s.reachSafePoint .pmu)

/-- RING_ENABLE_WRITE (18 R614). -/
def execRingEnableWrite (r : Req) (v : Word) (s : State) : Out := .next (s.wr r Reg.pmuRingCtrl (fun s => s.ringEnable v))

/-- PMU_RING_POP (18 R613); `bad` says that the line of the extension it reads is uncorrectable: its records discarded, the
POP takes the oldest that is left (log entry 110). -/
def execPmuRingPop (s : State) (bad : Bool := false) : Out :=
  .next (s.wr .pf0 Reg.pmuRingPop (fun s => (if bad then s.ringBad else s).ringPop))

/-- OBSERVER_ACCESS (18 R615; 19 R623): the window is 64 KiB. -/
def execObserverAccess (off : Nat) (write : Bool) (_ : Word) (s : State) : Out :=
  if off % 4 = 0 ∧ off < 0x10000 then .next (s.observer off write)
  else .refused (.badAddress (0x0E00000 + off))

/-- COUNTER_WRAP (18 R603): a counter of a clock passes 2^48 − 1 while no command comes (log entry 1). -/
def execCounterWrap (c : Fin 512) (s : State) : Out :=
  if s.countsClock c.val then .next (s.pmuAdd c.val (2 ^ 48 - s.pmuCounter c.val)) else .next s

end Sys2Proof.Machine
end

