-- ==== Sys2Proof/Machine/Service.lean ====
section
/-! DEFINITION. Units retired, returned and recalibrated by mailbox (03 R121, R133–R135; 04 R154, R171; 05
R189; 08 R335, R337; 11 R447; 16 R570, R655; 19 R632). -/

namespace Sys2Proof.Machine
open Sys2Proof.Bits

/-- The unit a payload names (19 R632). -/
inductive UnitRef where
  | lane (l : Nat)
  | pair (p : Nat)
  | polder (p : Nat)
  | engine (e : Nat)
  | pipe (p : Nat)
  | group (g : Nat)
  | warden (w : Warden)
deriving DecidableEq, Repr

namespace State

/-- KIND and NUMBER of a payload as a unit; none out of range. A pair is one of PORT_POLICY. -/
def unitOf (s : State) (b : Bytes) : Option UnitRef :=
  let k := leAt b 0 1
  let n := leAt b 2 2
  if k = 0 then (if n < 32 then some (.lane n) else none)
  else if k = 1 then (if n < 34 then some (.lane (32 + n)) else none)
  else if k = 2 then (if n < 32 ∧ (s.pair n).mode ≠ .none then some (.pair n) else none)
  else if k = 3 then (if n < 32 then some (.polder n) else none)
  else if k = 4 then (if n < 1024 then some (.engine n) else none)
  else if k = 5 then (if n < 64 then some (.pipe n) else none)
  else if k = 6 then (if n < 16 then some (.group n) else none)
  else if k = 7 then (if n = 0 then some (.warden .a) else if n = 1 then some (.warden .b) else none)
  else none

/-! ### UNIT_RETIRE (03 R133, R134) -/

/-- A port of a pair is retired (05 R200; a trunk port's cause is its framer's, 06 R251). -/
def retirePort (s : State) (line : Bool) (p : Nat) : State :=
  let t := s.setPort line p { s.port line p with retired := true, active := false }
  if line && decide ((s.pair p).mode = .trunk) then t.framerCause p 11 0 else t.portCause line p 6 0

/-- A pair is retired: its lanes doze (04 R154). -/
def retirePair (s : State) (p : Nat) : State :=
  let t := s.dropPairRemoved p
  let t := t.setPair p { t.pair p with retired := true }
  (((t.dozePair p).retirePort false p).retirePort true p).settle

/-- A polder is retired: POLDER's RETIRED, C0. -/
def retirePolder (s : State) (p : Nat) : State := ((s.polderOut p .retired).pldCause p 5 0).settle

/-- An engine is retired. -/
def retireEngine (s : State) (e : Nat) : State := ((s.engineOut e).pldCause (e / 32) 5 0).settle

/-- Pipes are retired, `p` being the first. -/
def retirePipes (s : State) (p mask : Nat) : State :=
  ((s.pipesOut mask (s.heldIn mask)).cphCause p 4 0).settle

/-- A unit in service is retired; one that is out already stays as it is. -/
def retireUnit (s : State) : UnitRef → State
  | .lane l => if (s.lane l).retired ∨ (s.lane l).stage = .removed then s else s.retireLane l
  | .pair p => if (s.pair p).retired then s else s.retirePair p
  | .polder p => if (s.polder p).state = .removed ∨ (s.polder p).state = .retired then s else s.retirePolder p
  | .engine e =>
    let q := s.polder (e / 32)
    if q.inService.getLsbD (e % 32) ∧ q.state ≠ .removed ∧ q.state ≠ .retired then s.retireEngine e else s
  | .pipe p => if s.cph.inService.testBit p then s.retirePipes p (2 ^ p) else s
  | .group g => if field s.cph.inService (4 * g) 4 ≠ 0 then s.retirePipes (4 * g) (15 * 16 ^ g) else s
  | .warden _ => s

/-- The pairs in service in `s` that a change leading to `t` takes out, those that leave at the next round
boundary of the pipes included (03 R134; 11 R436). -/
def pairsLost (s t : State) : Nat :=
  let u := ({ t with cph := { t.cph with fitN := t.pipesInService } }).settle
  maskOf 32 (fun n => s.pairInService n && !u.pairInService n)

/-- UNIT_RETIRE: the response maps the pairs taken out of service. -/
def unitRetire (b : Bytes) (s : State) : Nat × Bytes × State :=
  match s.unitOf b with
  | none => (0x46, [], s)
  | some (.warden _) => (0x46, [], s)
  | some u =>
    let t := s.retireUnit u
    (0, leBytes 4 (s.pairsLost t), t)

/-! ### UNIT_RETURN (03 R121, R133; 04 R171) -/

/-- A port of whose lanes none is out any more returns with them. -/
def returnPort (s : State) (line : Bool) (p : Nat) : State :=
  if (s.portLanes line p).all (fun l => !(s.lane l).retired && decide ((s.lane l).stage ≠ .removed)) then
    s.setPort line p { s.port line p with removed := false, retired := false }
  else s

/-- A lane in DOZE runs from DETECT where it may wake; `ok` says that its PLL locks and its self-check
passes (04 R141, R169). -/
def wakeLane (s : State) (l : Nat) (ok : Bool) : State :=
  if s.wakeable l then
    if s.sideRef l then (if ok then s.moveLane l .detect true else s.removeLane l true)
    else
      let t := s.moveLane l .detect true
      t.setLane l { t.lane l with held := true }
  else s

/-- PATTERN and NEAR_LOOP of a lane in DOZE cleared (04 R171). -/
def endTest (s : State) (l : Nat) : State :=
  let a := Reg.lane l + 0x10
  if (s.lane l).stage = .doze then s.setReg a (s.reg a &&& ~~~(BitVec.ofNat 32 (Reg.maskAt a).stop)) else s

/-- A lane returns: PATTERN and NEAR_LOOP are cleared, and it wakes (04 R171); so do the other lanes of its port, when the
port returns with it. -/
def returnLane (s : State) (l : Nat) (ok : Bool) : State :=
  let n := s.lane l
  if n.retired ∨ n.stage = .removed ∨ n.stage = .doze then
    let t := (s.setLane l { n with retired := false, wakeAsked := false, stage := .doze }).endTest l
    match (if 64 ≤ l then none else t.pairOf (laneIdx l)) with
    | none => t.wakeLane l ok
    | some p =>
      let line := decide (32 ≤ l)
      let t := (t.returnPort line p).wakeLane l ok
      if (t.port line p).retired then t else (t.portLanes line p).foldl (fun (u : State) i => u.wakeLane i true) t
  else s

/-- A pair returns, or an idle one is woken (03 R121; 04 R171). -/
def returnPair (s : State) (p : Nat) (ok : Bool) : State :=
  let t := s.setPair p { s.pair p with retired := false }
  let t := (t.returnPort false p).returnPort true p
  ((t.pairLanes p).foldl (fun t l => (t.endTest l).wakeLane l ok) t).settle

/-- A polder returns asleep, with every block of every live ensign of its own programs (08 R337). -/
def returnPolder (s : State) (p : Nat) : State := (s.setPolder p (s.polder p).comeBack).settle

/-- Pipes return; they join the deal after their wake self-test (11 R436, R449). -/
def returnPipes (s : State) (mask : Nat) : State :=
  ({ s with cph := { s.cph with inService := s.cph.inService ||| mask, failed := s.cph.failed &&& (2 ^ 64 - 1 - mask) } }).settle

/-- A unit returns through its own bring-up; a warden by the holder's hand (16 R570, R655). -/
def returnUnit (s : State) (ok : Bool) : UnitRef → State
  | .lane l => s.returnLane l ok
  | .pair p => s.returnPair p ok
  | .polder p => if (s.polder p).out then s.returnPolder p else s
  | .engine e =>
    let q := s.polder (e / 32)
    (s.setPolder (e / 32) { q with inService := q.inService ||| BitVec.ofNat 32 (2 ^ (e % 32)) }).settle
  | .pipe p => s.returnPipes (2 ^ p)
  | .group g => s.returnPipes (15 * 16 ^ g)
  | .warden w => if s.warden w = .removed ∧ s.wrd.holder.isSome then s.setWarden w .returning else s

/-- UNIT_RETURN. -/
def unitReturn (ok : Bool) (b : Bytes) (s : State) : Nat × Bytes × State :=
  match s.unitOf b with
  | none => (0x46, [], s)
  | some u => (0, [], s.returnUnit ok u)

/-! ### UNIT_RECAL (03 R135) -/

/-- A lane reruns its adaptation from TRAIN; its pair is out of service until it is ACTIVE again. -/
def recalLane (s : State) (l : Nat) : State :=
  if 2 ≤ (s.lane l).stage.code ∧ (s.lane l).stage.code ≤ 5 then s.moveLane l .train false else s

/-- UNIT_RECAL. -/
def unitRecal (b : Bytes) (s : State) : Nat × Bytes × State :=
  match s.unitOf b with
  | some (.lane l) => (0, [], s.recalLane l)
  | _ => (0x46, [], s)

end State

/-- UNIT_RETIRE (03 R133, R134). -/
def execUnitRetire (m : MbxId) (s : State) : Out := .next (s.mbxRun m 0x30 State.unitRetire)

/-- UNIT_RETURN (03 R133). -/
def execUnitReturn (m : MbxId) (ok : Bool) (s : State) : Out := .next (s.mbxRun m 0x31 (State.unitReturn ok))

/-- UNIT_RECAL (03 R135). -/
def execUnitRecal (m : MbxId) (s : State) : Out := .next (s.mbxRun m 0x32 State.unitRecal)

end Sys2Proof.Machine
end

