-- ==== Sys2Proof/Machine/Update.lean ====
section
/-! DEFINITION. The image replaced while traffic runs: staging, the checks before an apply, its eight
steps, their restoration and its end (03 R127–R132; 04 R147; 05 R199; 07 R287; 08 R331, R333; 09 R365;
10 R414; 12 R463, R467; 14 R521; 19 R632, R638). -/

namespace Sys2Proof.Machine
open Sys2Proof.Bits

namespace Update

/-- The record types a step carries (03 R128). -/
def types (k : Nat) : List Nat :=
  if k = 1 then [8] else if k = 2 then [4] else if k = 3 then [7] else if k = 4 then [5, 6] else if k = 5 then [9]
  else if k = 6 then [2] else if k = 7 then [3] else [1]

/-- The directory of a step's records: what tells a changed, new or absent one. -/
def dirOf (i : Image) (k : Nat) : List (Nat × Nat × Bytes) :=
  (i.entries.filter (fun e => (types k).contains e.typ)).map (fun e => (e.typ, e.inst, e.digest))

/-- The RULE_SET entries of a directory. -/
def dirRules (i : Image) : List (Nat × Bytes) :=
  (i.entries.filter (fun e => decide (e.typ = 6))).map (fun e => (e.inst, e.digest))

/-- Whether a step has a record to carry from one image to the other. -/
def changed (old new : Image) (k : Nat) : Bool :=
  (dirOf old k).any (fun e => !(dirOf new k).contains e) || (dirOf new k).any (fun e => !(dirOf old k).contains e)

/-- The steps of an update, in order. -/
def steps (old new : Image) : List Nat := ((List.range 8).map (fun k => k + 1)).filter (changed old new)

/-- TYPE and INSTANCE of every record that differs, is new or is absent (03 R127). -/
def differing (old new : Image) : List (Nat × Nat) :=
  let key := fun (e : DirEntry) => (e.typ, e.inst)
  let same := fun (e f : DirEntry) => decide (e.typ = f.typ ∧ e.inst = f.inst ∧ e.digest = f.digest)
  (new.entries.filter (fun e => !old.entries.any (same e))).map key ++
    (old.entries.filter (fun e => !new.entries.any (fun f => decide (key f = key e)))).map key

/-- Every record of an image, read and checked against its DIGEST (03 R106). -/
def records (i : Image) (flash : List Host.Cell) : Option (List (Nat × Nat × Bytes)) :=
  i.entries.foldr (fun e acc => match acc, i.body flash e with
    | some l, .ok b => some ((e.typ, e.inst, b) :: l)
    | _, _ => none) (some [])

/-- The records of a type by instance. -/
def ofType (r : List (Nat × Nat × Bytes)) (t : Nat) : List (Nat × Bytes) :=
  (r.filter (fun e => decide (e.1 = t))).map (fun e => e.2)

/-- The one record of a type whose INSTANCE is 0xFFFF. -/
def single (r : List (Nat × Nat × Bytes)) (t : Nat) : Option Bytes :=
  match ofType r t with
  | [(0xFFFF, b)] => some b
  | _ => none

/-- The records of `a` that `b` does not hold with the same body. -/
def fresh (a b : List (Nat × Bytes)) : List (Nat × Bytes) := a.filter (fun e => !b.contains e)

end Update

/-- Records by type and instance. -/
abbrev Records := List (Nat × Nat × Bytes)

namespace State

/-! ### What IMG_STAGE proves (03 R127; 07 R287; 08 R333) -/

/-- The image a slot holds, checked as IMAGE_AUTH and 03 R106 would, with its records. -/
def provenImage (s : State) (slot : Nat) : Except Nat (Image × Records) :=
  let i := Image.fetch s.flash slot
  if Image.headerOk i.header = false then .error 0x81
  else
    match Image.auth i s.lev.minSv with
    | some c => .error c
    | none =>
      let j := { i with entries := Image.kept i.header i.dirBytes }
      match Update.records j s.flash with
      | none => .error 0x85
      | some r => .ok (j, r)

/-- A changed RULE_SET whose INSTANCE is the number of a live ensign (07 R287). -/
def numberLive (s : State) (r : Records) : Bool :=
  match Update.ofType r 6 with
  | [(n, _)] => s.cls.live n
  | _ => false

/-- The checks of the programs and rules an update commits together (07 R287, R291; 08 R331–R333). -/
def rulesRefusal (s : State) (r : Records) : Option Nat :=
  match Update.ofType r 6 with
  | [(n, rb)] =>
    if n < 4096 ∧ RuleSet.ok n rb ∧ s.programsOk (Update.ofType r 5) n rb then (if s.numberLive r then some 0x43 else none)
    else some 0x86
  | _ => some 0x86

/-! ### Step 1: KEY_IMPORT (03 R128; 12 R463, R467–R469) -/

/-- A changed body put into its slot as a new generation; one that fails its unwrap leaves the slot invalid
with KEY_IMPORT_FAIL (03 R113, 12 R463). -/
def renewKey (s : State) (slot : Nat) (b : Bytes) : State :=
  match s.openImport slot b with
  | (some (key, usage), s) =>
    let (c, s) := s.newCell key
    s.writeDomain slot { Domain.empty with key := some c, usage := usage }
  | (none, s) =>
    let t := { s with boot := { s.boot with keyImportFail := true } }
    if t.key.valid slot then t.invalidate [(slot, (t.key.slot slot).gen)] 0 else t

/-- The slots of records that went are invalidated, the changed ones renewed. A slot under sweep turns the
step away, unless it is being restored. -/
def stepKeys (s : State) (old new : Records) (force : Bool) : Option State :=
  let o := Update.ofType old 8
  let n := Update.ofType new 8
  let gone := (o.filter (fun e => !n.any (fun f => decide (f.1 = e.1)))).map Prod.fst
  let chg := Update.fresh n o
  if !force && (gone ++ chg.map Prod.fst).any s.key.sweeping then none
  else
    let t := gone.foldl (fun (t : State) k =>
      if t.key.valid k then t.invalidate [(k, (t.key.slot k).gen)] 0 else t) s
    some (chg.foldl (fun (t : State) e => t.renewKey e.1 e.2) t)

/-! ### Step 2: CHANNEL_POLICY (10 R413, R414) -/

/-- Whether a policy bit of a valid domain slot would change. -/
def policyStops (s : State) (b : Bytes) : Bool :=
  (List.range 32).any (fun k =>
    let a := Reg.chnPolicy + 4 * k
    decide ((s.reg a ^^^ ChannelPolicy.policyWord b k) &&& BitVec.ofNat 32 (s.stopHeld a) ≠ 0))

/-- Profiles to their shadows, policy bits at once. -/
def stepPolicy (s : State) (new : Records) : Option State :=
  match Update.single new 4 with
  | none => none
  | some b =>
    if s.policyStops b then none
    else
      let ws := (List.range 16).flatMap (fun p =>
        (ChannelPolicy.profileWords b p).map (fun w => (Reg.chnProfile + 0x20 * p + w.1, w.2)))
      let t := ws.foldl (fun (t : State) w => if t.reg w.1 = w.2 then t else t.shadow w.1 w.2) s
      let t := t.setRegs ((List.range 32).map (fun k => (Reg.chnPolicy + 4 * k, ChannelPolicy.policyWord b k)))
      some { t with channelPolicy := b, key := { t.key with digestPending := true } }

/-! ### Step 3: TABLE_SEED (09 R365) -/

/-- A static entry inserted; none where every way is static. -/
def seedInsert (s : State) (n : Nat) (e : ExactEntry) : Option State :=
  match s.table n with
  | none => none
  | some t =>
    match t.wayOf e.key with
    | some (loc, _) => some (s.lkpPut n t loc e)
    | none =>
      match t.freeWay e.key, t.oldestLearned e.key with
      | some loc, _ => some (s.lkpPut n t loc e)
      | none, some (loc, o) =>
        let u := ((s.lkpPut n t loc e).bump (lkpCtr 0x50)).pmuCount 4 0 3 1
        some (u.lqPut (u.lqRecord 2 n none (wayLoc loc) (exactKd t o)))
      | none, none => none

/-- A static entry deleted. -/
def seedDelete (s : State) (n : Nat) (e : ExactEntry) : State :=
  match s.table n with
  | none => s
  | some t =>
    match t.wayOf e.key with
    | some (loc, o) =>
      if o.static then
        { s with lkp := { (s.lkp.setTable n { t with exact := Tab.del t.exact loc }) with
            writes := s.lkp.writes.filter (fun w => decide (¬(w.table = n ∧ w.loc = loc))) } }
      else s
    | none => s

/-- The seed entries of an EXACT record. -/
def seedsOf (s : State) (b : Bytes) : List ExactEntry :=
  (List.range (Seed.count b)).map (fun i => Seed.exactEntry (Seed.header b) b i s.stamp)

/-- An EXACT table from one record's entries to another's. -/
def seedExact (s : State) (n : Nat) (old new : List ExactEntry) : Option State :=
  let t := (old.filter (fun e => !new.any (fun f => decide (f.key = e.key)))).foldl (fun (t : State) e => t.seedDelete n e) s
  (new.filter (fun e => !old.any (fun f => decide (f.key = e.key ∧ f.d0 = e.d0 ∧ f.d1 = e.d1)))).foldl
    (fun acc e => acc.bind (fun u => u.seedInsert n e)) (some t)

/-- An LPM_HASH table from one record's prefixes to another's. -/
def seedHash (s : State) (n : Nat) (old new : List Prefix) : Option State :=
  match s.table n with
  | none => none
  | some t =>
    let gone := old.filter (fun p => !new.any (LkTable.samePrefix p))
    let t := gone.foldl (fun acc p => acc.bind (fun (u : LkTable) =>
      if u.prefixes.any (LkTable.samePrefix p) then u.delPrefix p else some u)) (some t)
    let t := (new.filter (fun p => !old.contains p)).foldl (fun acc p => acc.bind (fun (u : LkTable) => u.addPrefix p)) t
    t.map (s.setTable n)

/-- A trie table from one record's prefixes to another's: the entries beneath a prefix that went, came or changed
(09 R356, R365). -/
def seedTrie (s : State) (n : Nat) (old new : List Prefix) : Option State :=
  match s.table n with
  | none => none
  | some t =>
    let l := s.lkp.setTable n { t with prefixes := new }
    let diff := old.filter (fun p => !new.contains p) ++ new.filter (fun p => !old.contains p)
    (diff.foldl (fun acc p => acc.bind (fun l => Seed.trieFix n p l)) (some l)).map (fun l => { s with lkp := l })

/-- A table whose record went is undefined (09 R345): its entries, chunks and writes under way go with it. -/
def seedGone (s : State) (n : Nat) (t : LkTable) : State :=
  { s with lkp := { s.lkp with
      tables := Tab.del s.lkp.tables n
      chunks := s.lkp.chunks.filter (fun e => !(t.ownChunks.contains (e.1 / 65536)))
      writes := s.lkp.writes.filter (fun w => decide (w.table ≠ n)) } }

/-- A table's AGE_LIMIT. -/
def seedAge (s : State) (n : Nat) (b : Bytes) : State := s.setReg (0x0801004 + 8 * n) (BitVec.ofNat 32 (leAt b 12 2 * 65536))

/-- One table carried from its old record to its new one. A table without a definition takes it from its
record, and one whose record went is undefined (09 R345). -/
def seedTable (s : State) (n : Nat) (old new : Option Bytes) : Option State :=
  match s.table n, new with
  | none, none => some s
  | none, some b => (Seed.load s.lkp n b s.stamp).map (fun l => ({ s with lkp := l }).seedAge n b)
  | some t, none => some (s.seedGone n t)
  | some t, some b =>
    let u := if t.kind = 0 then s.seedExact n ((old.map s.seedsOf).getD []) (s.seedsOf b)
      else if t.kind = 1 then s.seedHash n ((old.map Seed.prefixes).getD []) (Seed.prefixes b)
      else s.seedTrie n ((old.map Seed.prefixes).getD []) (Seed.prefixes b)
    (u.map (fun (u : State) => u.seedAge n b)).bind (fun u => if Seed.poolsOk u.lkp then some u else none)

/-- Whether a record changes the shape of a defined table (09 R365). -/
def seedStops (s : State) (e : Nat × Bytes) : Bool :=
  match s.table e.1 with
  | some t => !Seed.sameShape t (Seed.header e.2)
  | none => false

/-- The tables whose record differs, is new or is absent. -/
def seedList (old new : Records) : List Nat :=
  let o := Update.ofType old 7
  let n := Update.ofType new 7
  ((Update.fresh n o).map Prod.fst ++ (Update.fresh o n).map Prod.fst).eraseDups

/-- The record of a table. -/
def seedBody (r : Records) (n : Nat) : Option Bytes := ((Update.ofType r 7).find? (fun e => decide (e.1 = n))).map Prod.snd

/-- Every table carried. -/
def stepSeeds (s : State) (old new : Records) : Option State :=
  (seedList old new).foldl (fun acc n => acc.bind (fun (t : State) => t.seedTable n (seedBody old n) (seedBody new n))) (some s)

/-! ### Step 4: ACTION_PROGRAM and RULE_SET (07 R287; 08 R331) -/

/-- Whether two blocks have one content and one BOUNDED flag. -/
def sameBlock (a b : Block) : Bool := decide (a.words = b.words ∧ a.bounded = b.bounded) && !a.faulty

/-- A polder's blocks with those of its record joined or written for the PENDING slot `k`; none where a live
ensign holds a number with other content. -/
def mergeBlocks (blocks : Tab Block) (b : Bytes) (k : Nat) : Option (Tab Block) :=
  let new := Program.blocks b 0
  let joined := blocks.map (fun e => match Tab.find new e.1 with
    | some v => if e.2.slots ≠ 0 ∧ sameBlock e.2 v then (e.1, { e.2 with slots := e.2.slots ||| 2 ^ k }) else e
    | none => e)
  RuleSet.mergeTab Block.slots (fun b m => { b with slots := m }) sameBlock joined new k

/-- Every polder, one out of service in the steward's copy (08 R337). -/
def mergePrograms (s : State) (progs : List (Nat × Bytes)) (k : Nat) : Option State :=
  (List.range 32).foldl (fun acc p => acc.bind (fun (t : State) =>
    match programOf progs p with
    | none => some t
    | some b => (mergeBlocks (t.polder p).held b k).map (fun m => t.setPolder p ((t.polder p).edit (fun _ => m))))) (some s)

/-- OPEN into the lowest FREE slot, the entries and blocks there, its COMMIT, whatever slot another change group holds
PENDING; NO_ROOM with the state an abandoned slot leaves. FOLLOW_TIMEOUT is loaded at bring-up only (07 R290). -/
def stepRules (s : State) (new : Records) : Except State State :=
  match Update.ofType new 6 with
  | [(n, rb)] =>
    (match s.openRefusal n, s.cls.theSlot .free with
     | none, some k =>
       let t := (s.openEnsign n).openingDone
       (match RuleSet.merge t.cls rb k n, t.mergePrograms (Update.ofType new 5) k with
        | some c, some u => .ok (({ u with cls := c }).commitSlot k)
        | _, _ => .error (t.abandonSlot k))
     | _, _ => .error s)
  | _ => .error s

/-- The classifier once a copy and a sweep under way have ended: the steward repeats an OPEN that answers BUSY (07
R280; log entry 97). -/
def clsQuiet (s : State) : State := s.openingDone.sweepDone

/-! ### Steps 5 to 8 -/

/-- Step 5: TIME_CONFIG without its bases (14 R521); an image without one leaves what a bring-up without one
would. -/
def stepTime (s : State) (new : Records) : State :=
  match Update.single new 9 with
  | some b => s.takeTimeConfig (some b) false
  | none => (s.setRegs (TimeConfig.words [] ++ TimeConfig.boardWords [] none)).takeTimeConfig none false

/-- The EQUALISATION record of this board. -/
def boardTable (s : State) (r : Records) : Option Bytes :=
  ((Update.ofType r 2).find? (fun e => decide (e.1 = s.pwr.boardId))).map Prod.snd

/-- A lane given its entry; one without PRESENT dozes (04 R147). -/
def retable (s : State) (b : Bytes) (l : Nat) : State :=
  let t := s.setLane l (Equalisation.give b l (s.laneTrunk l) (s.lane l))
  if Equalisation.present b l then t else t.dozeLane l

/-- Step 6: lane by lane, each retrains from TRAIN; without a table for the board every lane dozes (03
R112). -/
def stepLanes (s : State) (old new : Records) : State :=
  match s.boardTable new with
  | none => (List.range 66).foldl (fun (t : State) l => let u := t.dozeLane l; u.setLane l (Lane.bare (u.lane l))) { s with boot := { s.boot with noTable := true } }
  | some b =>
    if s.boardTable old = some b then s
    else
      (List.range 66).foldl (fun (t : State) l => (t.retable b l).recalLane l) { s with boot := { s.boot with noTable := false } }

/-- The lanes of one side that a body's entry i covers. -/
def entryLanes (b : Bytes) (i : Nat) : List Nat :=
  if leAt b (16 + 32 * i + 1) 1 = 0 then [] else (List.range (leAt b (16 + 32 * i + 2) 1)).map (fun k => i + k)

/-- The lanes in an old or a new port of a changed entry (05 R199). -/
def movedLanes (old new : Bytes) : List Nat :=
  ((List.range 32).filter (fun i => decide (sliceZ old (16 + 32 * i) 32 ≠ sliceZ new (16 + 32 * i) 32))).flatMap
    (fun i => i :: entryLanes old i ++ entryLanes new i)

/-- The pairs stopped: those with a lane among the moved ones. -/
def movedPairs (s : State) (m : List Nat) : List Nat :=
  (s.pairsUsed.filter (fun e => (List.range e.2.width).any (fun k => m.contains (e.1 + k)))).map Prod.fst

/-- Step 7 begins: the pairs concerned stop, their frames dropped and their lanes in DOZE (04 R154). -/
def stopPairs (s : State) (new : Records) : State :=
  let m := movedLanes s.portPolicy ((Update.single new 3).getD [])
  ((s.movedPairs m).foldl (fun (t : State) p =>
    let t := t.dropPairRemoved p
    (t.setPair p { t.pair p with stopped := true }).dozePair p) s).settle

/-- Step 7: the entries change, and the pairs may start again; a line lane that is awake in no pair and whose rate
changes restarts from TRAIN (04 R138). -/
def stepPairs (s : State) (new : Records) : State :=
  match Update.single new 3 with
  | none => s
  | some b =>
    let m := (movedLanes s.portPolicy b).eraseDups
    let pol := fun (t : State) => { t with portPolicy := b, key := { t.key with digestPending := true } }
    let t := m.foldl (fun (t : State) i => t.setPair i (PortPolicy.pair b i)) (pol s)
    let t := match t.boardTable new with
      | some q => m.foldl (fun (t : State) i => (t.retable q i).retable q (32 + i)) t
      | none => t
    (m.foldl (fun (t : State) i => if s.laneTrunk (32 + i) = t.laneTrunk (32 + i) then t else t.recalLane (32 + i)) t).settle

/-- Step 8: the steward runs the new firmware (19 R638). -/
def stepFirmware (s : State) (new : Records) : State :=
  let b := (Update.single new 1).getD []
  { s with stw := { s.stw with restarting := false, fw := some (leAt b 8 8, leAt b 8 8 + leAt b 16 8) } }

/-- A step performed from the old records to the new ones; the state it leaves where it fails. -/
def doStep (s : State) (k : Nat) (old new : Records) (force : Bool) : Except State State :=
  let opt := fun (o : Option State) => match o with
    | some t => Except.ok t
    | none => Except.error s
  if k = 1 then opt (s.stepKeys old new force)
  else if k = 2 then opt (s.stepPolicy new)
  else if k = 3 then opt (s.stepSeeds old new)
  else if k = 4 then s.stepRules new
  else if k = 5 then .ok (s.stepTime new)
  else if k = 6 then .ok (s.stepLanes old new)
  else if k = 7 then .ok (s.stepPairs new)
  else .ok (s.stepFirmware new)

/-! ### IMG_STAGE -/

/-- The result of IMG_STAGE in IDN_UPDATE. -/
def updResult (s : State) (c : Nat) : State := { s with upd := { s.upd with result := c } }

/-- IMG_STAGE. -/
def imgStage (_ : Bytes) (s : State) : Nat × Bytes × State :=
  if s.upd.state ≠ .idle then (0x01, [], s)
  else
    let old := s.run.getD { slot := 0, header := [], sig := [], dirBytes := [], entries := [] }
    match s.provenImage (1 - s.boot.slot) with
    | .error c => (c, [], s.updResult c)
    | .ok (j, r) =>
      if (decide (Update.dirRules old ≠ Update.dirRules j) && s.numberLive r) then (0x43, [], s.updResult 0x43)
      else (0, (Config.stageList (Update.differing old j)).take 4080, { (s.updResult 0) with upd := { s.upd with staged := some j, result := 0 } })

/-! ### IMG_APPLY (03 R128–R132) -/

/-- The result for which a step's records refuse the apply before any is applied. -/
def stepRefusal (s : State) (old new : Records) (k : Nat) : Option Nat :=
  if k = 1 then (if (Update.ofType new 8).all (fun e => decide (e.1 < 1024)) then none else some 0x86)
  else if k = 2 then
    (match Update.single new 4 with
     | none => some 0x86
     | some b =>
       if ChannelPolicy.ok b = false then some 0x86
       else if ((s.stepKeys old new true).getD s).policyStops b then some 0x41 else none)
  else if k = 3 then
    (if (Update.ofType new 7).any s.seedStops then some 0x41
     else if (Update.fresh (Update.ofType new 7) (Update.ofType old 7)).any (fun e =>
        (Seed.load Lkp.empty e.1 e.2 0).isNone) then some 0x86
     else
       match s.stepSeeds old new with
       | some t => if Seed.poolsOk t.lkp then none else some 0x86
       | none => some 0x86)
  else if k = 4 then
    (let t := (s.stepSeeds old new).getD s
     match t.rulesRefusal new with
     | some c => some c
     | none =>
       match t.clsQuiet.stepRules new with
       | .ok _ => none
       | .error _ => some 0x40)
  else if k = 5 then
    (match Update.ofType new 9 with
     | [] => none
     | _ => if ((Update.single new 9).map TimeConfig.ok).getD false then none else some 0x86)
  else if k = 6 ∨ k = 7 then
    (match Update.single new 3 with
     | none => some 0x86
     | some p =>
       match s.boardTable new with
       | none => if PortPolicy.ok p (fun _ => true) then none else some 0x86
       | some q =>
         let t := { s with pairs := PortPolicy.pairs p }
         if Equalisation.ok q s.pwr.boardId t.laneTrunk && PortPolicy.ok p (Equalisation.present q) then none else some 0x86)
  else if ((Update.single new 1).map Firmware.ok).getD false then none else some 0x86

/-- The first refusal among the steps to take. -/
def applyRefusal (s : State) (old new : Records) (l : List Nat) : Option Nat := l.findSome? (s.stepRefusal old new)

/-- A step begins: PORT_POLICY stops its pairs, FIRMWARE restarts the steward. -/
def enterStep (s : State) (k : Nat) (new : Records) : State :=
  let t := { s with upd := { s.upd with state := .applying, step := k } }
  if k = 7 then t.stopPairs new else if k = 8 then t.restartSteward else t

/-- The response of the IMG_APPLY that waits. -/
def updAnswer (s : State) (r : Nat) : State :=
  match s.upd.waiting with
  | none => s
  | some m =>
    match s.request m with
    | none => s
    | some req => s.mbxAnswer m req r []

/-- An apply ends with a result. -/
def updEnd (s : State) (r : Nat) : State :=
  let t := s.updAnswer r
  { t with upd := { state := .idle, step := 0, staged := none, result := r, waiting := none, records := [] } }

/-- The staged image becomes the running one (03 R104, R132). -/
def newImage (s : State) (j : Image) : State :=
  let t := { s with run := some j, boot := { s.boot with slot := j.slot } }
  let t := t.raiseMinSv
  let l := { t.lev with prefSlot := j.slot }
  { t with lev := l.write 9 0 (!t.fed) j.slot }

/-- The first step above `k` that has records to carry. -/
def stepAfter (old new : Image) (k : Nat) : Option Nat := (Update.steps old new).find? (fun n => decide (k < n))

/-- Step 2 restored as far as valid slots let it: a policy word that would change under a key stays. -/
def restorePolicy (s : State) (old : Records) : State :=
  match Update.single old 4 with
  | none => s
  | some b =>
    let kept := (List.range 32).filter (fun k =>
      let a := Reg.chnPolicy + 4 * k
      decide ((s.reg a ^^^ ChannelPolicy.policyWord b k) &&& BitVec.ofNat 32 (s.stopHeld a) ≠ 0))
    let words := kept.map (fun k => (Reg.chnPolicy + 4 * k, s.reg (Reg.chnPolicy + 4 * k)))
    let t := kept.foldl (fun (t : State) k => t.setReg (Reg.chnPolicy + 4 * k) (ChannelPolicy.policyWord b k)) s
    ((t.stepPolicy old).getD s).setRegs words

/-- Step 3 restored table by table. -/
def restoreSeeds (s : State) (old new : Records) : State :=
  (seedList new old).foldl (fun (t : State) n => (t.seedTable n (seedBody new n) (seedBody old n)).getD t) s

/-- Step 4 restored; a polder whose blocks can not be brought back is removed, and all of them where the old ensign can
not be opened at all (03 R131; log entry 82). -/
def restoreRules (s : State) (old : Records) : State :=
  match s.stepRules old with
  | .ok t => t
  | .error t =>
    let progs := Update.ofType old 5
    let stuck := (List.range 32).filter (fun p => match programOf progs p with
      | none => false
      | some b => (mergeBlocks (t.polder p).held b ((t.cls.theSlot .free).getD 0)).isNone)
    (if stuck.isEmpty then List.range 32 else stuck).foldl (fun (t : State) p => t.removePolder p) t

/-- Every step done is restored in reverse order (03 R131). -/
def restore (s : State) (old new : Records) (l : List Nat) : State :=
  l.reverse.foldl (fun (t : State) k =>
    if k = 2 then t.restorePolicy old
    else if k = 3 then t.restoreSeeds old new
    else if k = 4 then t.restoreRules old
    else match t.doStep k new old true with
      | .ok u => u
      | .error u => u) s

/-- The step running ends. -/
def stepDone (s : State) (old new : Image) (ro rn : Records) : State :=
  match s.doStep s.upd.step ro rn false with
  | .ok t =>
    (match stepAfter old new s.upd.step with
     | some k => t.enterStep k rn
     | none => (t.newImage new).updEnd 0)
  | .error t => (t.restore ro rn ((Update.steps old new).filter (fun n => decide (n < s.upd.step)))).updEnd 0x42

/-- IMG_APPLY from mailbox `m`: refused with a result, or its first step begun. -/
def imgApply (s : State) (m : MbxId) (req : Bytes) : State :=
  if s.upd.state ≠ .idle then s.mbxAnswer m req 0x01 []
  else
    match s.upd.staged, s.run with
    | some j, some i =>
      let no := fun (c : Nat) => (s.updResult c).mbxAnswer m req c []
      let again := Image.fetch s.flash j.slot
      (match Update.records i s.flash, Update.records j s.flash with
       | some ro, some rn =>
         if again.header ≠ j.header ∨ again.dirBytes ≠ j.dirBytes then no 0x85
         else
           match s.applyRefusal ro rn (Update.steps i j) with
           | some c => no c
           | none =>
             let t := { s with upd := { s.upd with waiting := some m, records := rn } }
             match stepAfter i j 0 with
             | some k => t.enterStep k rn
             | none => (t.newImage j).updEnd 0
       | _, _ => no 0x85)
    | _, _ => s.mbxAnswer m req Config.noStageResult.toNat []

end State

/-- IMG_STAGE (03 R127). -/
def execImgStage (m : MbxId) (s : State) : Out := .next (s.mbxRun m 0x20 State.imgStage)

/-- IMG_APPLY (03 R128, R130). -/
def execImgApply (m : MbxId) (s : State) : Out :=
  match s.request m with
  | none => .next s
  | some req =>
    if Mail.code req ≠ 0x21 ∨ s.upd.waiting = some m then .next s
    else
      match s.mbxRefusal req with
      | some r => .next (s.mbxAnswer m req r [])
      | none => .next (s.imgApply m req)

/-- IMG_APPLY_STEP_DONE (03 R128, R131, R132): the steward at work; the rules wait for a classifier that is BUSY (07
R280). -/
def execImgApplyStepDone (s : State) : Out :=
  if s.upd.step = 4 ∧ s.cls.ensignBusy then .next s
  else if s.upd.state = .applying ∧ s.stw.up ∧ s.stw.halted = false ∧ (s.stw.restarting = false ∨ s.upd.step = 8) then
    match s.upd.staged, s.run with
    | some j, some i =>
      (match Update.records i s.flash with
       | some ro => .next (s.stepDone i j ro s.upd.records)
       | none => .next s)
    | _, _ => .next s
  else .next s

end Sys2Proof.Machine
end

