-- ==== Sys2Proof/Machine/Manage.lean ====
section
/-! DEFINITION. Register accesses by address, the MSI-X table, PCIe configuration and link, and the I²C
commands (00 R11–R16; 03 R91–R93; 16 R560; 19 R619–R635). -/

namespace Sys2Proof.Machine
open Sys2Proof.Bits

/-! ### PCIe configuration space (19 R620, R622; the layout: log entry 9) -/

namespace PciCfg

/-- The nonzero values that stored words hold after reset. -/
def resetOf (a : Nat) : Word :=
  if a = 0x58 then 0x2810 else if a = 0x80 then 4 else if a = 0x10C then 0x00462030 else if a = 0x114 then 0xE000 else 0

/-- The bits of a word a configuration write reaches. -/
def writable (pf1 : Bool) (a : Nat) : Nat :=
  if a = 0x04 then 0x146
  else if a = 0x0C ∨ a = 0x3C then 0xFF
  else if a = 0x10 then (if pf1 then 0xFFFF0000 else 0xFC000000)
  else if a = 0x14 then Reg.all
  else if a = 0x18 then (if pf1 then 0 else 0xFFFFC000)
  else if a = 0x1C then (if pf1 then 0 else Reg.all)
  else if a = 0x44 then 3
  else if a = 0x58 then 0x79FF
  else if a = 0x60 then 0xC8
  else if a = 0x80 then 0xF
  else if a = 0x90 then (if pf1 then 0 else 0xC0000000)
  else if a = 0x108 ∨ a = 0x10C then 0x5FF030
  else if a = 0x114 then 0xF1C1
  else 0

/-- The bits of a word that are fixed. -/
def fixed (pf1 : Bool) (a : Nat) : Nat :=
  if a = 0x00 then (if pf1 then 0x64331F7A else 0x64321F7A)
  else if a = 0x04 then 0x00100000
  else if a = 0x08 then (if pf1 then 0x11010000 else 0x10800000)
  else if a = 0x0C then 0x00800000
  else if a = 0x10 then 4
  else if a = 0x18 then (if pf1 then 0 else 4)
  else if a = 0x34 then 0x40
  else if a = 0x40 then 0x00035001
  else if a = 0x50 then (if pf1 then 0x00020010 else 0x00029010)
  else if a = 0x54 then 0x8001
  else if a = 0x5C then 0x44
  else if a = 0x7C then 0x1E
  else if a = 0x90 then (if pf1 then 0 else 0x00FF0011)
  else if a = 0x94 then (if pf1 then 0 else 2)
  else if a = 0x98 then (if pf1 then 0 else 0x2002)
  else if a = 0x100 then 0x15020001
  else if a = 0x150 then 0x00010003
  else if a = 0x154 then leAt State.dieId 0 4
  else if a = 0x158 then leAt State.dieId 4 4
  else 0

/-- A written word as it is taken: no other power state than D0 and D3hot, no Max_Payload_Size above 256
bytes; a value beyond these leaves the field as it was. -/
def norm (a old v : Nat) : Nat :=
  if a = 0x44 then (if v % 4 = 0 ∨ v % 4 = 3 then v else old)
  else if a = 0x58 then (if field v 5 3 ≤ 1 then v else setField v 5 3 (field old 5 3))
  else v

/-- The bits of a word under byte enables. -/
def enabled (be : BitVec 4) : Nat :=
  pack ((List.range 4).map (fun k => (if be.getLsbD k then 255 else 0, 8 * k, 8)))

end PciCfg

namespace State

/-- A function's stored configuration words. -/
def cfgOf (s : State) (pf1 : Bool) : Tab Word := if pf1 then s.pcie.cfg1 else s.pcie.cfg0

/-- A function's stored configuration words replaced. -/
def setCfg (s : State) (pf1 : Bool) (t : Tab Word) : State :=
  if pf1 then { s with pcie := { s.pcie with cfg1 := t } } else { s with pcie := { s.pcie with cfg0 := t } }

/-- What a configuration word reads. -/
def cfgRead (s : State) (pf1 : Bool) (a : Nat) : Word :=
  let link := if a = 0x60 ∧ s.pcie.up then pack [(s.pcie.width, 20, 6), (s.pcie.speed, 16, 4)] else 0
  Tab.get PciCfg.resetOf (s.cfgOf pf1) a ||| BitVec.ofNat 32 (PciCfg.fixed pf1 a ||| link)

/-- A configuration write. A function that returns to D0 from D3hot has its configuration space to be set up
anew (19 R625). -/
def cfgWrite (s : State) (pf1 : Bool) (a : Nat) (v : Word) (be : BitVec 4) : State :=
  let cfg := s.cfgOf pf1
  let old := Tab.get PciCfg.resetOf cfg a
  let take := BitVec.ofNat 32 (PciCfg.writable pf1 a &&& PciCfg.enabled be)
  let full := (old &&& ~~~take) ||| (v &&& take)
  let new := BitVec.ofNat 32 (PciCfg.norm a old.toNat full.toNat)
  if a = 0x44 ∧ d3hot cfg ∧ new.toNat % 4 = 0 then s.setCfg pf1 []
  else s.setCfg pf1 (Tab.put PciCfg.resetOf cfg a new)

/-! ### The MSI-X table and PBA (16 R560; 19 R622) -/

/-- A word of the table after reset: every vector masked (log entry 9). -/
def msixReset (a : Nat) : Word := if a % 16 = 12 then 1 else 0

/-- The bits of a table word a write reaches. -/
def msixMask (a : Nat) : Word := if a % 16 = 0 then 0xFFFFFFFC else if a % 16 = 12 then 1 else 0xFFFFFFFF

/-- What a word of BAR2 reads. -/
def bar2Read (s : State) (a : Nat) : Word :=
  if a < 0x1000 then Tab.get msixReset s.pcie.msix a
  else if 0x2000 ≤ a ∧ a < 0x2020 then BitVec.ofNat 32 (field s.evt.pba.toNat (8 * (a - 0x2000)) 32)
  else 0

/-- A write of a word of BAR2. -/
def bar2Write (s : State) (a : Nat) (v : Word) : State :=
  if a < 0x1000 then { s with pcie := { s.pcie with msix := Tab.put msixReset s.pcie.msix a (v &&& msixMask a) } }
  else s

/-- Whether an access to BAR2 answers: it has no place among those that do in bring-up, under a LOCK or under
a C4 fault (19 R624). -/
def bar2Answers (s : State) : Bool := s.running && !s.shut && s.evt.c4.isNone

/-- Whether PF0's endpoint serves memory requests. -/
def pf0Serves (s : State) : Bool := s.reaches .pf0 0

/-! ### A write by its register (00 R13–R16) -/

/-- A write that reaches stored fields alone, and CLR_COUNTS. -/
def writePlain (s : State) (a : Nat) (v : Word) : State :=
  let t := s.storeReg a v
  match Reg.clears a with
  | some (b, _) => if v.getLsbD b then t.clearCounts a else t
  | none => t

/-- `f` where a written bit is 1; the write has no other effect. -/
def onBit (s : State) (v : Word) (b : Nat) (f : State → State) : State := if v.getLsbD b then f s else s

/-- The event-pending bits a write of 1 clears (16 R559). -/
def clearPending (s : State) (a : Nat) (v : Word) : State :=
  let m := (v.setWidth 256) <<< (8 * (a - Reg.evtPending))
  { s with evt := { s.evt with pending := s.evt.pending &&& ~~~m } }

/-- Writes of the identity, power, warden, levee and key blocks. -/
def writeLow (s : State) (a : Nat) (v : Word) : State :=
  let n := v.toNat
  if a = Reg.idnControl then s.onBit v 0 (fun s => s.warmReset.refreshWaits)
  else if a = Reg.idnApply then s.applyWrite (v.getLsbD 0) (v.getLsbD 1)
  else if a = Reg.pwrControl then s.pwrControlWrite v
  else if a = Reg.wrdControl then s.onBit v 0 State.handover
  else if a = Reg.evtAck then s.ackSource (n % 256)
  else if a = Reg.evtHistPop then s.onBit v 0 State.histPop
  else if a = Reg.wrdPairCfg then s.pairEnable v
  else if a = Reg.wrdPairCmd then s.onBit v 0 State.switch
  else if a = Reg.wrdFleet then s.fleet v
  else if Reg.evtPending ≤ a ∧ a < Reg.evtMask then s.clearPending a v
  else if a = Reg.levCmd then s.levBegin (n % 4)
  else if Reg.levTampLimits ≤ a ∧ a < Reg.levTampLimits + 40 then
    s.writeSetting ((a - Reg.levTampLimits) / 8 + 1) (decide ((a - Reg.levTampLimits) % 8 = 4)) n
  else if a = Reg.levUnlCtrl then s.unlCommand (n % 4) v
  else if a = Reg.keyCmd then s.keyBegin (n % 256)
  else if a = Reg.keySlotSel then (s.storeReg a v).slotSnapshot (n % 1024)
  else s.writePlain a v

/-- Writes of the time block. -/
def writeTim (s : State) (a : Nat) (v : Word) : State :=
  if a = Reg.timSnap then s.snap v
  else if a = Reg.timTsqPop then s.onBit v 0 State.tsqPop
  else if Reg.timBase ≤ a ∧ a < Reg.timPulse ∧ (a - Reg.timBase) % 0x20 = 0x14 then
    s.applyBase ((a - Reg.timBase) / 0x20) (v.toNat % 8)
  else if Reg.timPulse ≤ a ∧ a < Reg.timCap ∧ (a - Reg.timPulse) % 0x40 = 0 then
    s.pulseWrite ((a - Reg.timPulse) / 0x40) v
  else if a = Reg.timCap + 8 then s.onBit v 0 (fun s => s.capPop 0)
  else if a = Reg.timCap + 0x48 then s.onBit v 0 (fun s => s.capPop 1)
  else s.writePlain a v

/-- Writes of lane, port and trunk windows. -/
def writeLink (s : State) (a : Nat) (v : Word) : State :=
  if Reg.isLane a ∧ a % 0x400 = 0x10 then s.laneWrite (laneAt a) v
  else if 0x0400000 ≤ a ∧ a < 0x0410000 ∧ a % 0x400 = 8 then s.portWrite (decide (0x0408000 ≤ a)) (a % 0x8000 / 0x400) v
  else if 0x0500000 ≤ a ∧ a < 0x0508800 ∧ a % 0x400 = 8 then
    let n := (a - 0x0500000) / 0x400
    let t := s.onBit v 8 (fun s => s.framerClear n)
    t.onBit v 0 (fun s => s.forceHunt n)
  else if 0x0500000 ≤ a ∧ a < 0x0508800 ∧ a % 0x400 = 4 then (s.storeReg a v).stoppedFramers
  else if 0x0510000 ≤ a ∧ a < 0x0520000 ∧ a % 16 = 0 then s.circuitWrite ((a - 0x0510000) / 16) v
  else s.writePlain a v

/-- A CLS_ENSIGN_CMD write (07 R293). -/
def ensignCommand (s : State) (v : Word) : State :=
  let c := v.toNat / 2 ^ 28
  if c = 1 then s.openEnsign (v.toNat % 4096)
  else if c = 2 then s.commitEnsign
  else if c = 3 then s.abandonEnsign
  else s.ensignResult (if s.cls.ensignBusy then 0x01 else 0x65)

/-- A LKP_ACC_CMD write (09 R372); a code not listed is refused with no other effect (00 R653). -/
def lookupCommand (s : State) (c : Nat) : State :=
  if 1 ≤ c ∧ c ≤ 5 then s.lkpBegin c else s.lkpRefused (if s.lkp.cmd.isSome then 0x01 else 0x65)

/-- A PLD_ACC_CMD write (08 R341). -/
def polderCommand (s : State) (c : Nat) : State :=
  if 1 ≤ c ∧ c ≤ 6 then s.pldBegin c else s.pldResult (if s.pldAcc.isSome then 0x01 else 0x65)

/-- Writes of the classifier, lookup and association blocks. -/
def writeMid (s : State) (a : Nat) (v : Word) : State :=
  let n := v.toNat
  if a = Reg.clsEnsignCmd then s.ensignCommand v
  else if a = Reg.clsAccCmd then s.clsBegin (n % 16)
  else if a = Reg.clsControl then (s.storeReg a v).onBit v 16 State.clsClear
  else if a = Reg.lkpAccCmd then s.lookupCommand (n % 8)
  else if a = Reg.lkpLqPop then s.onBit v 0 State.lqPop
  else if a = Reg.chnCmd then s.chBegin (n % 256)
  else if a = Reg.chnNotePop then s.onBit v 0 State.notePop
  else if Reg.chnPolicy ≤ a ∧ a < Reg.chnPolicy + 128 then
    let t := s.storeReg a v
    { t with key := { t.key with digestPending := true } }
  else s.writePlain a v

/-- Writes of the cipher, HBM, performance, polder and mailbox blocks. -/
def writeHigh (s : State) (a : Nat) (v : Word) : State :=
  let n := v.toNat
  if a = Reg.cphTestCtrl then s.testStart v
  else if a = Reg.pmuControl then s.pmuControlWrite v
  else if a = Reg.pmuRingCtrl then s.ringEnable v
  else if a = Reg.pmuRingPop then s.onBit v 0 State.ringPop
  else if a = Reg.pldAccCmd then s.polderCommand (n % 16)
  else if a = Reg.pldCntIndex then (s.storeReg a v).cntSnapshot
  else if Reg.stwReq ≤ a ∧ a < Reg.stwRsp then (if s.mbxPcie.busy then s else s.storeReg a v)
  else if a = Reg.stwDoorbell then s.onBit v 0 State.doorbell
  else if a = Reg.stwStatus then s.onBit v 1 (fun s => { s with mbxPcie := { s.mbxPcie with rspReady := false } })
  else s.writePlain a v

/-- A write that takes effect, by its register. -/
def regWrite (s : State) (a : Nat) (v : Word) : State :=
  if s.hidden a then s
  else if a < 0x0100000 then s.writeLow a v
  else if a < 0x0200000 then s.writeTim a v
  else if a < 0x0600000 then s.writeLink a v
  else if a < 0x0C00000 then s.writeMid a v
  else s.writeHigh a v

/-! ### I²C (19 R634, R635) -/

/-- I2C_PROTOCOL: the transaction is discarded. -/
def i2cBad (s : State) : State := s.cause Reg.idnEvent 7 255 0

/-- The status and bytes a command returns. -/
def i2cAnswer (s : State) (status : Nat) (data : Bytes) : State := { s with bus := { s.bus with status := status, bytes := data } }

/-- The first address past the window of an address I²C reaches. -/
def i2cEnd (a : Nat) : Nat := if a < 0x100 then 0x100 else 0x00301E4

/-- The refusal of an access to `n` words from an address: BAD_INDEX outside the windows, and the state of 19
R631 in which a register of a window does not answer. -/
def i2cRefusal (s : State) (a n : Nat) : Option Nat :=
  if i2cAddr a = false ∨ a % 4 ≠ 0 ∨ i2cEnd a < a + 4 * n then some 0x46
  else if (List.range n).all (fun k => s.answers (a + 4 * k)) then none
  else if s.evt.c4.isSome then some 0x67
  else if s.running ∨ s.lev.locked then some 0x55
  else some 0x64

/-- `n` registers read in turn, each value big-endian. -/
def i2cWords (s : State) (a : Nat) : Nat → Bytes × State
  | 0 => ([], s)
  | n + 1 =>
    let (w, t) := s.readReg .i2c a
    let (l, u) := i2cWords t (a + 4) n
    (beBytes 4 w.toNat ++ l, u)

/-- READ. -/
def i2cRead (s : State) (a n : Nat) : State :=
  if n = 0 ∨ 16 < n then s.i2cBad
  else
    match s.i2cRefusal a n with
    | some r => s.i2cAnswer r []
    | none =>
      let (l, t) := s.i2cWords a n
      t.i2cAnswer 0 l

/-- WRITE. -/
def i2cWrite (s : State) (a : Nat) (v : Word) : State :=
  match s.i2cRefusal a 1 with
  | some r => s.i2cAnswer r []
  | none => (if s.takes a then s.regWrite a v else s).i2cAnswer 0 []

/-- MBX_SEND. -/
def i2cSend (s : State) (msg : Bytes) : State :=
  if msg.length < 16 ∨ 4096 < msg.length then s.i2cBad
  else if s.mbxI2c.busy then s.accErr.i2cAnswer 0x01 []
  else (s.mbxTake .i2c msg).i2cAnswer 0 []

/-- MBX_RECV. -/
def i2cRecv (s : State) : State :=
  if s.mbxI2c.busy then s.i2cAnswer 0x01 []
  else s.i2cAnswer 0 (if s.mbxI2c.rsp.isEmpty then zeros 16 else s.mbxI2c.rsp)

/-! ### Accesses by requester -/

/-- A write by a requester of an aligned word of its window; one with partial byte enables is discarded without
any effect (00 R11). -/
def write (s : State) (r : Req) (a : Nat) (be : BitVec 4) (v : Word) : State :=
  if be ≠ 15 then s
  else
    match r with
    | .pf1 => s.observer (a - 0x0E00000) true
    | .pf0Bar2 =>
      if s.pf0Serves = false then s
      else if s.bar2Answers = false then s.accErr
      else s.bar2Write a v
    | _ => s.wr r a (fun s => s.regWrite a v)

/-- A read by a requester of an aligned word of its window. -/
def read (s : State) (r : Req) (a : Nat) : State :=
  match r with
  | .pf1 => s.observer (a - 0x0E00000) false
  | .pf0Bar2 =>
    if s.pf0Serves = false then s
    else if s.bar2Answers = false then s.accErr.answer 0xFFFFFFFF
    else s.answer (s.bar2Read a)
  | _ => s.rd r a

/-- An aligned address of the requester's window: PF0 BAR0, its BAR2 of 16 KiB, PF1's observer window as PF0
addresses (19 R619, R622, R623). -/
def inWindow (r : Req) (a : Nat) : Bool :=
  match r with
  | .pf1 => decide (a % 4 = 0 ∧ 0x0E00000 ≤ a ∧ a < 0x0E10000)
  | .pf0Bar2 => decide (a % 4 = 0 ∧ a < 0x4000)
  | _ => Reg.okAddr a

/-- The endpoint answers configuration requests: out of reset, and bring-up past POWER_OK (03 R93). -/
def cfgAnswers (s : State) : Bool := !s.pcie.perst && decide (s.boot.state ≠ .powerOk)

/-- The link's state as the endpoint reports it; PCIE_LINK where it came up or went down (19 R626, R636). -/
def linkChange (s : State) (up : Bool) (w sp : Nat) : State :=
  let t := { s with pcie := { s.pcie with up := up, width := if up then w else 0, speed := if up then sp else 0 } }
  if up = s.pcie.up then t else t.cause Reg.idnEvent 6 254 0

end State

/-- REGISTER_WRITE (00 R11, R13). -/
def execRegisterWrite (r : Req) (addr : Nat) (be : BitVec 4) (v : Word) (s : State) : Out :=
  if State.inWindow r addr then .next (s.write r addr be v) else .refused (.badAddress addr)

/-- REGISTER_READ (00 R12; 03 R91). -/
def execRegisterRead (r : Req) (addr : Nat) (s : State) : Out :=
  if State.inWindow r addr then .next (s.read r addr) else .refused (.badAddress addr)

/-- PCIE_CONFIG_REQUEST (03 R93; 19 R620, R622). -/
def execPcieConfigRequest (pf1 write : Bool) (addr : Nat) (v : Word) (be : BitVec 4) (s : State) : Out :=
  if addr % 4 = 0 ∧ addr < 4096 then
    if s.cfgAnswers = false then .next s
    else if write then .next (s.cfgWrite pf1 addr v be)
    else .next (s.answer (s.cfgRead pf1 addr))
  else .refused (.badAddress addr)

/-- PCIE_LINK_CHANGE (19 R636): a width or speed the endpoint does not support is none it reaches (19 R620). -/
def execPcieLinkChange (up : Bool) (width speed : Fin 16) (s : State) : Out :=
  if up ∧ ¬((width.val = 1 ∨ width.val = 2 ∨ width.val = 4) ∧ 1 ≤ speed.val ∧ speed.val ≤ 4) then .next s
  else .next (s.linkChange up width.val speed.val)

/-- PERST_N_DEASSERT (03 R93). -/
def execPerstNDeassert (s : State) : Out := .next { s with pcie := { s.pcie with perst := false } }

/-- READ (19 R635). -/
def execI2cRead (addr count : Nat) (s : State) : Out := .next (s.i2cRead addr count)

/-- WRITE (19 R635). -/
def execI2cWrite (addr : Nat) (v : Word) (s : State) : Out := .next (s.i2cWrite addr v)

/-- MBX_SEND (19 R635). -/
def execI2cMbxSend (msg : Bytes) (s : State) : Out := .next (s.i2cSend msg)

/-- MBX_RECV (19 R635). -/
def execI2cMbxRecv (s : State) : Out := .next s.i2cRecv

/-- I2C_PROTOCOL_ERROR (19 R635). -/
def execI2cProtocolError (s : State) : Out := .next s.i2cBad

end Sys2Proof.Machine
end

