-- ==== Sys2Proof/Machine/Dispatch.lean ====
section
/-! DEFINITION. Every command sent to its meaning, one arm each. -/

namespace Sys2Proof.Machine

/-- The effect of a command on everything but the queue. -/
def exec (i : Instr) (s : State) : Host.Outcome State Fault Refusal :=
  match i with
  | .porNAssert => Sys2Proof.Machine.execPorNAssert s
  | .bothFeedsLost => Sys2Proof.Machine.execBothFeedsLost s
  | .feedPresent f => Sys2Proof.Machine.execFeedPresent f s
  | .feedAbsent f => Sys2Proof.Machine.execFeedAbsent f s
  | .feedSample va vb ia ib => Sys2Proof.Machine.execFeedSample va vb ia ib s
  | .shedUp => Sys2Proof.Machine.execShedUp s
  | .shedDownWaitExpiry level => Sys2Proof.Machine.execShedDownWaitExpiry level s
  | .minLevelWrite r v => Sys2Proof.Machine.execMinLevelWrite r v s
  | .feedOvercurrentTimeout f => Sys2Proof.Machine.execFeedOvercurrentTimeout f s
  | .refclkSysLost => Sys2Proof.Machine.execRefclkSysLost s
  | .refclkSysRestored => Sys2Proof.Machine.execRefclkSysRestored s
  | .refclkSideLost d => Sys2Proof.Machine.execRefclkSideLost d s
  | .refclkSideRestored d => Sys2Proof.Machine.execRefclkSideRestored d s
  | .regulatorFault rail => Sys2Proof.Machine.execRegulatorFault rail s
  | .warmReset r => Sys2Proof.Machine.execWarmReset r s
  | .perstNAssert => Sys2Proof.Machine.execPerstNAssert s
  | .powerOkExit board aOk bOk rails porHigh => Sys2Proof.Machine.execPowerOkExit board aOk bOk s rails porHigh
  | .leveeCheckDone upset => Sys2Proof.Machine.execLeveeCheckDone s upset
  | .imageFetchDone => Sys2Proof.Machine.execImageFetchDone s
  | .flashReadTimeout addr => Sys2Proof.Machine.execFlashReadTimeout s addr
  | .imageAuthDone => Sys2Proof.Machine.execImageAuthDone s
  | .keyUnsealDone katOk nonceOk => Sys2Proof.Machine.execKeyUnsealDone katOk nonceOk s
  | .hbmTrainDone ok => Sys2Proof.Machine.execHbmTrainDone ok s
  | .laneBringupDone => Sys2Proof.Machine.execLaneBringupDone s
  | .laneBringupTimeout => Sys2Proof.Machine.execLaneBringupTimeout s
  | .enginesLoadDone bad => Sys2Proof.Machine.execEnginesLoadDone bad s
  | .bringupStateTimeout => Sys2Proof.Machine.execBringupStateTimeout s
  | .imgStage m => Sys2Proof.Machine.execImgStage m s
  | .imgApply m => Sys2Proof.Machine.execImgApply m s
  | .imgApplyStepDone => Sys2Proof.Machine.execImgApplyStepDone s
  | .unitRetire m => Sys2Proof.Machine.execUnitRetire m s
  | .unitReturn m ok => Sys2Proof.Machine.execUnitReturn m ok s
  | .unitRecal m => Sys2Proof.Machine.execUnitRecal m s
  | .laneWake l pllOk => Sys2Proof.Machine.execLaneWake l pllOk s
  | .laneSignalDetect l => Sys2Proof.Machine.execLaneSignalDetect l s
  | .fomWindow l eye done prbs => Sys2Proof.Machine.execFomWindow l eye done s prbs
  | .coeffRequestRx l tap up => Sys2Proof.Machine.execCoeffRequestRx l tap up s
  | .trainTimeout l => Sys2Proof.Machine.execTrainTimeout l s
  | .wordLockAcquired l => Sys2Proof.Machine.execWordLockAcquired l s
  | .lockTimeout l => Sys2Proof.Machine.execLockTimeout l s
  | .capabilityWordAssembled l => Sys2Proof.Machine.execCapabilityWordAssembled l s
  | .exchangeTimeout l => Sys2Proof.Machine.execExchangeTimeout l s
  | .signalLoss l => Sys2Proof.Machine.execSignalLoss l s
  | .bitLockLoss l => Sys2Proof.Machine.execBitLockLoss l s
  | .wordLockLoss l => Sys2Proof.Machine.execWordLockLoss l s
  | .fomUpdate l eye prbs => Sys2Proof.Machine.execFomUpdate l eye s prbs
  | .pllLockFail l => Sys2Proof.Machine.execPllLockFail l s
  | .laneCalMeasureDone l tx rx inRange => Sys2Proof.Machine.execLaneCalMeasureDone l tx rx inRange s
  | .laneCalTempUpdate l tx rx => Sys2Proof.Machine.execLaneCalTempUpdate l tx rx s
  | .markerSend l phase => Sys2Proof.Machine.execMarkerSend l phase s
  | .markerReceived l syms occupancy => Sys2Proof.Machine.execMarkerReceived l syms occupancy s
  | .elasticBufferSlip l => Sys2Proof.Machine.execElasticBufferSlip l s
  | .lanePatternWrite r l v => Sys2Proof.Machine.execLanePatternWrite r l v s
  | .laneNearLoopWrite r l v => Sys2Proof.Machine.execLaneNearLoopWrite r l v s
  | .laneClrCounts l => Sys2Proof.Machine.execLaneClrCounts l s
  | .fomRead r l => Sys2Proof.Machine.execFomRead r l s
  | .peerCapHiRead r l => Sys2Proof.Machine.execPeerCapHiRead r l s
  | .frameArrival p dec phase lane bytes word => Sys2Proof.Machine.execFrameArrival p dec phase lane bytes s word
  | .portFrameRx id errored fec => Sys2Proof.Machine.execPortFrameRx id errored s fec
  | .pcsLockChange d n pcs fec => Sys2Proof.Machine.execPcsLockChange d n pcs fec s
  | .localFaultRx d n on => Sys2Proof.Machine.execLocalFaultRx d n on s
  | .remoteFaultRx d n on => Sys2Proof.Machine.execRemoteFaultRx d n on s
  | .hiSer d n => Sys2Proof.Machine.execHiSer d n s
  | .portClrCounts d n => Sys2Proof.Machine.execPortClrCounts d n s
  | .pcsLoopWrite r d n v => Sys2Proof.Machine.execPcsLoopWrite r d n v s
  | .counterLoRead r addr => Sys2Proof.Machine.execCounterLoRead r addr s
  | .deskewFail n => Sys2Proof.Machine.execDeskewFail n s
  | .trunkHeaderCheck n more => Sys2Proof.Machine.execTrunkHeaderCheck n more s
  | .forceHunt n => Sys2Proof.Machine.execForceHunt n s
  | .trkClrCounts n => Sys2Proof.Machine.execTrkClrCounts n s
  | .monitorSend n => Sys2Proof.Machine.execMonitorSend n s
  | .monitorRx n payload => Sys2Proof.Machine.execMonitorRx n payload s
  | .pmSecondClose n => Sys2Proof.Machine.execPmSecondClose n s
  | .circuitEnableWrite r c v => Sys2Proof.Machine.execCircuitEnableWrite r c v s
  | .playoutInstant c => Sys2Proof.Machine.execPlayoutInstant c s
  | .playoutEmit c => Sys2Proof.Machine.execPlayoutEmit c s
  | .classifierHandoff id err => Sys2Proof.Machine.execClassifierHandoff id err s
  | .ensOpen num => Sys2Proof.Machine.execEnsOpen num s
  | .openingDone => Sys2Proof.Machine.execOpeningDone s
  | .ensCommit => Sys2Proof.Machine.execEnsCommit s
  | .ensAbandon => Sys2Proof.Machine.execEnsAbandon s
  | .ensignDrained slot => Sys2Proof.Machine.execEnsignDrained slot s
  | .sweepDone => Sys2Proof.Machine.execSweepDone s
  | .clsRead => Sys2Proof.Machine.execClsRead s
  | .clsWrite => Sys2Proof.Machine.execClsWrite s
  | .clsJoin => Sys2Proof.Machine.execClsJoin s
  | .clsLeave => Sys2Proof.Machine.execClsLeave s
  | .clsRepair => Sys2Proof.Machine.execClsRepair s
  | .clsClear => Sys2Proof.Machine.execClsClear s
  | .clsAccessDone => Sys2Proof.Machine.execClsAccessDone s
  | .clsClrCounts => Sys2Proof.Machine.execClsClrCounts s
  | .clsScrubVisit store slot index err => Sys2Proof.Machine.execClsScrubVisit store slot index err s
  | .dispatch id => Sys2Proof.Machine.execDispatch id s
  | .wNop e => Sys2Proof.Machine.execWNop e s
  | .wLdc e => Sys2Proof.Machine.execWLdc e s
  | .wStc e => Sys2Proof.Machine.execWStc e s
  | .wMov e => Sys2Proof.Machine.execWMov e s
  | .wLdi e => Sys2Proof.Machine.execWLdi e s
  | .wLdh e => Sys2Proof.Machine.execWLdh e s
  | .wSel e => Sys2Proof.Machine.execWSel e s
  | .wAdd e => Sys2Proof.Machine.execWAdd e s
  | .wSub e => Sys2Proof.Machine.execWSub e s
  | .wAnd e => Sys2Proof.Machine.execWAnd e s
  | .wOr e => Sys2Proof.Machine.execWOr e s
  | .wXor e => Sys2Proof.Machine.execWXor e s
  | .wShl e => Sys2Proof.Machine.execWShl e s
  | .wShr e => Sys2Proof.Machine.execWShr e s
  | .wCmp e => Sys2Proof.Machine.execWCmp e s
  | .wAddi e => Sys2Proof.Machine.execWAddi e s
  | .wSubi e => Sys2Proof.Machine.execWSubi e s
  | .wAndi e => Sys2Proof.Machine.execWAndi e s
  | .wOri e => Sys2Proof.Machine.execWOri e s
  | .wXori e => Sys2Proof.Machine.execWXori e s
  | .wShli e => Sys2Proof.Machine.execWShli e s
  | .wShri e => Sys2Proof.Machine.execWShri e s
  | .wCmpi e => Sys2Proof.Machine.execWCmpi e s
  | .wCsum e => Sys2Proof.Machine.execWCsum e s
  | .wTst e => Sys2Proof.Machine.execWTst e s
  | .wBr e => Sys2Proof.Machine.execWBr e s
  | .wBbit e => Sys2Proof.Machine.execWBbit e s
  | .wBtab e => Sys2Proof.Machine.execWBtab e s
  | .wLki e parity => Sys2Proof.Machine.execWLki e parity s
  | .wLkw e => Sys2Proof.Machine.execWLkw e s
  | .wPat e => Sys2Proof.Machine.execWPat e s
  | .wBind e parity => Sys2Proof.Machine.execWBind e parity s
  | .wBindc e => Sys2Proof.Machine.execWBindc e s
  | .wVerd e => Sys2Proof.Machine.execWVerd e s
  | .wCnt e => Sys2Proof.Machine.execWCnt e s
  | .wEmit e => Sys2Proof.Machine.execWEmit e s
  | .wTime e => Sys2Proof.Machine.execWTime e s
  | .wLrn e => Sys2Proof.Machine.execWLrn e s
  | .engineBudgetEnd id keyFault => Sys2Proof.Machine.execEngineBudgetEnd id keyFault s
  | .hbmRequestGrant => Sys2Proof.Machine.execHbmRequestGrant s
  | .hbmResultArrive e c bad fixed => Sys2Proof.Machine.execHbmResultArrive e c bad s fixed
  | .contextResume e => Sys2Proof.Machine.execContextResume e s
  | .farBindAnswer e c err => Sys2Proof.Machine.execFarBindAnswer e c err s
  | .cacheWriteBack cell => Sys2Proof.Machine.execCacheWriteBack s cell
  | .farHoldRelease id keyFault bad => Sys2Proof.Machine.execFarHoldRelease id keyFault s bad
  | .storeScrub p addr err => Sys2Proof.Machine.execStoreScrub p addr err s
  | .engineParityError e inRegs => Sys2Proof.Machine.execEngineParityError e inRegs s
  | .polderFailure p => Sys2Proof.Machine.execPolderFailure p s
  | .pldRead => Sys2Proof.Machine.execPldRead s
  | .pldWrite => Sys2Proof.Machine.execPldWrite s
  | .pldJoin => Sys2Proof.Machine.execPldJoin s
  | .pldLeave => Sys2Proof.Machine.execPldLeave s
  | .pldRepair => Sys2Proof.Machine.execPldRepair s
  | .pldMark => Sys2Proof.Machine.execPldMark s
  | .pldAccessDone => Sys2Proof.Machine.execPldAccessDone s
  | .pldCntSnapshot v => Sys2Proof.Machine.execPldCntSnapshot v s
  | .arbMaxRead r => Sys2Proof.Machine.execArbMaxRead r s
  | .pldClrCounts p => Sys2Proof.Machine.execPldClrCounts p s
  | .pldArrayClrCounts => Sys2Proof.Machine.execPldArrayClrCounts s
  | .learnReportApply => Sys2Proof.Machine.execLearnReportApply s
  | .learnWriteDone => Sys2Proof.Machine.execLearnWriteDone s
  | .agerBucketVisit t bucket => Sys2Proof.Machine.execAgerBucketVisit t bucket s
  | .lkpRead => Sys2Proof.Machine.execLkpRead s
  | .lkpInsert => Sys2Proof.Machine.execLkpInsert s
  | .lkpDelete => Sys2Proof.Machine.execLkpDelete s
  | .lkpLookup => Sys2Proof.Machine.execLkpLookup s
  | .lkpWrite => Sys2Proof.Machine.execLkpWrite s
  | .lkpCommandDone => Sys2Proof.Machine.execLkpCommandDone s
  | .lkpLqPop => Sys2Proof.Machine.execLkpLqPop s
  | .lkpClrCounts => Sys2Proof.Machine.execLkpClrCounts s
  | .chnCreate port => Sys2Proof.Machine.execChnCreate port s
  | .chnDestroy port => Sys2Proof.Machine.execChnDestroy port s
  | .chnRead port => Sys2Proof.Machine.execChnRead port s
  | .chnReadSlots port => Sys2Proof.Machine.execChnReadSlots port s
  | .chnLoad port => Sys2Proof.Machine.execChnLoad port s
  | .chnErase port => Sys2Proof.Machine.execChnErase port s
  | .chnSetMark port => Sys2Proof.Machine.execChnSetMark port s
  | .chnClearMark port => Sys2Proof.Machine.execChnClearMark port s
  | .chnSetPn port => Sys2Proof.Machine.execChnSetPn port s
  | .chnSetWindow port => Sys2Proof.Machine.execChnSetWindow port s
  | .chnClearCounters port => Sys2Proof.Machine.execChnClearCounters port s
  | .chnCommandDone n err cell => Sys2Proof.Machine.execChnCommandDone n s err cell
  | .rxDecision id => Sys2Proof.Machine.execRxDecision id s
  | .keyGenerationRelease handle an keyGen => Sys2Proof.Machine.execKeyGenerationRelease handle an keyGen s
  | .indexRelease far index => Sys2Proof.Machine.execIndexRelease far index s
  | .invalidationSweepVisit far index => Sys2Proof.Machine.execInvalidationSweepVisit far index s
  | .chnNotePop => Sys2Proof.Machine.execChnNotePop s
  | .chnClrCounts => Sys2Proof.Machine.execChnClrCounts s
  | .frameDepart id => Sys2Proof.Machine.execFrameDepart id s
  | .stewardInject p dec bytes => Sys2Proof.Machine.execStewardInject p dec bytes s
  | .cipherRoundBoundary => Sys2Proof.Machine.execCipherRoundBoundary s
  | .pipeGroupWakeDone g bad => Sys2Proof.Machine.execPipeGroupWakeDone g bad s
  | .pipeCheckError p kat held => Sys2Proof.Machine.execPipeCheckError p kat held s
  | .cphTestStart v => Sys2Proof.Machine.execCphTestStart v s
  | .cphTestDone => Sys2Proof.Machine.execCphTestDone s
  | .cphClrCounts => Sys2Proof.Machine.execCphClrCounts s
  | .domainImport port => Sys2Proof.Machine.execDomainImport port s
  | .domainUnwrap port => Sys2Proof.Machine.execDomainUnwrap port s
  | .domainDerive port => Sys2Proof.Machine.execDomainDerive port s
  | .domainGenerate port => Sys2Proof.Machine.execDomainGenerate port s
  | .assocGenerate port => Sys2Proof.Machine.execAssocGenerate port s
  | .domainInvalidate port => Sys2Proof.Machine.execDomainInvalidate port s
  | .keyAttest port => Sys2Proof.Machine.execKeyAttest port s
  | .keyCommandDone n cellFault => Sys2Proof.Machine.execKeyCommandDone n cellFault s
  | .domainKeyDestroy slot gen => Sys2Proof.Machine.execDomainKeyDestroy slot gen s
  | .cellRemask => Sys2Proof.Machine.execCellRemask s
  | .drbgReseed => Sys2Proof.Machine.execDrbgReseed s
  | .noiseHealthFail => Sys2Proof.Machine.execNoiseHealthFail s
  | .drbgReinstantiate ok => Sys2Proof.Machine.execDrbgReinstantiate ok s
  | .katPeriodic ok => Sys2Proof.Machine.execKatPeriodic ok s
  | .configDigestRecompute => Sys2Proof.Machine.execConfigDigestRecompute s
  | .keySlotSnapshot v => Sys2Proof.Machine.execKeySlotSnapshot v s
  | .keyClrCounts => Sys2Proof.Machine.execKeyClrCounts s
  | .levSetRtc => Sys2Proof.Machine.execLevSetRtc s
  | .levLogRead => Sys2Proof.Machine.execLevLogRead s
  | .levCommandDone => Sys2Proof.Machine.execLevCommandDone s
  | .sensorSample a b => Sys2Proof.Machine.execSensorSample a b s
  | .tamperInLow => Sys2Proof.Machine.execTamperInLow s
  | .leveeSecondEnd => Sys2Proof.Machine.execLeveeSecondEnd s
  | .vbatLow => Sys2Proof.Machine.execVbatLow s
  | .vbatWarn => Sys2Proof.Machine.execVbatWarn s
  | .xt32Fail => Sys2Proof.Machine.execXt32Fail s
  | .xt32Recover => Sys2Proof.Machine.execXt32Recover s
  | .tamperSettingsWrite src filter v => Sys2Proof.Machine.execTamperSettingsWrite src filter v s
  | .unlStart v => Sys2Proof.Machine.execUnlStart v s
  | .unlRespond v => Sys2Proof.Machine.execUnlRespond v s
  | .unlCancel v => Sys2Proof.Machine.execUnlCancel v s
  | .unlockCheckDone => Sys2Proof.Machine.execUnlockCheckDone s
  | .challengeExpiry => Sys2Proof.Machine.execChallengeExpiry s
  | .configWindowClose => Sys2Proof.Machine.execConfigWindowClose s
  | .jtagReset => Sys2Proof.Machine.execJtagReset s
  | .jtagBypass code => Sys2Proof.Machine.execJtagBypass s code
  | .jtagIdcode => Sys2Proof.Machine.execJtagIdcode s
  | .jtagOpen trst => Sys2Proof.Machine.execJtagOpen trst s
  | .debugGateRelease => Sys2Proof.Machine.execDebugGateRelease s
  | .timSet b => Sys2Proof.Machine.execTimSet b s
  | .timStep b => Sys2Proof.Machine.execTimStep b s
  | .timRate b => Sys2Proof.Machine.execTimRate b s
  | .timStepRate b => Sys2Proof.Machine.execTimStepRate b s
  | .timSnap v => Sys2Proof.Machine.execTimSnap v s
  | .timTsqPop => Sys2Proof.Machine.execTimTsqPop s
  | .timCapPop j => Sys2Proof.Machine.execTimCapPop j s
  | .timClrCounts => Sys2Proof.Machine.execTimClrCounts s
  | .pulseEnableWrite r k v => Sys2Proof.Machine.execPulseEnableWrite r k v s
  | .pulseEdge k => Sys2Proof.Machine.execPulseEdge k s
  | .captureEdge j rising phase => Sys2Proof.Machine.execCaptureEdge j rising phase s
  | .hbmScrubLine line err collide => Sys2Proof.Machine.execHbmScrubLine line err collide s
  | .hbmSelfRefreshEntry cached => Sys2Proof.Machine.execHbmSelfRefreshEntry s cached
  | .hbmWakeDone => Sys2Proof.Machine.execHbmWakeDone s
  | .stackHot temp => Sys2Proof.Machine.execStackHot temp s
  | .pcFailed p => Sys2Proof.Machine.execPcFailed p s
  | .hbmClrCounts => Sys2Proof.Machine.execHbmClrCounts s
  | .msixSend n => Sys2Proof.Machine.execMsixSend n s
  | .evtAck src => Sys2Proof.Machine.execEvtAck src s
  | .escalation src => Sys2Proof.Machine.execEscalation src s
  | .evtHistPop => Sys2Proof.Machine.execEvtHistPop s
  | .evtClrCounts => Sys2Proof.Machine.execEvtClrCounts s
  | .burgeeRenew => Sys2Proof.Machine.execBurgeeRenew s
  | .wardenLeaseLapse => Sys2Proof.Machine.execWardenLeaseLapse s
  | .burgeeGuardEnd => Sys2Proof.Machine.execBurgeeGuardEnd s
  | .wardenSelfCheck w ok => Sys2Proof.Machine.execWardenSelfCheck w ok s
  | .wardenReportMissing => Sys2Proof.Machine.execWardenReportMissing s
  | .handover => Sys2Proof.Machine.execHandover s
  | .wardensLostTimeout => Sys2Proof.Machine.execWardensLostTimeout s
  | .pairEnableWrite r v => Sys2Proof.Machine.execPairEnableWrite r v s
  | .healthSend => Sys2Proof.Machine.execHealthSend s
  | .renewSend => Sys2Proof.Machine.execRenewSend s
  | .healthRx lane payload => Sys2Proof.Machine.execHealthRx lane payload s
  | .renewRx lane payload => Sys2Proof.Machine.execRenewRx lane payload s
  | .yieldRx lane payload => Sys2Proof.Machine.execYieldRx lane payload s
  | .claimRx lane payload => Sys2Proof.Machine.execClaimRx lane payload s
  | .stoppedRx lane payload => Sys2Proof.Machine.execStoppedRx lane payload s
  | .moduleLeaseLapse => Sys2Proof.Machine.execModuleLeaseLapse s
  | .moduleGuardEnd => Sys2Proof.Machine.execModuleGuardEnd s
  | .partnerLostTimeout => Sys2Proof.Machine.execPartnerLostTimeout s
  | .startingTimeout => Sys2Proof.Machine.execStartingTimeout s
  | .claimTimeout => Sys2Proof.Machine.execClaimTimeout s
  | .yieldResend => Sys2Proof.Machine.execYieldResend s
  | .pairSwitch => Sys2Proof.Machine.execPairSwitch s
  | .fleetSet v => Sys2Proof.Machine.execFleetSet v s
  | .idnApply => Sys2Proof.Machine.execIdnApply s
  | .holdWrite hold => Sys2Proof.Machine.execHoldWrite hold s
  | .safePointApply u => Sys2Proof.Machine.execSafePointApply u s
  | .crossingTimeout x inst write r => Sys2Proof.Machine.execCrossingTimeout x inst write r s
  | .resyncDone x inst held => Sys2Proof.Machine.execResyncDone x inst held s
  | .registerWrite r addr be v => Sys2Proof.Machine.execRegisterWrite r addr be v s
  | .freezeWrite v => Sys2Proof.Machine.execFreezeWrite v s
  | .pmuClrCounts => Sys2Proof.Machine.execPmuClrCounts s
  | .pmuSelectionApply => Sys2Proof.Machine.execPmuSelectionApply s
  | .ringEnableWrite r v => Sys2Proof.Machine.execRingEnableWrite r v s
  | .pmuRingPop bad => Sys2Proof.Machine.execPmuRingPop s bad
  | .observerAccess off write v => Sys2Proof.Machine.execObserverAccess off write v s
  | .pcieConfigRequest pf1 write addr v be => Sys2Proof.Machine.execPcieConfigRequest pf1 write addr v be s
  | .pcieLinkChange up width speed => Sys2Proof.Machine.execPcieLinkChange up width speed s
  | .stwSend => Sys2Proof.Machine.execStwSend s
  | .mailboxResponse m => Sys2Proof.Machine.execMailboxResponse m s
  | .mbxIdentity m => Sys2Proof.Machine.execMbxIdentity m s
  | .mbxStatus m => Sys2Proof.Machine.execMbxStatus m s
  | .mbxFlashRead m => Sys2Proof.Machine.execMbxFlashRead m s
  | .mbxFlashWrite m ok => Sys2Proof.Machine.execMbxFlashWrite m ok s
  | .mbxFlashErase m ok => Sys2Proof.Machine.execMbxFlashErase m ok s
  | .mbxPfxAdd m => Sys2Proof.Machine.execMbxPfxAdd m s
  | .mbxPfxDelete m => Sys2Proof.Machine.execMbxPfxDelete m s
  | .mbxAttest m => Sys2Proof.Machine.execMbxAttest m s
  | .mbxUnlockStart m => Sys2Proof.Machine.execMbxUnlockStart m s
  | .mbxUnlockRespond m => Sys2Proof.Machine.execMbxUnlockRespond m s
  | .i2cRead addr count => Sys2Proof.Machine.execI2cRead addr count s
  | .i2cWrite addr v => Sys2Proof.Machine.execI2cWrite addr v s
  | .i2cMbxSend msg => Sys2Proof.Machine.execI2cMbxSend msg s
  | .i2cMbxRecv => Sys2Proof.Machine.execI2cMbxRecv s
  | .stewardWatchdog => Sys2Proof.Machine.execStewardWatchdog s
  | .perstNDeassert => Sys2Proof.Machine.execPerstNDeassert s
  | .tamperInRelease => Sys2Proof.Machine.execTamperInRelease s
  | .vbatRestored => Sys2Proof.Machine.execVbatRestored s
  | .polderWakeDone p => Sys2Proof.Machine.execPolderWakeDone p s
  | .stewardRestartDone => Sys2Proof.Machine.execStewardRestartDone s
  | .stackHotEnd temp => Sys2Proof.Machine.execStackHotEnd temp s
  | .registerRead r addr => Sys2Proof.Machine.execRegisterRead r addr s
  | .i2cProtocolError => Sys2Proof.Machine.execI2cProtocolError s
  | .counterWrap c => Sys2Proof.Machine.execCounterWrap c s

end Sys2Proof.Machine
end

