-- ==== Sys2Proof/WellFormed.lean ====
section
/-! DEFINITION. Well-formed commands: every operand within the range the spec gives it. A register number, a lane or
a slot is bounded by its type; this file bounds the numbers and byte strings. -/

namespace Sys2Proof

open Machine

/-- An address a requester can name: aligned and inside its window (00 R11; 19 R619). -/
def busAddr (r : Req) (a : Nat) : Bool :=
  match r with
  | .pf1 => decide (a % 4 = 0 ∧ 0x0E00000 ≤ a ∧ a < 0x0E10000)
  | .pf0Bar2 => decide (a % 4 = 0 ∧ a < 0x4000)
  | .pf0 | .i2c | .steward => decide (a % 4 = 0 ∧ a < 0x4000000)

/-- Whether a command's operands lie within the ranges of the spec. -/
def Instr.wf (c : Instr) : Bool :=
  match c with
  | .porNAssert | .bothFeedsLost | .feedPresent _ | .feedAbsent _ => true
  | .feedSample va vb ia ib => decide (va < 4096 ∧ vb < 4096 ∧ ia < 256 ∧ ib < 256)
  | .shedUp | .shedDownWaitExpiry _ | .minLevelWrite _ _ | .feedOvercurrentTimeout _ | .refclkSysLost
  | .refclkSysRestored | .refclkSideLost _ | .refclkSideRestored _ | .regulatorFault _ | .warmReset _
  | .perstNAssert | .powerOkExit _ _ _ _ _ | .leveeCheckDone _ | .imageFetchDone | .flashReadTimeout _
  | .imageAuthDone | .keyUnsealDone _ _ | .hbmTrainDone _ | .laneBringupDone | .laneBringupTimeout
  | .enginesLoadDone _ | .bringupStateTimeout | .imgStage _ | .imgApply _ | .imgApplyStepDone | .unitRetire _
  | .unitReturn _ _ | .unitRecal _ | .laneWake _ _ | .laneSignalDetect _ => true
  | .fomWindow _ eye _ _ => eye.wf
  | .coeffRequestRx _ _ _ | .trainTimeout _ | .wordLockAcquired _ | .lockTimeout _ | .capabilityWordAssembled _
  | .exchangeTimeout _ | .signalLoss _ | .bitLockLoss _ | .wordLockLoss _ => true
  | .fomUpdate _ eye _ => eye.wf
  | .pllLockFail _ => true
  | .laneCalMeasureDone _ tx rx _ => decide (tx < 2 ^ 32 ∧ rx < 2 ^ 32)
  | .laneCalTempUpdate _ tx rx => decide (tx < 2 ^ 32 ∧ rx < 2 ^ 32)
  | .markerSend _ phase => decide (phase < 52429)
  | .markerReceived _ _ occupancy => decide (occupancy ≤ 32)
  | .elasticBufferSlip _ | .lanePatternWrite _ _ _ | .laneNearLoopWrite _ _ _ | .laneClrCounts _ | .fomRead _ _
  | .peerCapHiRead _ _ => true
  | .frameArrival _ _ phase _ _ _ => decide (phase < 52429)
  | .portFrameRx _ _ _ | .pcsLockChange _ _ _ _ | .localFaultRx _ _ _ | .remoteFaultRx _ _ _ | .hiSer _ _
  | .portClrCounts _ _ | .pcsLoopWrite _ _ _ _ => true
  | .counterLoRead _ addr => decide (addr % 8 = 0 ∧ addr < 2 ^ 26)
  | .deskewFail _ => true
  | .trunkHeaderCheck _ more => decide (more.length ≤ 16384)
  | .forceHunt _ | .trkClrCounts _ | .monitorSend _ => true
  | .monitorRx _ payload => decide (payload.length ≤ 1023)
  | .pmSecondClose _ | .circuitEnableWrite _ _ _ | .playoutInstant _ | .playoutEmit _ | .classifierHandoff _ _
  | .ensOpen _ | .openingDone | .ensCommit | .ensAbandon | .ensignDrained _ | .sweepDone | .clsRead | .clsWrite
  | .clsJoin | .clsLeave | .clsRepair | .clsClear | .clsAccessDone | .clsClrCounts => true
  | .clsScrubVisit _ _ index _ => decide (index < 16384)
  | .dispatch _ | .wNop _ | .wLdc _ | .wStc _ | .wMov _ | .wLdi _ | .wLdh _ | .wSel _ | .wAdd _ | .wSub _ | .wAnd _
  | .wOr _ | .wXor _ | .wShl _ | .wShr _ | .wCmp _ | .wAddi _ | .wSubi _ | .wAndi _ | .wOri _ | .wXori _ | .wShli _
  | .wShri _ | .wCmpi _ | .wCsum _ | .wTst _ | .wBr _ | .wBbit _ | .wBtab _ | .wLki _ _ | .wLkw _ | .wPat _
  | .wBind _ _ | .wBindc _ | .wVerd _ | .wCnt _ | .wEmit _ | .wTime _ | .wLrn _ | .engineBudgetEnd _ _
  | .hbmRequestGrant | .hbmResultArrive _ _ _ _ | .contextResume _ | .farBindAnswer _ _ _ | .cacheWriteBack _
  | .farHoldRelease _ _ _ | .storeScrub _ _ _ | .engineParityError _ _ | .polderFailure _ | .pldRead | .pldWrite
  | .pldJoin | .pldLeave | .pldRepair | .pldMark | .pldAccessDone | .pldCntSnapshot _ | .arbMaxRead _
  | .pldClrCounts _ | .pldArrayClrCounts | .learnReportApply | .learnWriteDone => true
  | .agerBucketVisit _ bucket => decide (bucket < 262144)
  | .lkpRead | .lkpInsert | .lkpDelete | .lkpLookup | .lkpWrite | .lkpCommandDone | .lkpLqPop | .lkpClrCounts
  | .chnCreate _ | .chnDestroy _ | .chnRead _ | .chnReadSlots _ | .chnLoad _ | .chnErase _ | .chnSetMark _
  | .chnClearMark _ | .chnSetPn _ | .chnSetWindow _ | .chnClearCounters _ | .chnCommandDone _ _ _ | .rxDecision _
  | .keyGenerationRelease _ _ _ => true
  | .indexRelease far index => decide (index < if far then 2 ^ 24 else 65536)
  | .invalidationSweepVisit far index => decide (index < if far then 2 ^ 24 else 65536)
  | .chnNotePop | .chnClrCounts | .frameDepart _ => true
  | .stewardInject _ _ bytes => decide (0 < bytes.length)
  | .cipherRoundBoundary | .pipeGroupWakeDone _ _ => true
  | .pipeCheckError _ _ held => decide held.Nodup
  | .cphTestStart _ | .cphTestDone | .cphClrCounts | .domainImport _ | .domainUnwrap _ | .domainDerive _
  | .domainGenerate _ | .assocGenerate _ | .domainInvalidate _ | .keyAttest _ | .keyCommandDone _ _
  | .domainKeyDestroy _ _ | .cellRemask | .drbgReseed | .noiseHealthFail | .drbgReinstantiate _ | .katPeriodic _
  | .configDigestRecompute | .keySlotSnapshot _ | .keyClrCounts | .levSetRtc | .levLogRead | .levCommandDone
  | .sensorSample _ _ | .tamperInLow | .leveeSecondEnd | .vbatLow | .vbatWarn | .xt32Fail | .xt32Recover
  | .tamperSettingsWrite _ _ _ | .unlStart _ | .unlRespond _ | .unlCancel _ | .unlockCheckDone | .challengeExpiry
  | .configWindowClose | .jtagReset | .jtagBypass _ | .jtagIdcode | .jtagOpen _ | .debugGateRelease | .timSet _
  | .timStep _ | .timRate _ | .timStepRate _ | .timSnap _ | .timTsqPop | .timCapPop _ | .timClrCounts
  | .pulseEnableWrite _ _ _ | .pulseEdge _ => true
  | .captureEdge _ _ phase => decide (phase < 52429)
  | .hbmScrubLine line _ _ => decide (line < 0x2A40000)
  | .hbmSelfRefreshEntry _ | .hbmWakeDone => true
  | .stackHot temp => decide (85 < temp ∧ temp < 256)
  | .pcFailed _ | .hbmClrCounts | .msixSend _ | .evtAck _ | .escalation _ | .evtHistPop | .evtClrCounts
  | .burgeeRenew | .wardenLeaseLapse | .burgeeGuardEnd | .wardenSelfCheck _ _ | .wardenReportMissing | .handover
  | .wardensLostTimeout | .pairEnableWrite _ _ | .healthSend | .renewSend => true
  | .healthRx _ payload => decide (payload.length < 1024)
  | .renewRx _ payload => decide (payload.length < 1024)
  | .yieldRx _ payload => decide (payload.length < 1024)
  | .claimRx _ payload => decide (payload.length < 1024)
  | .stoppedRx _ payload => decide (payload.length < 1024)
  | .moduleLeaseLapse | .moduleGuardEnd | .partnerLostTimeout | .startingTimeout | .claimTimeout | .yieldResend
  | .pairSwitch | .fleetSet _ | .idnApply | .holdWrite _ | .safePointApply _ | .crossingTimeout _ _ _ _ => true
  | .resyncDone _ _ held => decide held.Nodup
  | .registerWrite r addr _ _ => busAddr r addr
  | .freezeWrite _ | .pmuClrCounts | .pmuSelectionApply | .ringEnableWrite _ _ | .pmuRingPop _ => true
  | .observerAccess off _ _ => decide (off % 4 = 0 ∧ off < 0x10000)
  | .pcieConfigRequest _ _ addr _ _ => decide (addr % 4 = 0 ∧ addr < 4096)
  | .pcieLinkChange _ _ _ | .stwSend | .mailboxResponse _ | .mbxIdentity _ | .mbxStatus _ | .mbxFlashRead _
  | .mbxFlashWrite _ _ | .mbxFlashErase _ _ | .mbxPfxAdd _ | .mbxPfxDelete _ | .mbxAttest _ | .mbxUnlockStart _
  | .mbxUnlockRespond _ => true
  | .i2cRead addr count => decide (addr < 2 ^ 32 ∧ count < 256)
  | .i2cWrite addr _ => decide (addr < 2 ^ 32)
  | .i2cMbxSend msg => decide (msg.length < 65536)
  | .i2cMbxRecv | .stewardWatchdog | .perstNDeassert | .tamperInRelease | .vbatRestored | .polderWakeDone _
  | .stewardRestartDone => true
  | .stackHotEnd temp => decide (temp ≤ 85)
  | .registerRead r addr => busAddr r addr
  | .i2cProtocolError | .counterWrap _ => true

end Sys2Proof
end

