-- ==== Sys2Proof/Safety.lean ====
section
/-! DEFINITION. What counts as a safe run, in the terms the statements use: a command that completes, the parts of the
state a command may change, and the invariants of the state. -/

namespace Sys2Proof.Machine

/-- A command completes: it answers a next state. -/
def Completes (c : Instr) (s : State) : Prop := ∃ t, exec c s = .next t

/-- The parts of the state, one per field. -/
inductive Part where
  | pending | freeIdx | now | clockOn | regs | inforce | live | ctr | latch | bus | flash | pwr | boot
  | upd | run | portPolicy | channelPolicy | devNumber | lanes | hostPorts | linePorts | hostOut | lineOut
  | pairs | framers | deskew | circuits | poolFree | frames | nextFrame | encSeq | decSeq | cls | polders
  | engines | counts | pldAcc | arbMax | lkp | chn | cph | key | lev | tim | hbm | evt | wrd | pp | pmu
  | pcie | mbxPcie | mbxI2c | stw | dbg
deriving DecidableEq, Repr

/-- Two states agree on a part. -/
def Part.same (p : Part) (s t : State) : Prop :=
  match p with
  | .pending => t.pending = s.pending
  | .freeIdx => t.freeIdx = s.freeIdx
  | .now => t.now = s.now
  | .clockOn => t.clockOn = s.clockOn
  | .regs => t.regs = s.regs
  | .inforce => t.inforce = s.inforce
  | .live => t.live = s.live
  | .ctr => t.ctr = s.ctr
  | .latch => t.latch = s.latch
  | .bus => t.bus = s.bus
  | .flash => t.flash = s.flash
  | .pwr => t.pwr = s.pwr
  | .boot => t.boot = s.boot
  | .upd => t.upd = s.upd
  | .run => t.run = s.run
  | .portPolicy => t.portPolicy = s.portPolicy
  | .channelPolicy => t.channelPolicy = s.channelPolicy
  | .devNumber => t.devNumber = s.devNumber
  | .lanes => t.lanes = s.lanes
  | .hostPorts => t.hostPorts = s.hostPorts
  | .linePorts => t.linePorts = s.linePorts
  | .hostOut => t.hostOut = s.hostOut
  | .lineOut => t.lineOut = s.lineOut
  | .pairs => t.pairs = s.pairs
  | .framers => t.framers = s.framers
  | .deskew => t.deskew = s.deskew
  | .circuits => t.circuits = s.circuits
  | .poolFree => t.poolFree = s.poolFree
  | .frames => t.frames = s.frames
  | .nextFrame => t.nextFrame = s.nextFrame
  | .encSeq => t.encSeq = s.encSeq
  | .decSeq => t.decSeq = s.decSeq
  | .cls => t.cls = s.cls
  | .polders => t.polders = s.polders
  | .engines => t.engines = s.engines
  | .counts => t.counts = s.counts
  | .pldAcc => t.pldAcc = s.pldAcc
  | .arbMax => t.arbMax = s.arbMax
  | .lkp => t.lkp = s.lkp
  | .chn => t.chn = s.chn
  | .cph => t.cph = s.cph
  | .key => t.key = s.key
  | .lev => t.lev = s.lev
  | .tim => t.tim = s.tim
  | .hbm => t.hbm = s.hbm
  | .evt => t.evt = s.evt
  | .wrd => t.wrd = s.wrd
  | .pp => t.pp = s.pp
  | .pmu => t.pmu = s.pmu
  | .pcie => t.pcie = s.pcie
  | .mbxPcie => t.mbxPcie = s.mbxPcie
  | .mbxI2c => t.mbxI2c = s.mbxI2c
  | .stw => t.stw = s.stw
  | .dbg => t.dbg = s.dbg

/-- The frame of a step: nothing but the parts listed differs between the two states. -/
def State.Only (ps : List Part) (s t : State) : Prop := ∀ p, p ∉ ps → p.same s t

/-- The frame of a step to the single word: of the parts of the state only `ps`, of the register words only `rs` and of the
counters only `cs` may differ. -/
structure State.Changes (ps : List Part) (rs cs : List Nat) (s t : State) : Prop where
  parts : State.Only (.regs :: .ctr :: ps) s t
  regs : ∀ a, a ∉ rs → t.reg a = s.reg a
  ctrs : ∀ a, a ∉ cs → t.counter a = s.counter a

/-- The register words a raise may change beside its own cause bit: WRD_EVENT, where the history queue overflows. -/
def Reg.raiseWords : List Nat := [Reg.wrdEvent]

/-- The counters a raise may change: the history entries written and lost. -/
def Reg.raiseCtrs : List Nat := [Reg.wrdCtr, Reg.wrdCtr + 0x08]

/-- The register words the performance monitor may change as it counts: PMU_WRAP_n, PMU_EVENT and those of a raise. -/
def Reg.pmuWords : List Nat := Reg.wrdEvent :: Reg.pmuEvent :: (List.range 16).map (fun k => Reg.pmuWrap + 4 * k)

/-- The counters the performance monitor may change as it counts and samples. -/
def Reg.pmuCtrs : List Nat := [Reg.wrdCtr, Reg.wrdCtr + 0x08, Reg.pmuCtr, Reg.pmuCtr + 0x08, Reg.pmuCtr + 0x10]

/-- Event `src` was raised: its pending bit is set at once in RUN, and a held raise of it stands before RUN. -/
def State.Raised (src : Nat) (s t : State) : Prop :=
  if s.running then t.evt.pending.getLsbD src = true else ∃ h ∈ t.evt.held, h.source = src

/-- The parts that traffic, links, units and events share: what the removal of a unit or the C4 state may change. -/
def Part.traffic : List Part :=
  [.freeIdx, .regs, .ctr, .lanes, .hostPorts, .linePorts, .hostOut, .lineOut, .pairs, .framers, .deskew, .circuits, .frames,
   .nextFrame, .encSeq, .decSeq, .polders, .engines, .chn, .cph, .tim, .hbm, .evt, .pp, .pmu, .stw]

/-- An access by a requester to a register has its effect: the requester reaches it, it answers, and it takes writes now
(03 R91, R92; 13 R496; 16 R563; 19 R620, R625, R635). -/
def State.allows (s : State) (r : Req) (a : Nat) : Bool := s.reaches r a && s.answers a && s.takes a

/-- The parts that the loading of an image fills and its failure discards. -/
def Part.loading : List Part := [.boot, .run, .portPolicy, .channelPolicy, .cls, .lkp, .key]

/-- An attempt to load an image ends with an image code: the other slot once, then a halt (03 R95). -/
def State.AttemptEnds (c : Nat) (s t : State) : Prop :=
  (s.boot.second = true → t.boot.halted = true ∧ t.boot.code = c ∧ t.boot.state = s.boot.state) ∧
  (s.boot.second = false → t.boot.halted = s.boot.halted ∧ t.boot.state = .imageFetch ∧ t.boot.second = true ∧ t.boot.slot = 1 - s.boot.slot ∧
    t.boot.code = c ∧ t.run = none)

/-- A frame has left the module: it is not among its frames, or what is still to arrive of it goes nowhere (00 R22). -/
def State.Left (id : Nat) (t : State) : Prop := ∀ f, t.frame id = some f → f.stage = .gone

/-- Engine `e` executes a word of an opcode: context `k` holds its run slot for a frame in the module, within its budget, and the
word at its pc, which may be fetched, has the opcode (08 R302, R316). -/
structure State.Runs (s : State) (e op k : Nat) (c : Ctx) (f : Frame) (w : BitVec 64) : Prop where
  slot : s.running? e = some (k, c)
  frame : s.frame c.frame = some f
  budget : c.executed < 120
  fetch : s.fetchFault e c = none
  word : (s.polder (e / 32)).word c.pc = w
  op : AWord.op w = op

/-- A step leaves context `k` of engine `e` as `y`, and every other context as it was. -/
structure State.Leaves (e k : Nat) (y : Ctx) (s t : State) : Prop where
  ctx : Tab.find (t.engine e).ctxs k = some y
  others : ∀ j, j ≠ k → Tab.find (t.engine e).ctxs j = Tab.find (s.engine e).ctxs j
  engines : ∀ m, m ≠ e → t.engine m = s.engine m

/-- A program ends with DROP, counted under `o` in its direction's block (08 R308, R309, R323): its context is done. -/
structure State.EndsInDrop (e k : Nat) (c : Ctx) (f : Frame) (o : Nat) (s t : State) : Prop where
  verdict : ∃ g, t.frame c.frame = some g ∧ g.verdict = some .drop
  done : ∃ y, State.Leaves e k y s t ∧ y.cond = .done
  count : t.counter (State.pldCtr f.dec o) = s.counter (State.pldCtr f.dec o) + 1
  frames : ∀ i, i ≠ c.frame → t.frame i = s.frame i

/-- A program fault (08 R324): it ends with DROP, and is counted, captured with its reason and raised. -/
structure State.WordFaults (e k : Nat) (c : Ctx) (f : Frame) (reason : Nat) (s t : State) : Prop where
  drop : State.EndsInDrop e k c f 0x38 s t
  window : t.counter (State.pldWin e 0x58) = s.counter (State.pldWin e 0x58) + 1
  captured : s.regField (State.pldWin e 0x10) 31 1 = 0 → t.regField (State.pldWin e 0x10) 24 4 = reason
  raised : State.Raised (112 + e / 32) s t
  changes : State.Changes [.engines, .frames, .evt, .pmu] (State.pldWin e 0x10 :: State.pldWin e 0x08 :: Reg.pmuWords)
    (State.pldCtr f.dec 0x38 :: State.pldWin e 0x58 :: Reg.pmuCtrs) s t

/-- The tamper sources of a list, each with its response, fire together (13 R495, R498, R500, R505; 12 R472, R482): their ALARM
records stand in the log, no challenge is outstanding and every key operation in progress has ended; with a ZEROIZE among them the
vault holds no root and, on a feed, the secrets outside it are gone too; else the vault holds `root`, and with a LOCK, where none is
in force and a root is there, a LOCK is in force. -/
structure State.Fires (l : List (Nat × Nat)) (root : Option Vault) (s t : State) : Prop where
  alarms : ∀ e ∈ l, ∃ r ∈ t.lev.log, Bits.beAt r 12 1 = 1 ∧ Bits.beAt r 13 1 = e.1
  ends : l ≠ [] → t.lev.chal = none ∧ (∀ c ∈ t.key.cmds, c.code = 6 ∨ c.refused.isSome = true) ∧ ∀ c ∈ t.chn.cmds, c.code ≠ 5
  response : if l.any (fun e => decide (e.2 = 2)) then
      t.lev.root = none ∧ (s.fed = true → t.stw.halted = true ∧ t.key = { Key.reset with
        cmds := t.key.cmds, digestPending := t.key.digestPending, digest := t.key.digest, healthFail := t.key.healthFail
        sourceRemoved := t.key.sourceRemoved } ∧ t.chn.cells = [] ∧ State.Raised 205 s t)
    else t.lev.root = root ∧
      (if l.any (fun e => decide (e.2 = 1)) = true ∧ s.lev.locked = false ∧ s.lev.root ≠ none then
         t.lev.locked = true ∧ (s.fed = true → t.stw.halted = true ∧ State.Raised 204 s t)
       else t.lev.locked = s.lev.locked)

/-- What hardly any command changes: the queue, the flash and the minimum security version. -/
def State.kept (s : State) : List Instr × List Host.Cell × Nat := (s.pending, s.flash, s.lev.minSv)

/-- The byte at a flash address: an unlisted byte is erased and reads 0xFF (03 R100). -/
def Flash.at (cells : List Host.Cell) (a : Nat) : BitVec 8 := Tab.get (fun _ => 0xFF) cells a

/-- The flash holds its canonical form: cells by rising address, none that reads 0xFF, the value of an erased byte. -/
def State.flashOk (s : State) : Bool := Tab.wf (fun _ => 0xFF) s.flash

end Sys2Proof.Machine
end

