-- ==== Sys2Proof/Certificates/Slice0/Obligations.lean ====
section
/-! DEFINITION. The statements put to the provers, by family of commands. -/

open Sys2Proof Sys2Proof.Machine Sys2Proof.Bits

/-- For every command c and state s whose queue is c followed by r, a step of s answers exactly what c answers on s with
the queue r (the model's queue of commands; log entry 1). -/
def Obligations.StepRunsTheFrontCommand : Prop :=
  ∀ (c : Instr) (s : State) (r : List Instr), s.pending = c :: r → step s = exec c { s with pending := r }

/-- On an empty queue a step completes. Where the reference clock runs, the core cycle number rises by one, the levee's
crystal counts the ticks due, and of the rest nothing but the performance monitor with its registers and events and
the ENABLE words of pulse outputs may change; where it does not run, the state stays as it is (the tick is the model's
choice: log entry 1). -/
def Obligations.IdleStepPassesOneCycle : Prop :=
  ∀ s : State, s.pending = [] →
    ∃ t, step s = .next t ∧ t.pending = [] ∧
      (s.clockOn = false → t = s) ∧
      (s.clockOn = true → t.now = s.now + 1 ∧ t.lev = s.lev.crystal s.now ∧
        State.Changes [.now, .lev, .evt, .pmu] (Reg.pmuWords ++ (List.range 4).map State.pulseReg) Reg.pmuCtrs s t)

/-- State.reset has an empty queue, waits in POWER_OK with the boot code 0 and is not halted; no feed is present; no
frame, no engine context, no channel, no key and no image is in the module; no source stands, no event is pending or
held and no C4 fault is latched; every event is masked; the module's role is SOLO; every counter reads 0; and every
lane, pair, port, polder and framer is in its own reset state. -/
def Obligations.ResetIsAtTheStartOfBringup : Prop :=
  State.reset.pending = [] ∧ State.reset.boot.state = .powerOk ∧ State.reset.boot.halted = false ∧ State.reset.boot.code = 0 ∧
  State.reset.fed = false ∧ State.reset.frames = [] ∧ State.reset.engines = [] ∧ State.reset.chn = Chn.empty ∧
  State.reset.run = none ∧ State.reset.evt.standing = [] ∧ State.reset.evt.pending = 0 ∧ State.reset.evt.held = [] ∧
  State.reset.evt.c4 = none ∧ (∀ k < 8, State.reset.reg (Reg.evtMask + 4 * k) = 0xFFFFFFFF) ∧ State.reset.pp.role = .solo ∧
  (∀ a, State.reset.counter a = 0) ∧ (∀ l, State.reset.lane l = Lane.reset) ∧ (∀ p, State.reset.pair p = Pair.reset) ∧
  (∀ b p, State.reset.port b p = Port.reset) ∧ (∀ p, State.reset.polder p = Polder.reset) ∧
  (∀ n, State.reset.framer n = Framer.reset)

/-- Whatever the state, a step that answers a next state leaves in the queue exactly the commands that waited behind the
one it took: no command inserts, removes or reorders a waiting command, resets included. -/
def Obligations.CommandsLeaveTheQueue : Prop :=
  ∀ s t : State, step s = .next t → t.pending = s.pending.tail

/-- If the flash of a state holds its canonical form (addresses strictly rising, no cell that reads as an erased byte), so
does the flash of every state a step answers, whatever command it ran. -/
def Obligations.FlashKeepsItsForm : Prop :=
  ∀ s t : State, s.flashOk = true → step s = .next t → t.flashOk = true

/-- For every command that is not FLASH_WRITE or FLASH_ERASE of a mailbox, and every state, a step that runs it leaves
every byte of the flash as it was: bring-up, resets, live updates and register writes read the flash and never store
to it. -/
def Obligations.OnlyFlashCommandsChangeTheFlash : Prop :=
  ∀ (c : Instr) (s t : State), (∀ m ok, c ≠ .mbxFlashWrite m ok) → (∀ m ok, c ≠ .mbxFlashErase m ok) →
    exec c s = .next t → ∀ a, Flash.at t.flash a = Flash.at s.flash a

/-- Whatever the state and the command, resets and losses of power included, the minimum security version the levee holds
after a step is at least the one before it. ENGINES_LOAD_DONE, the one command by which a module reaches RUN, raises
it to the SECURITY_VERSION of the image it runs where that image has RAISE_MIN_SV set, and else leaves it. -/
def Obligations.MinimumSecurityVersionNeverFalls : Prop :=
  (∀ s t : State, step s = .next t → s.lev.minSv ≤ t.lev.minSv) ∧
  (∀ (bad : BitVec 32) (s : State), s.booting .enginesLoad = true →
    ∃ t, exec (.enginesLoadDone bad) s = .next t ∧
      (match s.loadEngines with
       | .ok _ => t.running = true ∧ t.run = s.boot.img ∧ t.lev.minSv = (match s.boot.img with
           | some i => if Image.raises i.header then max s.lev.minSv (Image.security i.header) else s.lev.minSv
           | none => s.lev.minSv)
       | .error _ => t.running = false ∧ t.lev.minSv = s.lev.minSv)) ∧
  (∀ (c : Instr) (s t : State), (∀ bad, c ≠ .enginesLoadDone bad) → s.running = false → exec c s = .next t → t.running = false)

/-- After reset the flash holds its canonical form with nothing listed, every flash byte reads 0xFF, and the queue is
empty. -/
def Obligations.ResetMeetsTheInvariants : Prop :=
  State.reset.flashOk = true ∧ State.reset.pending = [] ∧ ∀ a, Flash.at State.reset.flash a = 0xFF

/-- A command whose operands lie within the ranges of the spec answers a next state, whatever the state: no data, mode or
order of commands makes a well-formed command fault or be refused. -/
def Obligations.EveryWellFormedCommandCompletes : Prop :=
  ∀ (c : Instr) (s : State), c.wf = true → Completes c s

/-- A register write or read whose address is not aligned or lies outside its requester's window, a PCIe configuration
request outside the 4,096 bytes of a function and an observer access outside the 64 KiB of PF1 are refused with that
address; a scrub visit to a line of the reserved space beyond the last region faults. -/
def Obligations.IllFormedAddressesAreTurnedAway : Prop :=
  (∀ r a be v s, busAddr r a = false → exec (.registerWrite r a be v) s = .refused (.badAddress a)) ∧
  (∀ r a s, busAddr r a = false → exec (.registerRead r a) s = .refused (.badAddress a)) ∧
  (∀ pf1 w a v be s, ¬(a % 4 = 0 ∧ a < 4096) → exec (.pcieConfigRequest pf1 w a v be) s = .refused (.badAddress a)) ∧
  (∀ off w v s, ¬(off % 4 = 0 ∧ off < 0x10000) → exec (.observerAccess off w v) s = .refused (.badAddress (0x0E00000 + off))) ∧
  (∀ line e c s, 0x2A40000 ≤ line → exec (.hbmScrubLine line e c) s = .fault (.hbmReserved (256 * line)))

/-- POR_N and the loss of both feeds bring every register, counter, frame, engine, key, lane and unit to its reset state
and bring-up to POWER_OK; they keep the flash and the levee root and minimum security version, POR_N also a C4 latch
and the feeds as they stand, while a loss of both feeds leaves no latch and no feed. A warm reset served by its
register first drops the frames in flight, each counted at its port (which counter is the model's choice: log entry
92), then keeps the counters, the history, the held events, the wardens, time, PCIe configuration and the C4 latch,
leaves no frame, context and key and, after POWER_OK, stands at IMAGE_FETCH; of IDN_RESYNC it keeps COUNT. PERST_N
resets the endpoint alone: its configuration, message table and pending messages, with no other part of the module
changed (the release of PERST_N and the restored reference leave everything else as it is). -/
def Obligations.ResetsStartOver : Prop :=
  (∀ s : State, ∃ t, exec .porNAssert s = .next t ∧ t.boot = Boot.reset ∧ t.regs = [] ∧ t.ctr = [] ∧ t.frames = [] ∧ t.engines = [] ∧
    t.lanes = [] ∧ t.pairs = [] ∧ t.key = Key.reset ∧ t.run = none ∧ t.clockOn = false ∧ t.evt.standing = [] ∧ t.evt.pending = 0 ∧
    t.evt.hist = [] ∧ t.evt.c4 = s.evt.c4 ∧ t.fed = s.fed ∧ t.flash = s.flash ∧ t.lev.root = s.lev.root ∧ t.lev.minSv = s.lev.minSv ∧
    t.lev.locked = s.lev.locked) ∧
  (∀ s : State, ∃ t, exec .bothFeedsLost s = .next t ∧ t.boot = Boot.reset ∧ t.regs = [] ∧ t.ctr = [] ∧ t.frames = [] ∧ t.engines = [] ∧
    t.lanes = [] ∧ t.pairs = [] ∧ t.key = Key.reset ∧ t.run = none ∧ t.clockOn = false ∧ t.evt.standing = [] ∧ t.evt.pending = 0 ∧
    t.evt.hist = [] ∧ t.evt.c4 = none ∧ t.fed = false ∧ t.flash = s.flash ∧ t.lev.root = s.lev.root ∧ t.lev.minSv = s.lev.minSv ∧
    t.lev.locked = s.lev.locked) ∧
  (∀ (r : Req) (s : State), s.allows r Reg.idnControl = true →
    ∃ t, exec (.warmReset r) s = .next t ∧ (∀ a, t.counter a = s.warmDrop.counter a) ∧ t.evt.hist = s.warmDrop.evt.hist ∧
      t.evt.held = s.warmDrop.evt.held ∧ t.evt.c4 = s.warmDrop.evt.c4 ∧ t.evt.standing = [] ∧ t.evt.pending = 0 ∧ t.wrd = s.wrd ∧ t.now = s.now ∧
      t.clockOn = s.clockOn ∧ t.pcie.cfg0 = s.pcie.cfg0 ∧ t.pcie.cfg1 = s.pcie.cfg1 ∧ t.frames = [] ∧ t.engines = [] ∧ t.key = Key.reset ∧
      t.lanes = [] ∧ t.run = none ∧ t.flash = s.flash ∧ t.lev.root = s.lev.root ∧ t.lev.minSv = s.lev.minSv ∧
      (s.boot.state ≠ .powerOk → t.boot.state = .imageFetch) ∧ (∀ a, Reg.keptWarm a = true → a ≠ Reg.idnResync → t.reg a = s.warmDrop.reg a) ∧
      t.reg Reg.idnResync = BitVec.ofNat 32 ((s.warmDrop.reg Reg.idnResync).toNat % 2 ^ 20) ∧
      (∀ a, Reg.keptWarm a = false → t.reg a = Reg.resetOf a)) ∧
  (∀ s : State, ∃ t, exec .perstNAssert s = .next t ∧ State.Only [.pcie, .evt, .mbxPcie] s t ∧ t.pcie.perst = true ∧ t.pcie.cfg0 = [] ∧
    t.pcie.cfg1 = [] ∧ t.pcie.msix = [] ∧ t.evt = { s.evt with pba := 0 } ∧ t.mbxPcie = { s.mbxPcie with drop := s.mbxPcie.busy }) ∧
  (∀ s : State, exec .perstNDeassert s = .next { s with pcie := { s.pcie with perst := false } }) ∧
  (∀ s : State, ∃ t, exec .refclkSysRestored s = .next t ∧ State.Only [.pwr, .clockOn] s t ∧ t.pwr.sysOk = true ∧ t.pwr.aoFallback = false ∧
    (s.clockOn = true → t.clockOn = true))

/-- A feed that is neither present nor cut becomes present, and one of two present becomes absent: outside POWER_OK its
event 224 or 225 is raised with its bit of PWR_EVENT, and nothing but power, the levee, the events and those registers
change. A sample sets the voltages and currents; where a level is in force and the feeds call for a higher one (0 with
both feeds or 7.00 V, 1 from 5.70 V, 2 below, never under MIN_LEVEL) a shed to it begins, and nothing but power
changes. An overcurrent of a present feed raises event 227. A shed begun, or a completed wait for a lower level, puts
its level in force with no shed left to come, changing only power, pairs, lanes and what follows them. A served write
of PWR_CONTROL stores MIN_LEVEL, 3 taken as 2, and changes no other register. -/
def Obligations.FeedsAndShedLevels : Prop :=
  (∀ (f : FeedId) (s : State), (s.feed f).present = false → (s.feed f).cut = false →
    ∃ t, exec (.feedPresent f) s = .next t ∧ t.feed f = { s.feed f with present := true } ∧ (∀ g, g ≠ f → t.feed g = s.feed g) ∧
      (s.boot.state ≠ .powerOk → State.Raised (224 + State.feedNo f) s t ∧
        t.reg Reg.pwrEvent = s.reg Reg.pwrEvent ||| BitVec.ofNat 32 (2 ^ State.feedNo f)) ∧
      State.Changes [.pwr, .lev, .evt] (Reg.pwrEvent :: Reg.raiseWords) Reg.raiseCtrs s t) ∧
  (∀ (f : FeedId) (s : State), s.pwr.feedA.present = true → s.pwr.feedB.present = true →
    ∃ t, exec (.feedAbsent f) s = .next t ∧ t.feed f = { s.feed f with present := false, cut := false } ∧ (∀ g, g ≠ f → t.feed g = s.feed g) ∧
      (s.boot.state ≠ .powerOk → State.Raised (224 + State.feedNo f) s t ∧
        t.reg Reg.pwrEvent = s.reg Reg.pwrEvent ||| BitVec.ofNat 32 (2 ^ State.feedNo f)) ∧
      State.Changes [.pwr, .evt] (Reg.pwrEvent :: Reg.raiseWords) Reg.raiseCtrs s t) ∧
  (∀ (va vb ia ib c : Nat) (s : State), va < 4096 → vb < 4096 → ia < 256 → ib < 256 → s.fed = true → s.boot.state ≠ .powerOk →
    s.pwr.level = some c →
    ∃ t, exec (.feedSample va vb ia ib) s = .next t ∧ State.Only [.pwr] s t ∧
      t.feed .a = { s.feed .a with voltage := va, current := ia } ∧ t.feed .b = { s.feed .b with voltage := vb, current := ib } ∧
      t.pwr.level = some c ∧
      (let v := if s.pwr.feedA.present then va else vb
       let called := if s.bothFed ∨ 700 ≤ v then 0 else if 570 ≤ v then 1 else 2
       let lv := max called s.minLevel
       t.pwr.shedTo = if c < lv then some (max lv (s.pwr.shedTo.getD 0)) else s.pwr.shedTo)) ∧
  (∀ (f : FeedId) (s : State), (s.feed f).present = true →
    ∃ t, exec (.feedOvercurrentTimeout f) s = .next t ∧ State.Raised 227 s t ∧ t.reg Reg.pwrEvent = s.reg Reg.pwrEvent ||| 8 ∧
      State.Changes [.evt] (Reg.pwrEvent :: Reg.raiseWords) Reg.raiseCtrs s t) ∧
  (∀ (lv : Nat) (s : State), s.pwr.shedTo = some lv →
    ∃ t, exec .shedUp s = .next t ∧ t.pwr.level = some lv ∧ t.pwr.shedTo = none ∧ State.Only (.pwr :: Part.traffic) s t) ∧
  (∀ (lv : Fin 2) (s : State), (if lv.val = 0 then s.pwr.wait0 else s.pwr.wait1).isSome = true → s.waitOk lv.val = true →
    ∃ t, exec (.shedDownWaitExpiry lv) s = .next t ∧ t.pwr.level = some lv.val ∧ t.pwr.shedTo = none ∧
      State.Only (.pwr :: Part.traffic) s t) ∧
  (∀ (r : Req) (v : Word) (s : State), s.allows r Reg.pwrControl = true →
    ∃ t, exec (.minLevelWrite r v) s = .next t ∧ t.regField Reg.pwrControl 0 2 = min 2 (v.toNat % 4) ∧
      (∀ f, t.feed f = s.feed f) ∧ t.pwr.level = s.pwr.level ∧ State.Changes [.pwr] [Reg.pwrControl] [] s t)

/-- The loss of the running system reference stops the counter, falls back to the always-on oscillator and, in RUN,
latches the C4 state. The loss of a side's reference before LANE_BRINGUP changes nothing but power; from LANE_BRINGUP
on it leaves every lane of the side that is not in DOZE or REMOVED held at DETECT without a signal, and nothing beyond
power and traffic changes. Its return releases every held lane of the side and raises the side's event as C0 with its
bit. A regulator fault shows its rail in PWR_EVENT.RAIL and removes every unit the rail feeds, lanes, pipe groups and
polders, and that of the core, steward or HBM rail latches the C4 state in RUN (which units a rail feeds is left to
the module: log entry 23). -/
def Obligations.ReferencesAndRegulators : Prop :=
  (∀ s : State, s.pwr.sysOk = true →
    ∃ t, exec .refclkSysLost s = .next t ∧ t.clockOn = false ∧ t.pwr.sysOk = false ∧ t.pwr.aoFallback = true ∧
      (s.running = true → t.evt.c4.isSome = true) ∧ State.Only (.pwr :: .clockOn :: Part.traffic) s t) ∧
  (∀ (d : Side) (s : State), s.lanesRun = false →
    ∃ t, exec (.refclkSideLost d) s = .next t ∧ State.Only [.pwr] s t ∧ (if d = .host then t.pwr.hostRef else t.pwr.lineRef) = false) ∧
  (∀ (d : Side) (s : State), s.lanesRun = true → (if d = .host then s.pwr.hostRef else s.pwr.lineRef) = true →
    ∃ t, exec (.refclkSideLost d) s = .next t ∧ (if d = .host then t.pwr.hostRef else t.pwr.lineRef) = false ∧
      (∀ l ∈ State.sideLanes d, (s.lane l).stage ≠ .doze → (s.lane l).stage ≠ .removed →
        (t.lane l).stage = .detect ∧ (t.lane l).held = true ∧ (t.lane l).signal = false) ∧
      State.Only (.pwr :: Part.traffic) s t) ∧
  (∀ (d : Side) (s : State), s.lanesRun = true → (if d = .host then s.pwr.hostRef else s.pwr.lineRef) = false →
    ∃ t, exec (.refclkSideRestored d) s = .next t ∧ (if d = .host then t.pwr.hostRef else t.pwr.lineRef) = true ∧
      (∀ l ∈ State.sideLanes d, t.lane l = { s.lane l with held := false }) ∧ (∀ l, l ∉ State.sideLanes d → t.lane l = s.lane l) ∧
      State.Raised (if d = .host then 229 else 230) s t ∧ (t.reg Reg.pwrEvent).getLsbD (if d = .host then 5 else 6) = true ∧
      State.Changes [.pwr, .lanes, .evt] (Reg.pwrEvent :: Reg.raiseWords) Reg.raiseCtrs s t) ∧
  (∀ (rail : Fin 256) (s : State),
    ∃ t, exec (.regulatorFault rail) s = .next t ∧ State.Only Part.traffic s t ∧
      t.regField Reg.pwrEvent 24 8 = rail.val ∧
      (∀ u, Config.railFeeds rail.val u = true →
       (u < 66 → (t.lane u).stage = .removed) ∧
       (66 ≤ u → u < 82 → field t.cph.inService (4 * (u - 66)) 4 = 0) ∧
       (82 ≤ u → u < 114 → (t.polder (u - 82)).state = .removed)) ∧
      (Config.railCore rail.val = true → s.running = true → t.evt.c4.isSome = true))

/-- POWER_OK is left with a feed, the rails in regulation, the system reference, POR_N high and no C4 latch, and is not
left else: the counter starts at 0, the board is sampled, and the first self-checks give the burgee to warden A if it
passed, else to B, a warden that failed being removed. LEVEE_CHECK takes the device number and halts without a root,
with one that fails its check or under a LOCK, else goes to IMAGE_FETCH with the preferred slot. IMAGE_FETCH reads the
slot and goes on to IMAGE_AUTH if the header passes, else the attempt ends with 0x81; a read at a flash address is
tried three more times and then the attempt ends with 0x80; IMAGE_AUTH goes on with the authenticated image's entries
or ends the attempt with the code of the check that failed. LANE_BRINGUP ends in ENGINES_LOAD when every kept lane is
ACTIVE, or after its time with LANES_INCOMPLETE. A state that exceeds its maximum halts with 0x8B and no lane left
that is neither ACTIVE, in DOZE nor REMOVED. Beyond traffic only the parts that hold bring-up and the image change. -/
def Obligations.BringupAdvances : Prop :=
  (∀ (board : Fin 16) (rails por a b : Bool) (s : State),
    ¬(rails = true ∧ por = true ∧ s.booting .powerOk = true ∧ s.fed = true ∧ s.pwr.sysOk = true ∧ s.evt.c4 = none) →
    exec (.powerOkExit board a b rails por) s = .next s) ∧
  (∀ (board : Fin 16) (a b : Bool) (s : State), s.booting .powerOk = true → s.fed = true → s.pwr.sysOk = true → s.evt.c4 = none →
    ∃ t, exec (.powerOkExit board a b true true) s = .next t ∧ t.now = 0 ∧ t.clockOn = true ∧ t.pwr.boardId = board.val ∧ t.boot.state = .leveeCheck ∧
      t.wrd.holder = (if a then some .a else if b then some .b else s.wrd.holder) ∧
      t.wrd.stateA = (if a then s.wrd.stateA else .removed) ∧ t.wrd.stateB = (if b then s.wrd.stateB else .removed) ∧
      State.Changes [.now, .clockOn, .pwr, .boot, .wrd, .evt] Reg.raiseWords Reg.raiseCtrs s t) ∧
  (∀ (upset : Bool) (s : State), s.booting .leveeCheck = true →
    ∃ t, exec (.leveeCheckDone upset) s = .next t ∧ t.devNumber = some s.lev.device ∧ t.lev = { s.lev with bad := s.vaultBad upset } ∧
      State.Only (.boot :: .devNumber :: .lev :: Part.traffic) s t ∧
      (if s.lev.root = none ∨ s.vaultBad upset = true then t.boot.halted = true ∧ t.boot.code = s.noRootCode
       else if s.lev.locked = true then t.boot.halted = true ∧ t.boot.code = 0x89
       else t.boot.halted = false ∧ t.boot.state = .imageFetch ∧ t.boot.slot = s.lev.prefSlot ∧ State.Only [.boot, .devNumber, .lev] s t)) ∧
  (∀ s : State, s.booting .imageFetch = true →
    ∃ t, exec .imageFetchDone s = .next t ∧ State.Only (Part.loading ++ Part.traffic) s t ∧
      (if Image.headerOk (Image.fetch s.flash s.boot.slot).header then
        t.boot.state = .imageAuth ∧ t.boot.img = some (Image.fetch s.flash s.boot.slot) ∧ State.Only [.boot] s t
       else State.AttemptEnds 0x81 s t)) ∧
  (∀ (a : BitVec 27) (s : State), s.boot.halted = false → 2 ≤ s.boot.state.code → s.boot.state.code ≤ 7 →
    ∃ t, exec (.flashReadTimeout a) s = .next t ∧ State.Only (Part.loading ++ Part.traffic) s t ∧
      (let n := if s.boot.tryAt = a.toNat then s.boot.tries else 0
       if n < 3 then t = { s with boot := { s.boot with tries := n + 1, tryAt := a.toNat } } else State.AttemptEnds 0x80 s t)) ∧
  (∀ s : State, s.booting .imageAuth = true →
    ∃ t, exec .imageAuthDone s = .next t ∧ State.Only (Part.loading ++ Part.traffic) s t ∧
      (match Image.auth s.img s.lev.minSv with
       | some c => State.AttemptEnds c s t
       | none => t.boot.state = .keyUnseal ∧ t.run = t.boot.img ∧ State.Only [.run, .boot] s t ∧
           t.run = some { s.img with entries := Image.kept s.img.header s.img.dirBytes })) ∧
  (∀ s : State, s.booting .laneBringup = true → s.lanesReady = true →
    exec .laneBringupDone s = .next { s with boot := { s.boot with state := .enginesLoad } }) ∧
  (∀ s : State, s.booting .laneBringup = true →
    exec .laneBringupTimeout s = .next { s with boot := { s.boot with
      state := .enginesLoad, lanesIncomplete := s.boot.lanesIncomplete || !s.lanesReady } }) ∧
  (∀ s : State, s.boot.halted = false → s.boot.state ≠ .powerOk → s.boot.state ≠ .laneBringup → s.boot.state ≠ .run →
    ∃ t, exec .bringupStateTimeout s = .next t ∧ t.boot = { s.boot with halted := true, code := 0x8B } ∧
      (∀ l < 66, (t.lane l).stage = .active ∨ (t.lane l).stage = .doze ∨ (t.lane l).stage = .removed) ∧
      State.Only (.boot :: Part.traffic) s t)

/-- KEY_UNSEAL reads CHANNEL_POLICY and every KEY_IMPORT body: a record that fails its digest, or a body out of place,
ends the attempt; a nonce check that failed halts with 0x8B; else bring-up goes on to HBM_TRAIN with the configuration
digest to compute anew. HBM_TRAIN with a pseudo-channel that never trained halts with 0x87; else the stack is ACTIVE
and FIRMWARE is checked. ENGINES_LOAD that finds its records in order reaches RUN: the module runs, the steward is up,
every polder whose store failed its read-back is removed, and where the image's header sets RAISE_MIN_SV the minimum
security version is the larger of the old one and the image's; a record out of order ends the attempt. Beyond the
image's parts, the levee and traffic nothing changes. -/
def Obligations.RecordsLoadAndRunIsReached : Prop :=
  (∀ (kat nonce : Bool) (s : State), s.booting .keyUnseal = true →
    ∃ t, exec (.keyUnsealDone kat nonce) s = .next t ∧ State.Only (Part.loading ++ Part.traffic) s t ∧
      (match s.img.single s.flash 4, s.img.bodies s.flash 8 with
       | .error c, _ => State.AttemptEnds c s t
       | .ok _, .error c => State.AttemptEnds c s t
       | .ok pol, .ok ks =>
         if ChannelPolicy.ok pol = false ∨ (∃ k ∈ ks, 1024 ≤ k.1) then State.AttemptEnds 0x86 s t
         else if kat = true ∧ nonce = false then t.boot.halted = true ∧ t.boot.code = 0x8B
         else t.boot.state = .hbmTrain ∧ t.boot.halted = false ∧ t.key.digestPending = true ∧ t.channelPolicy = pol)) ∧
  (∀ (ok : BitVec 16) (s : State), s.booting .hbmTrain = true →
    ∃ t, exec (.hbmTrainDone ok) s = .next t ∧ State.Only (Part.loading ++ Part.traffic) s t ∧
      (if ok ≠ 0xFFFF ∧ s.boot.hbmTrained = false then t.boot.halted = true ∧ t.boot.code = 0x87 ∧ t.hbm.st = .failed ∧ t.hbm.pcOk = ok.toNat
       else t.hbm.st = .active ∧ t.hbm.pcOk = 0xFFFF ∧ t.boot.hbmTrained = true ∧
         (match s.img.single s.flash 1 with
          | .error c => State.AttemptEnds c s t
          | .ok b => Firmware.ok b = false → State.AttemptEnds 0x86 s t))) ∧
  (∀ (bad : BitVec 32) (s : State), s.booting .enginesLoad = true →
    ∃ t, exec (.enginesLoadDone bad) s = .next t ∧ State.Only (.lev :: (Part.loading ++ Part.traffic)) s t ∧
      (match s.loadEngines with
       | .error c => State.AttemptEnds c s t
       | .ok _ => t.boot.state = .run ∧ t.stw.up = true ∧ t.run = s.boot.img ∧
           (∀ p < 32, bad.getLsbD p = true → (t.polder p).state = .removed) ∧
           (∀ i, s.boot.img = some i → t.lev.minSv =
             if Image.raises i.header then max s.lev.minSv (Image.security i.header) else s.lev.minSv)))

/-- A lane that may wake leaves DOZE for DETECT, held there without its side's reference, and is REMOVED if its PLL fails.
A signal takes a lane in DETECT to TRAIN, and in DOZE or held only shows. A window in TRAIN sets the figure of merit,
floor(255 x opening / nominal) of the worst eye with a third of the decision range as nominal, at most 255, and its
minimum; the 16th good one in a row takes the lane to LOCK once the training protocol, where it is used, is done. A
coefficient request in DETECT or TRAIN is answered as at its limit and leaves the taps. TRAIN times out to DETECT,
LOCK to TRAIN and EXCHANGE without a mismatch to LOCK. Word lock takes an Ethernet lane to ACTIVE and a trunk lane to
EXCHANGE. A capability word of eight bytes is stored; in EXCHANGE one that agrees and was seen twice with word lock
takes the lane to ACTIVE, and the first of an episode that differs raises PEER_MISMATCH. Every other lane stays as it
was, and nothing beyond traffic changes. -/
def Obligations.LanesWakeTrainAndLock : Prop :=
  (∀ (l : Fin 66) (pll : Bool) (s : State), s.wakeable l.val = true →
    ∃ t, exec (.laneWake l pll) s = .next t ∧
      (t.lane l.val).stage = (if s.sideRef l.val = true ∧ pll = false then .removed else .detect) ∧
      (s.sideRef l.val = false → (t.lane l.val).held = true) ∧ (∀ m, m ≠ l.val → t.lane m = s.lane m) ∧ State.Only Part.traffic s t) ∧
  (∀ (l : Fin 66) (s : State), (s.lane l.val).stage = .detect → (s.lane l.val).held = false →
    ∃ t, exec (.laneSignalDetect l) s = .next t ∧ (t.lane l.val).stage = .train ∧ (t.lane l.val).signal = true ∧
      (∀ m, m ≠ l.val → t.lane m = s.lane m) ∧ State.Only Part.traffic s t) ∧
  (∀ (l : Fin 66) (s : State), (s.lane l.val).stage = .doze ∨ ((s.lane l.val).stage = .detect ∧ (s.lane l.val).held = true) →
    exec (.laneSignalDetect l) s = .next (s.setLane l.val { s.lane l.val with signal := true })) ∧
  (∀ (l : Fin 66) (eye : Eye) (done : Bool) (prbs : Nat) (s : State), (s.lane l.val).stage = .train →
    ∃ t, exec (.fomWindow l eye done prbs) s = .next t ∧
      (let fom := min 255 (765 * min eye.low (min eye.mid eye.high) / eye.range)
       let g := if (s.lane l.val).taps.fomEntry ≤ fom then (s.lane l.val).goodWindows + 1 else 0
       (t.lane l.val).fom = fom ∧ (t.lane l.val).fomMin = min (s.lane l.val).fomMin fom ∧
       (if 16 ≤ g ∧ (s.trains l.val = false ∨ (s.lane l.val).trained = true ∨ done = true) then (t.lane l.val).stage = .lock
        else (t.lane l.val).stage = .train ∧ (t.lane l.val).goodWindows = g ∧
          State.Changes [.freeIdx, .lanes] [Reg.lane l.val + 0x20] [] s t)) ∧
      (∀ m, m ≠ l.val → t.lane m = s.lane m) ∧ State.Only Part.traffic s t) ∧
  (∀ (l : Fin 66) (tap : Fin 5) (up : Bool) (s : State), s.trains l.val = true → (s.lane l.val).stage = .detect ∨ (s.lane l.val).stage = .train →
    exec (.coeffRequestRx l tap up) s = .next (s.setLane l.val { s.lane l.val with coeff := some (tap.val, up, .atLimit) })) ∧
  (∀ (l : Fin 66) (s : State), (s.lane l.val).stage = .train →
    ∃ t, exec (.trainTimeout l) s = .next t ∧ (t.lane l.val).stage = .detect ∧ (∀ m, m ≠ l.val → t.lane m = s.lane m) ∧
      State.Only Part.traffic s t) ∧
  (∀ (l : Fin 66) (s : State), (s.lane l.val).stage = .lock →
    ∃ t, exec (.wordLockAcquired l) s = .next t ∧ (t.lane l.val).stage = (if s.laneTrunk l.val then .exchange else .active) ∧
      (t.lane l.val).bitLock = true ∧ (t.lane l.val).wordLock = true ∧ (∀ m, m ≠ l.val → t.lane m = s.lane m) ∧ State.Only Part.traffic s t) ∧
  (∀ (l : Fin 66) (s : State), (s.lane l.val).stage = .lock →
    ∃ t, exec (.lockTimeout l) s = .next t ∧ (t.lane l.val).stage = .train ∧ (∀ m, m ≠ l.val → t.lane m = s.lane m) ∧
      State.Only Part.traffic s t) ∧
  (∀ (l : Fin 34) (s : State), (s.lane (l.val + 32)).rx.capBytes.length = 8 → s.coded (l.val + 32) = true →
    ∃ t, exec (.capabilityWordAssembled l) s = .next t ∧
      (let i := l.val + 32
       let n := s.lane i
       let w := beNat n.rx.capBytes
       (t.lane i).cap = BitVec.ofNat 64 w ∧
       (n.stage = .exchange → s.capDiffers i w = false → field w 56 8 = 1 → field w 27 1 = 1 → n.rx.prevCap = some (BitVec.ofNat 64 w) →
         (t.lane i).stage = .active) ∧
       (n.stage = .exchange → s.capDiffers i w = true → n.rx.mismatch = false →
         (t.lane i).stage = .exchange ∧ (t.lane i).rx.mismatch = true ∧ (t.reg (Reg.lane i + 0x14)).getLsbD 5 = true ∧
         (l.val < 32 → State.Raised i s t)) ∧
       (∀ m, m ≠ i → t.lane m = s.lane m)) ∧ State.Only Part.traffic s t) ∧
  (∀ (l : Fin 34) (s : State), (s.lane (l.val + 32)).stage = .exchange → (s.lane (l.val + 32)).rx.mismatch = false →
    ∃ t, exec (.exchangeTimeout l) s = .next t ∧ (t.lane (l.val + 32)).stage = .lock ∧ (∀ m, m ≠ l.val + 32 → t.lane m = s.lane m) ∧
      State.Only Part.traffic s t)

/-- In ACTIVE the loss of the signal or of bit lock takes a lane to DETECT and the loss of word lock to LOCK; a failed PLL
removes a lane outside DOZE while its reference runs. A millisecond's update in ACTIVE sets the figure of merit and
its minimum, counts low ones, and the tenth in a row raises FOM_LOW once, until re-armed. A row cut from a framer's
stream gives every lane of it that sends a block of one SEQ. A lane sends the block that waits for it, and its symbols
without stuffing begin with the marker of the lane, that SEQ and at most 8 fill words. A receiver that hunts takes the
first valid marker at any symbol offset: its SEQ and LANE stand with it. An elastic buffer slip ends marker lock, and
an ACTIVE lane goes to LOCK. Every other lane stays as it was, and nothing beyond traffic changes. -/
def Obligations.LanesLeaveActiveAndCarryBlocks : Prop :=
  (∀ (l : Fin 66) (s : State), (s.lane l.val).stage = .active →
    ∃ t, exec (.signalLoss l) s = .next t ∧ (t.lane l.val).stage = .detect ∧ (t.lane l.val).signal = false ∧
      (∀ m, m ≠ l.val → t.lane m = s.lane m) ∧ State.Only Part.traffic s t) ∧
  (∀ (l : Fin 66) (s : State), (s.lane l.val).stage = .active →
    ∃ t, exec (.bitLockLoss l) s = .next t ∧ (t.lane l.val).stage = .detect ∧ (t.lane l.val).bitLock = false ∧
      (∀ m, m ≠ l.val → t.lane m = s.lane m) ∧ State.Only Part.traffic s t) ∧
  (∀ (l : Fin 66) (s : State), (s.lane l.val).stage = .active →
    ∃ t, exec (.wordLockLoss l) s = .next t ∧ (t.lane l.val).stage = .lock ∧ (t.lane l.val).wordLock = false ∧
      (∀ m, m ≠ l.val → t.lane m = s.lane m) ∧ State.Only Part.traffic s t) ∧
  (∀ (l : Fin 66) (eye : Eye) (prbs : Nat) (s : State), (s.lane l.val).stage = .active →
    ∃ t, exec (.fomUpdate l eye prbs) s = .next t ∧
      (let fom := min 255 (765 * min eye.low (min eye.mid eye.high) / eye.range)
       let low := if fom < (s.lane l.val).taps.fomFloor then (s.lane l.val).lowUpdates + 1 else 0
       (t.lane l.val).fom = fom ∧ (t.lane l.val).fomMin = min (s.lane l.val).fomMin fom ∧ (t.lane l.val).stage = .active ∧
       (t.lane l.val).lowUpdates = low ∧
       ((s.lane l.val).fomArmed = true → 10 ≤ low →
         (t.lane l.val).fomArmed = false ∧ (t.reg (Reg.lane l.val + 0x14)).getLsbD 4 = true) ∧
       (low < 10 → State.Changes [.freeIdx, .lanes] [Reg.lane l.val + 0x20] [] s t)) ∧
      (∀ m, m ≠ l.val → t.lane m = s.lane m) ∧
      State.Changes [.freeIdx, .lanes, .evt] ((Reg.lane l.val + 0x14) :: (Reg.lane l.val + 0x20) :: Reg.raiseWords) Reg.raiseCtrs s t) ∧
  (∀ (l : Fin 66) (s : State), (s.lane l.val).stage ≠ .doze → s.sideRef l.val = true →
    ∃ t, exec (.pllLockFail l) s = .next t ∧ (t.lane l.val).stage = .removed ∧ (∀ m, m ≠ l.val → t.lane m = s.lane m) ∧
      State.Only Part.traffic s t) ∧
  (∀ (n l phase : Nat) (s : State), (s.framerLanes n).Nodup → l ∈ s.framerLanes n → s.laneSends l = true →
    ∃ ws, ((s.cutRow n phase).lane l).tx.queue = (s.lane l).tx.queue ++ [((s.framer n).txSeq, ws)]) ∧
  (∀ (l : Fin 34) (n phase : Nat) (b : Nat × List (BitVec 64)) (s : State), s.framerOf (l.val + 32) = some n → s.laneSends (l.val + 32) = true →
    s.pattern (l.val + 32) = 0 → s.nearLoop (l.val + 32) = false → (s.lane (l.val + 32)).tx.queue.head? = some b → (s.lane (l.val + 32)).tx.run < 48 →
    ∃ t tx, exec (.markerSend l phase) s = .next t ∧ t = s.setLane (l.val + 32) { s.lane (l.val + 32) with tx := tx } ∧
      tx.queue = (s.lane (l.val + 32)).tx.queue.tail ∧
      ∃ f cap, f ≤ 8 ∧ (Pam4.destuff (tx.sent.map (fun x => Pam4.swap (s.lane (l.val + 32)).txInvert x.toNat)) (s.lane (l.val + 32)).tx.level
        (s.lane (l.val + 32)).tx.run false).1.take 32 = Pam4.ofWord (Marker.make l.val b.1 f cap)) ∧
  (∀ (l : Fin 34) (syms : List (BitVec 2)) (occ : Nat) (m : BitVec 64) (rest : List Nat) (s : State), s.coded (l.val + 32) = true →
    s.nearLoop (l.val + 32) = false → s.pattern (l.val + 32) ≠ 1 → s.pattern (l.val + 32) ≠ 2 → (s.lane (l.val + 32)).rx.expect = none →
    (let n := s.lane (l.val + 32)
     let d := (Pam4.destuff (syms.map (fun x => Pam4.swap n.rxInvert x.toNat)) n.rx.level n.rx.run (decide (n.rx.run = 48))).1
     Pam4.hunt Marker.valid ((n.rx.symbols ++ d.map (fun x => BitVec.ofNat 2 x)).map (fun x => x.toNat)) = some (m, rest)) →
    ∃ t, exec (.markerReceived l syms occ) s = .next t ∧ (t.lane (l.val + 32)).rx.seq = Marker.seq m ∧
      (t.lane (l.val + 32)).rx.lane = Marker.lane m ∧ (∀ k, k ≠ l.val + 32 → t.lane k = s.lane k) ∧ State.Only Part.traffic s t) ∧
  (∀ (l : Fin 34) (s : State), s.coded (l.val + 32) = true → (s.lane (l.val + 32)).wordLock = true →
    ∃ t, exec (.elasticBufferSlip l) s = .next t ∧ (t.lane (l.val + 32)).wordLock = false ∧
      (t.lane (l.val + 32)).stage = (if (s.lane (l.val + 32)).stage = .active then .lock else (s.lane (l.val + 32)).stage) ∧
      (∀ m, m ≠ l.val + 32 → t.lane m = s.lane m) ∧ State.Only Part.traffic s t)

/-- A served write of a lane's control register without CLR_COUNTS, to a lane that is not running, stores PATTERN, a
reserved one as 0, and NEAR_LOOP; to a running lane it leaves both as they are, and one that would change them is
refused. CLR_COUNTS sets the lane's seven counters to 0. No other register changes; with a new PATTERN or NEAR_LOOP
the generator, the checker and the loop of that lane and its port start anew. A read of the figure of merit answers it
and reloads its minimum; a read of a trunk lane's peer word latches the low half for that requester; nothing else
changes but the bus. -/
def Obligations.LaneRegistersAndReads : Prop :=
  (∀ (r : Req) (l : Fin 66) (v : Word) (s : State), s.allows r (Reg.lane l.val + 0x10) = true → s.laneRuns l.val = false → v.getLsbD 8 = false →
    ∃ t, exec (.lanePatternWrite r l v) s = .next t ∧
      t.regField (Reg.lane l.val + 0x10) 0 3 = (if v.toNat % 8 < 4 then v.toNat % 8 else 0) ∧
      State.Changes [.lanes, .hostPorts, .linePorts] [Reg.lane l.val + 0x10] [] s t) ∧
  (∀ (r : Req) (l : Fin 66) (v : Word) (s : State), s.allows r (Reg.lane l.val + 0x10) = true → s.laneRuns l.val = false → v.getLsbD 8 = false →
    ∃ t, exec (.laneNearLoopWrite r l v) s = .next t ∧ (t.reg (Reg.lane l.val + 0x10)).getLsbD 4 = v.getLsbD 4 ∧
      State.Changes [.lanes, .hostPorts, .linePorts] [Reg.lane l.val + 0x10] [] s t) ∧
  (∀ (r : Req) (l : Fin 66) (v : Word) (s : State), s.allows r (Reg.lane l.val + 0x10) = true → s.laneRuns l.val = true → v.getLsbD 8 = false →
    ∃ t, exec (.laneNearLoopWrite r l v) s = .next t ∧ t.regField (Reg.lane l.val + 0x10) 0 5 = s.regField (Reg.lane l.val + 0x10) 0 5 ∧
      (v.getLsbD 4 ≠ (s.reg (Reg.lane l.val + 0x10)).getLsbD 4 → State.Raised 250 s t ∧ (t.reg Reg.idnStopRefused).getLsbD 31 = true)) ∧
  (∀ (l : Fin 66) (s : State), s.allows .pf0 (Reg.lane l.val + 0x10) = true →
    ∃ t, exec (.laneClrCounts l) s = .next t ∧ (∀ k < 7, t.reg (Reg.lane l.val + 0x18 + 4 * k) = 0) ∧
      State.Changes [] ((List.range 7).map (fun k => Reg.lane l.val + 0x18 + 4 * k)) [] s t) ∧
  (∀ (r : Req) (l : Fin 66) (s : State), s.reaches r (Reg.lane l.val + 4) = true → s.answers (Reg.lane l.val + 4) = true →
    ∃ t, exec (.fomRead r l) s = .next t ∧ t.bus.rdata = s.regValue (Reg.lane l.val + 4) ∧
      t.lane l.val = { s.lane l.val with fomMin := (s.lane l.val).fom } ∧ (∀ m, m ≠ l.val → t.lane m = s.lane m) ∧
      State.Only [.bus, .lanes] s t) ∧
  (∀ (r : Req) (l : Fin 34) (s : State), s.reaches r (Reg.lane (l.val + 32) + 0x34) = true → s.answers (Reg.lane (l.val + 32) + 0x34) = true →
    s.laneTrunk (l.val + 32) = true →
    ∃ t, exec (.peerCapHiRead r l) s = .next t ∧ t.bus.rdata = s.regValue (Reg.lane (l.val + 32) + 0x34) ∧
      t.latchOf r (Reg.lane (l.val + 32) + 0x38) = BitVec.ofNat 32 (s.lane (l.val + 32)).cap.toNat ∧ State.Only [.bus, .latch] s t)

/-- An apply commanded by a served write to a base either fits, and the base then has the value the kind gives at the
counter's present value (the shadow offset for SET; its value before the apply for RATE; that plus the signed shadow
offset for STEP and STEP_RATE), the shadow rate for RATE and STEP_RATE and its own rate else, its anchor now, RESULT
0, the counter in TIM_BASE_APPLIED and BASE_APPLIED in TIM_EVENT, and readers see the base as before for the rest of
this cycle; or its offset falls outside 80 bits, and only RESULT changes, to RANGE. No other base changes, and beyond
the registers and counters only the users of time: framers' seconds, circuits, pulse outputs and events. Which users a
jump concerns, and how, is not said here. -/
def Obligations.TimeBasesApply : Prop :=
  ∀ (b : Fin 8) (s : State), ∀ x ∈ ([(1, .timSet b), (2, .timStep b), (3, .timRate b), (4, .timStepRate b)] : List (Nat × Instr)),
    s.allows .pf0 (State.baseReg b.val + 0x14) = true →
    (match (s.base b.val).apply x.1 s.count (s.shadowOffset b.val) (s.shadowRate b.val) with
     | none => exec x.2 s = .next (s.setField (State.baseReg b.val + 0x14) 8 8 0x61)
     | some y =>
       ∃ t, exec x.2 s = .next t ∧ t.base b.val = y ∧ t.baseSeen b.val = s.baseSeen b.val ∧ (∀ c, c ≠ b.val → t.base c = s.base c) ∧
         y.at_ s.count = (if x.1 = 1 then s.shadowOffset b.val
           else if x.1 = 3 then s.baseOn b.val else wrap 96 (s.baseOn b.val + signed 80 (s.shadowOffset b.val))) ∧
         y.rate = (if x.1 = 3 ∨ x.1 = 4 then s.shadowRate b.val else (s.base b.val).rate) ∧ y.anchor = s.count ∧
         t.regField (State.baseReg b.val + 0x14) 8 8 = 0 ∧
         t.reg (State.baseReg b.val + 0x18) = BitVec.ofNat 32 s.count ∧
         t.reg (State.baseReg b.val + 0x1C) = BitVec.ofNat 32 (s.count / 2 ^ 32) ∧
         (t.reg Reg.timEvent).getLsbD 0 = true ∧
         State.Only [.regs, .ctr, .framers, .circuits, .tim, .evt] s t)

/-- A served write of TIM_SNAP stores its BASE field and puts the counter and that base, of one cycle, into the six words
after it. A served pop of the two-step queue puts its oldest record, or zeros where it is empty, into the data words
and takes it from the queue, whose threshold is armed again below half. A served pop of a capture input puts its
oldest edge into its words and takes it from its queue; an empty queue changes nothing (the model's choice: the spec
is silent). An edge that an enabled input selects is queued with the base's value at it; within 50 ns of the edge
recorded before it, or with 8 queued, it is lost, counted and raised; another edge does nothing. Nothing else changes. -/
def Obligations.TimeSnapshotsAndQueues : Prop :=
  (∀ (v : Word) (s : State), s.allows .pf0 Reg.timSnap = true →
    ∃ t, exec (.timSnap v) s = .next t ∧ t.regField Reg.timSnap 0 3 = v.toNat % 8 ∧
      t.words (Reg.timSnap + 4) 6 = State.words96 s.count ++ State.words96 (s.baseNow (v.toNat % 8)) ∧
      State.Changes [] ((List.range 7).map (fun k => Reg.timSnap + 4 * k)) [] s t) ∧
  (∀ s : State, s.allows .pf0 Reg.timTsqPop = true →
    ∃ t, exec .timTsqPop s = .next t ∧ t.words Reg.timTsqData 8 = Blob.toWords 8 ((s.tim.tsq.head?).getD (zeros 32)) ∧
      t.tim = { s.tim with tsq := s.tim.tsq.drop 1,
                           tsqArmed := s.tim.tsqArmed || decide (2 * (s.tim.tsq.length - 1) < s.regField Reg.timControl 0 11) } ∧
      State.Changes [.tim] ((List.range 8).map (fun k => Reg.timTsqData + 4 * k)) [] s t) ∧
  (∀ (j : Fin 2) (s : State), s.allows .pf0 (Reg.timCap + 0x40 * j.val + 8) = true →
    ∃ t, exec (.timCapPop j) s = .next t ∧
      (match (s.cap j.val).queue with
       | [] => t = s
       | e :: q => (t.cap j.val).queue = q ∧ (t.cap j.val).lastAt = (s.cap j.val).lastAt ∧ (∀ k, k ≠ j.val → t.cap k = s.cap k) ∧
           t.words (Reg.timCap + 0x40 * j.val + 0xC) 3 = State.words96 e.time ∧
           t.reg (Reg.timCap + 0x40 * j.val + 0x18) = (if e.rising then 1 else 0)) ∧
      State.Changes [.tim] ((List.range 4).map (fun k => Reg.timCap + 0x40 * j.val + 0xC + 4 * k)) [] s t) ∧
  (∀ (j : Fin 2) (rising : Bool) (phase : Nat) (s : State),
    ∃ t, exec (.captureEdge j rising phase) s = .next t ∧
      (let a := Reg.timCap + 0x40 * j.val
       let selects := if s.regField a 0 2 = 0 then rising = true else (s.regField a 0 2).testBit (if rising then 0 else 1) = true
       let soon := ∃ l, (s.cap j.val).lastAt = some l ∧ s.count + phase ≤ l + 50 * 65536
       if s.regField a 31 1 = 1 ∧ selects then
         (soon ∨ 8 ≤ (s.cap j.val).queue.length → t.tim = s.tim ∧ t.counter (Reg.timCtr + 0x28) = s.counter (Reg.timCtr + 0x28) + 1 ∧
           (t.reg Reg.timEvent).getLsbD 3 = true ∧ State.Raised 211 s t) ∧
         (¬ soon → (s.cap j.val).queue.length < 8 →
           t.cap j.val = { queue := (s.cap j.val).queue ++ [{ time := (s.baseSeen (s.regField a 24 3)).at_ (s.count + phase : Nat), rising := rising }],
                           lastAt := some (s.count + phase) } ∧
           (∀ k, k ≠ j.val → t.cap k = s.cap k) ∧ t.counter (Reg.timCtr + 0x20) = s.counter (Reg.timCtr + 0x20) + 1 ∧
           (t.reg Reg.timEvent).getLsbD 2 = true ∧ State.Raised 210 s t)
       else t = s) ∧
      State.Changes [.tim, .evt] (Reg.timEvent :: Reg.raiseWords) ((Reg.timCtr + 0x20) :: (Reg.timCtr + 0x28) :: Reg.raiseCtrs) s t)

/-- A served write of a disabled pulse output's configuration without ENABLE leaves the output as it was. Enabling a
periodic output sets its next edge to the first not before its base's value; enabling a one-shot whose START lies
ahead waits for it; one whose START has passed ends disabled, with one edge skipped, counted and raised. An edge that
an enabled output is due to place before the core cycle ends is counted twice, in the block and at the output, and
ends after WIDTH; a one-shot places one edge; any other edge changes nothing. A measurement of a line lane in LOCK
counts, and is held as valid in range, else voids the lane's calibration, counts and raises CAL_FAIL; a temperature
update of an ACTIVE calibrated lane sets its temperature parts, of another nothing. Nothing else changes. -/
def Obligations.PulsesAndLaneCalibration : Prop :=
  (∀ (r : Req) (k : Fin 4) (v : Word) (s : State), s.allows r (State.pulseReg k.val) = true → s.pulseOn k.val = false →
    ∃ t, exec (.pulseEnableWrite r k v) s = .next t ∧
      (let a := State.pulseReg k.val
       let u := s.setReg a (t.reg a)
       if v.getLsbD 31 = false then t.pulseOn k.val = false ∧ t.tim = s.tim
       else if v.getLsbD 30 then
         t.pulseOn k.val = true ∧ t.regField a 24 3 = v.toNat / 2 ^ 24 % 8 ∧
         (let v0 := s.baseOn (t.regField a 24 3)
          let n := (t.pulse k.val).next
          v0 ≤ s.pulseStart k.val + n * s.pulsePeriod k.val ∧ (∀ m < n, s.pulseStart k.val + m * s.pulsePeriod k.val < v0)) ∧
         (t.pulse k.val).ends = none
       else if s.baseOn (v.toNat / 2 ^ 24 % 8) ≤ s.pulseStart k.val then
         t.pulseOn k.val = true ∧ t = u.setPulse k.val { next := 0, ends := none }
       else t.pulseOn k.val = false ∧ t.counter (Reg.timCtr + 0x18) = s.counter (Reg.timCtr + 0x18) + 1 ∧ State.Raised 209 s t) ∧
      (∀ j, j ≠ k.val → t.pulse j = s.pulse j) ∧
      State.Changes [.tim, .evt] (State.pulseReg k.val :: Reg.timEvent :: Reg.raiseWords) ((Reg.timCtr + 0x18) :: Reg.raiseCtrs) s t) ∧
  (∀ (k : Fin 4) (s : State),
    ∃ t, exec (.pulseEdge k) s = .next t ∧
      (let a := State.pulseReg k.val
       let v := s.pulseStart k.val + (if s.pulsePeriodic k.val then (s.pulse k.val).next * s.pulsePeriod k.val else 0)
       if s.pulseOn k.val = true ∧ (s.pulsePeriodic k.val = true ∨ (s.pulse k.val).next = 0) ∧
         v < (s.base (s.regField a 24 3)).at_ (State.countAt (s.now + 1)) then
         t.counter (Reg.timCtr + 0x10) = s.counter (Reg.timCtr + 0x10) + 1 ∧ t.reg (a + 0x20) = s.reg (a + 0x20) + 1 ∧
         t.pulse k.val = { next := (s.pulse k.val).next + 1, ends := some (v + s.pulseWidth k.val) } ∧
         t.pulseOn k.val = true ∧ (∀ j, j ≠ k.val → t.pulse j = s.pulse j)
       else t = s) ∧
      State.Changes [.tim] [State.pulseReg k.val + 0x20] [Reg.timCtr + 0x10] s t) ∧
  (∀ (l : Fin 32) (tx rx : Nat) (inRange : Bool) (s : State), (s.lane (l.val + 32)).stage = .lock →
    ∃ t, exec (.laneCalMeasureDone l tx rx inRange) s = .next t ∧ t.counter (Reg.timCtr + 0x30) = s.counter (Reg.timCtr + 0x30) + 1 ∧
      (t.laneCal l.val).valid = inRange ∧
      (if inRange then (t.laneCal l.val).txMeas = tx % 2 ^ 32 ∧ (t.laneCal l.val).rxMeas = rx % 2 ^ 32
       else t.counter (Reg.timCtr + 0x38) = s.counter (Reg.timCtr + 0x38) + 1 ∧ (t.reg Reg.timEvent).getLsbD 5 = true ∧ State.Raised 213 s t) ∧
      (∀ m, m ≠ l.val → t.laneCal m = s.laneCal m) ∧
      State.Changes [.tim, .evt] (Reg.timEvent :: Reg.raiseWords) ((Reg.timCtr + 0x30) :: (Reg.timCtr + 0x38) :: Reg.raiseCtrs) s t) ∧
  (∀ (l : Fin 32) (tx rx : Nat) (s : State),
    ∃ t, exec (.laneCalTempUpdate l tx rx) s = .next t ∧
      (if (s.lane (l.val + 32)).stage = .active ∧ (s.laneCal l.val).valid = true then
         t.laneCal l.val = { s.laneCal l.val with txTemp := tx % 2 ^ 32, rxTemp := rx % 2 ^ 32 } ∧
         (∀ m, m ≠ l.val → t.laneCal m = s.laneCal m) ∧ State.Only [.tim] s t
       else t = s))

/-- A served write of CLR_COUNTS of the time, lookup, association, HBM, key, event and engine-array blocks, of a polder
and of a port sets every counter of that block's or window's range to 0, unless the window is no port's, and changes
no other counter and nothing else. That of the cipher block does so for both directions, and that of a framer sets its
counters and its six seconds counters to 0. -/
def Obligations.CountersCleared : Prop :=
  (∀ (p n : Fin 32) (d : Side) (s : State), ∀ x ∈ ([
      (.timClrCounts, Reg.timControl, Reg.timCtr, Reg.timCtr + 0x50), (.lkpClrCounts, Reg.lkpControl, 0x0800100, 0x0800188),
      (.chnClrCounts, Reg.chnControl, Reg.chnCtr, Reg.chnCtr + 0x58), (.hbmClrCounts, Reg.hbmControl, Reg.hbmCtr, Reg.hbmCtr + 0x38),
      (.keyClrCounts, Reg.keyControl, Reg.keyCtr, Reg.keyCtr + 0x48), (.evtClrCounts, Reg.evtControl, Reg.wrdCtr, Reg.wrdCtr + 0x48),
      (.pldArrayClrCounts, Reg.pldArrayControl, 0x107E100, 0x107E300),
      (.pldClrCounts p, Reg.polder p.val + 0x14, Reg.polder p.val + 0x40, Reg.polder p.val + 0x68),
      (.portClrCounts d n, Reg.port (decide (d = .line)) n.val + 0x08, Reg.port (decide (d = .line)) n.val + 0x40,
        Reg.port (decide (d = .line)) n.val + 0xC0)] : List (Instr × Nat × Nat × Nat)),
    s.allows .pf0 x.2.1 = true →
    ∃ t, exec x.1 s = .next t ∧
      (∀ b, t.counter b = if x.2.2.1 ≤ b ∧ b < x.2.2.2 ∧ s.hidden x.2.1 = false then 0 else s.counter b) ∧ State.Only [.ctr] s t) ∧
  (∀ s : State, s.allows .pf0 Reg.cphControl = true →
    ∃ t, exec .cphClrCounts s = .next t ∧
      (∀ b, t.counter b = if (Reg.cphEncCtr ≤ b ∧ b < Reg.cphEncCtr + 0x38) ∨ (Reg.cphDecCtr ≤ b ∧ b < Reg.cphDecCtr + 0x38) then 0
        else s.counter b) ∧ State.Only [.ctr] s t) ∧
  (∀ (n : Fin 34) (s : State), s.allows .pf0 (Reg.framer n.val + 0x08) = true →
    ∃ t, exec (.trkClrCounts n) s = .next t ∧
      (∀ b, t.counter b = if Reg.framer n.val + 0x40 ≤ b ∧ b < Reg.framer n.val + 0x100 then 0 else s.counter b) ∧
      (∀ b, t.reg b = if Reg.framer n.val + 0x10 ≤ b ∧ b < Reg.framer n.val + 0x28 then 0 else s.reg b) ∧ State.Only [.regs, .ctr] s t)

/-- With the clock running and every lane of the port ACTIVE, an Ethernet frame over a port in PCS lock joins the frames
of the module under the next number, arriving now on its pair and direction, with its bytes, under the CURRENT slot; a
looped port takes the next of its own outputs instead. A trunk frame of TYPE 1 with a well-formed length, or the
oldest one the framer passed on, joins them received whole, with the fields of its core header, if its pair is in
service, and counts in FRAMES_IN of the framer's window; else it counts as not in service and nothing joins. No other
frame changes; beyond the frames (and the framer it is taken from) only what the performance monitor counts. Over a
port with a lane that is not ACTIVE nothing arrives. -/
def Obligations.FramesArrive : Prop :=
  (∀ (p : Fin 32) (dec : Bool) (phase : Nat) (lane : Fin 8) (word : Fin 16375) (given bytes : Bytes) (s : State), s.clockOn = true →
    (s.portLanes dec p.val) ≠ [] → (∀ l ∈ s.portLanes dec p.val, (s.lane l).stage = .active) → s.isEther dec p.val = true →
    (s.port dec p.val).pcsLock = true → bytes ≠ [] →
    (if s.portLooped dec p.val then
       ((((s.portOut dec p.val).sent.take ((s.portOut dec p.val).sent.length - (s.port dec p.val).looped)).getLast?).map (fun o => o.bytes)) = some bytes
     else given = bytes) →
    ∃ t f, exec (.frameArrival p dec phase lane given word) s = .next t ∧ t.frame s.nextFrame = some f ∧ t.nextFrame = s.nextFrame + 1 ∧
      f.pair = p.val ∧ f.dec = dec ∧ f.wire = bytes ∧ f.trunk = none ∧ f.arrival = s.now ∧ f.rx = .arriving ∧ f.stage = .arriving ∧
      f.verdict = none ∧ f.ensign = s.ensign ∧ f.slot = (s.cls.theSlot .current).getD 0 ∧ (∀ id, id ≠ s.nextFrame → t.frame id = s.frame id) ∧
      State.Changes [.frames, .nextFrame, .hostPorts, .linePorts, .evt, .pmu] Reg.pmuWords Reg.pmuCtrs s t ∧
      (∀ l m, (t.port l m) = if s.portLooped dec p.val = true ∧ (l, m) = (dec, p.val) then
        { s.port l m with looped := (s.port l m).looped + 1 } else s.port l m)) ∧
  (∀ (p : Fin 32) (phase : Nat) (lane : Fin 8) (word : Fin 16375) (bytes : Bytes) (s : State), s.clockOn = true →
    (s.portLanes true p.val) ≠ [] → (∀ l ∈ s.portLanes true p.val, (s.lane l).stage = .active) → (s.pair p.val).mode = .trunk →
    (s.framer p.val).sync = .sync → 22 ≤ bytes.length → Ndoath.size bytes = bytes.length → 16 ≤ Ndoath.len bytes → Ndoath.typ bytes = 1 →
    ∃ t, exec (.frameArrival p true phase lane bytes word) s = .next t ∧
      (if s.pairInService p.val then
         ∃ f h, t.frame s.nextFrame = some f ∧ t.nextFrame = s.nextFrame + 1 ∧ f.pair = p.val ∧ f.dec = true ∧ f.wire = bytes ∧
           f.arrival = s.now ∧ f.rx = .good ∧ f.stage = .arriving ∧ f.trunk = some h ∧ h.typ = 1 ∧ h.an = Ndoath.an bytes ∧
           h.len = Ndoath.len bytes ∧ h.chan = beAt bytes 6 3 ∧ h.pn = beAt bytes 9 7 ∧ h.errored = false ∧
           (∀ id, id ≠ s.nextFrame → t.frame id = s.frame id) ∧
           t.counter (Reg.framer p.val + 0x88) = s.counter (Reg.framer p.val + 0x88) + 1 ∧
           State.Changes [.frames, .nextFrame, .evt, .pmu] Reg.pmuWords ((Reg.framer p.val + 0x88) :: Reg.pmuCtrs) s t
       else t.counter (Reg.framer p.val + 0xF8) = s.counter (Reg.framer p.val + 0xF8) + 1 ∧
         State.Changes [] [] [Reg.framer p.val + 0xF8] s t)) ∧
  (∀ (p : Fin 32) (phase pos : Nat) (lane : Fin 8) (word : Fin 16375) (e : Bool) (bytes : Bytes) (r : List (Bool × Nat × Bytes)) (s : State), s.clockOn = true →
    (s.portLanes true p.val) ≠ [] → (∀ l ∈ s.portLanes true p.val, (s.lane l).stage = .active) → (s.pair p.val).mode = .trunk →
    (s.framer p.val).passed = (e, pos, bytes) :: r → Ndoath.typ bytes = 1 ∨ Ndoath.typ bytes = 2 ∨ Ndoath.typ bytes = 5 →
    ∃ t, exec (.frameArrival p true phase lane [] word) s = .next t ∧ t.framer p.val = { s.framer p.val with passed := r } ∧
      (s.pairInService p.val = true → ∃ f h, t.frame s.nextFrame = some f ∧ f.wire = bytes ∧ f.trunk = some h ∧ h.errored = e ∧
        h.typ = Ndoath.typ bytes ∧ t.nextFrame = s.nextFrame + 1) ∧
      (s.pairInService p.val = false → t.frames = s.frames) ∧ State.Only [.regs, .ctr, .framers, .frames, .nextFrame, .evt, .pmu] s t) ∧
  (∀ (p : Fin 32) (dec : Bool) (phase : Nat) (lane : Fin 8) (word : Fin 16375) (bytes : Bytes) (s : State),
    (∃ l ∈ s.portLanes dec p.val, (s.lane l).stage ≠ .active) → exec (.frameArrival p dec phase lane bytes word) s = .next s)

/-- When a frame whose reception goes on ends, the first reason that applies discards it: shorter than 64 bytes, errored
or with a wrong FCS, longer than the port's limit, a MAC control frame, or handed on while its pair was not in
service. It is then gone, counted under that reason at its port unless its verdict was DROP; one that was dropped
before is only gone. Otherwise it counts with its octets as received, and stays, received whole, unless it was dropped
or its output has begun, when it is gone, counted if that output is longer than its limit, or waited only for its end
to reach the steward. What the port's FEC corrected and could not correct in it counts; a codeword that it could not
makes the frame errored. A number that is no frame receiving changes nothing. -/
def Obligations.ReceptionEnds : Prop :=
  (∀ (id : Nat) (errored : Bool) (fec : Nat × Nat × Nat) (f : Frame) (s : State), s.frame id = some f → f.receiving = true →
    ∃ t, exec (.portFrameRx id errored fec) s = .next t ∧
      (let w := Reg.port f.dec f.pair
       let n := f.wire.length
       let limit := if f.dec = true ∧ ((s.pair f.pair).mode = .line ∨ (s.pair f.pair).mode = .tunnel) then
           (s.pair f.pair).maxFrame + (s.pair f.pair).expansion else (s.pair f.pair).maxFrame
       let served := f.stage = .gone ∨ (s.pairInService f.pair = true ∧ f.rx = .arriving)
       let why : Option Nat := if n < 64 then some 0x68
         else if errored = true ∨ 0 < fec.2.1 ∨ fcs (f.wire.take (n - 4)) ≠ f.wire.drop (n - 4) then some 0x60
         else if limit < n then some 0x70
         else if beAt f.wire 12 2 = 0x8808 then some 0x78
         else if served then none else some 0x80
       (f.trunk = none → t.counter (w + 0xA8) = s.counter (w + 0xA8) + BitVec.ofNat 64 fec.1 ∧
         t.counter (w + 0xB0) = s.counter (w + 0xB0) + BitVec.ofNat 64 fec.2.1 ∧ t.counter (w + 0xB8) = s.counter (w + 0xB8) + BitVec.ofNat 64 fec.2.2) ∧
       match why with
       | some c => t.frame id = none ∧
           (f.stage ≠ .gone → f.verdict ≠ some .drop → t.counter (w + c) = s.counter (w + c) + 1) ∧
           (f.stage = .gone → State.Only [.ctr, .frames, .counts, .hbm] s t) ∧ t.counter (w + 0x40) = s.counter (w + 0x40)
       | none => t.counter (w + 0x40) = s.counter (w + 0x40) + 1 ∧ t.counter (w + 0x48) = s.counter (w + 0x48) + BitVec.ofNat 64 n ∧
           (f.stage = .leaving → s.tooLong f.pair = true → f.verdict ≠ some .drop → t.counter (w + 0xA0) = s.counter (w + 0xA0) + 1) ∧
           (if f.stage = .gone ∨ f.stage = .leaving then t.frame id = none
            else if f.stage = .decided ∧ f.verdict = some .divert then t.frame id = none ∧ State.Only [.ctr, .frames, .counts, .stw, .hbm] s t
            else t.frame id = some { f with rx := .good, cnts := [] } ∧
              State.Changes [.frames, .counts] [] [w + 0x40, w + 0x48, w + 0xA8, w + 0xB0, w + 0xB8] s t)) ∧
      (∀ k, k ≠ id → t.frame k = s.frame k) ∧
      State.Only [.regs, .ctr, .hostOut, .lineOut, .frames, .engines, .chn, .tim, .hbm, .evt, .counts, .stw] s t) ∧
  (∀ (id : Nat) (errored : Bool) (fec : Nat × Nat × Nat) (s : State), (∀ f, s.frame id = some f → f.receiving = false) →
    exec (.portFrameRx id errored fec) s = .next s)

/-- A lock change leaves an Ethernet port's locks as given while its lanes are all ACTIVE, else without any; over ACTIVE
lanes, and not looped, local or remote fault begins or ends as given, its begin raised, and remote fault is
transmitted exactly while local fault is received. The port is then ACTIVE exactly if the conditions hold and it was
ACTIVE or no unit is still waking, and leaving ACTIVE raises LEFT_ACTIVE. HI_SER raises its cause. A removed port's
causes stay as they were. No other port changes, and beyond ports, events and which pairs, polders and pipe groups the
capacity keeps, nothing. A port that is none on its side takes nothing. A served loopback write to a port that is not
running stores it; one that would change it at a running port is refused and raised; with CLR_COUNTS the port's
counters are cleared. -/
def Obligations.PortsFollowTheirConditions : Prop :=
  (∀ (d : Side) (n : Fin 32) (x y : Bool) (s : State),
    let line := decide (d = .line)
    let up := (s.portLanes line n.val).all (fun l => decide ((s.lane l).stage = .active))
    ∀ c ∈ [Instr.pcsLockChange d n x y, .localFaultRx d n x, .remoteFaultRx d n x],
      ∃ t, exec c s = .next t ∧
        (if (c = .pcsLockChange d n x y ∧ s.isEther line n.val = false) ∨ (c ≠ .pcsLockChange d n x y ∧ s.hearsFaults line n.val = false) then t = s
         else
           (c = .pcsLockChange d n x y → (t.port line n.val).pcsLock = (x && up) ∧ (t.port line n.val).fecLock = (y && up)) ∧
           (c = .localFaultRx d n x → (t.port line n.val).localFault = x ∧ (t.port line n.val).sendRemote = x ∧
             (x = true → (s.port line n.val).localFault = false → (s.port line n.val).removed = false → (t.reg (Reg.port line n.val + 0x0C)).getLsbD 2 = true)) ∧
           (c = .remoteFaultRx d n x → (t.port line n.val).remoteFault = x ∧
             (x = true → (s.port line n.val).remoteFault = false → (s.port line n.val).removed = false → (t.reg (Reg.port line n.val + 0x0C)).getLsbD 3 = true)) ∧
           (t.port line n.val).active = (t.portUp line n.val && ((s.port line n.val).active || s.unitsReady)) ∧
           ((s.port line n.val).active = true → (t.port line n.val).active = false → (s.port line n.val).removed = false →
             (t.reg (Reg.port line n.val + 0x0C)).getLsbD 1 = true ∧ State.Raised ((if line then 72 else 64) + n.val / 4) s t)) ∧
        ((s.port line n.val).removed = true → t.reg (Reg.port line n.val + 0x0C) = s.reg (Reg.port line n.val + 0x0C)) ∧
        (∀ l m, (l, m) ≠ (line, n.val) → t.port l m = s.port l m) ∧
        State.Changes [.hostPorts, .linePorts, .pairs, .polders, .cph, .evt] ((Reg.port line n.val + 0x0C) :: Reg.raiseWords) Reg.raiseCtrs s t) ∧
  (∀ (d : Side) (n : Fin 32) (s : State),
    let line := decide (d = .line)
    ∃ t, exec (.hiSer d n) s = .next t ∧
      (if s.isEther line n.val = true ∧ (s.port line n.val).removed = false then (t.reg (Reg.port line n.val + 0x0C)).getLsbD 4 = true ∧
         State.Raised ((if line then 72 else 64) + n.val / 4) s t
       else t = s) ∧ State.Changes [.evt] ((Reg.port line n.val + 0x0C) :: Reg.raiseWords) Reg.raiseCtrs s t) ∧
  (∀ (r : Req) (d : Side) (n : Fin 32) (v : Word) (s : State),
    let a := Reg.port (decide (d = .line)) n.val + 0x08
    s.allows r a = true → s.hidden a = false →
    ∃ t, exec (.pcsLoopWrite r d n v) s = .next t ∧
      (t.reg a).getLsbD 0 = (if s.portRuns (decide (d = .line)) n.val then (s.reg a).getLsbD 0 else v.getLsbD 0) ∧
      (s.portRuns (decide (d = .line)) n.val = true → (s.reg a).getLsbD 0 ≠ v.getLsbD 0 →
        State.Raised 250 s t ∧ (t.reg Reg.idnStopRefused).getLsbD 31 = true) ∧
      State.Changes [.hostPorts, .linePorts, .evt] (a :: Reg.idnStopRefused :: Reg.idnEvent :: Reg.raiseWords)
        ((if v.getLsbD 8 then (List.range 0x80).map (fun k => a + 0x38 + k) else []) ++ Reg.raiseCtrs) s t)

/-- A served read of the low half of a counter or other 64-bit value answers its low 32 bits, latches the high 32 bits for
that requester at the address of the high half, and changes nothing else; in a window that is no port's or framer's it
answers 0 and latches nothing. A later served read of the high half of a 64-bit counter by the same requester answers
what was latched and changes nothing but the bus. -/
def Obligations.HalfwordsLatch : Prop :=
  (∀ (r : Req) (a v : Nat) (s : State), s.reaches r a = true → s.answers a = true → s.pairValue a = some v →
    ∃ t, exec (.counterLoRead r a) s = .next t ∧
      (if s.hidden a then t = s.answer 0
       else t.bus.rdata = BitVec.ofNat 32 v ∧ t.latchOf r (a + 4) = BitVec.ofNat 32 (v / 2 ^ 32)) ∧
      (∀ q b, (b, State.reqNo q) ≠ (a + 4, State.reqNo r) → t.latchOf q b = s.latchOf q b) ∧ State.Only [.bus, .latch] s t) ∧
  (∀ (r : Req) (n : Fin 64) (k : Fin 16) (s : State),
    let a := 0x0400040 + 0x400 * n.val + 8 * k.val
    s.pairValue a = some (s.counter a).toNat ∧
    (s.reaches r (a + 4) = true → s.answers (a + 4) = true → s.hidden a = false →
      exec (.registerRead r (a + 4)) s = .next (s.answer (s.latchOf r (a + 4)))))

/-- Bytes arrive and one header is checked. In HUNT a valid one takes the framer to PRESYNC with the next expected past
its frame; another moves the hunt on by four bytes. In PRESYNC a valid one counts towards DELTA and, at DELTA, takes
the framer to SYNC; another returns it to HUNT four bytes past the candidate. In SYNC a valid one, or one whose
single-bit error is corrected, counts, and its frame, once whole, is taken from the stream and kept for its taker or
counted as dropped by its TYPE; the failure that reaches ALPHA counts, takes the framer to HUNT, counts LOST_SYNC and
raises it; one before takes it to the next valid candidate of its scan. Too few bytes only join the stream; an unused
or STOPPED framer takes none. A served FORCE_HUNT takes a framer that stands at a boundary, or hunts, to HUNT there,
and else waits for the boundary behind the frame in progress. A failed deskew leaves a trunk port unaligned and not
ACTIVE, its deskew buffer empty and its cause raised once. The causes of a framer whose port is removed stay as they
were. No other framer changes. -/
def Obligations.TrunkDelineation : Prop :=
  (∀ (n : Fin 34) (more : Bytes) (s : State), s.framerUsed n.val = true → (s.framer n.val).sync ≠ .stopped → (s.framer n.val).force = false →
    (s.framer n.val).off + 6 ≤ (s.framer n.val).rx.length + more.length →
    ∃ t, exec (.trunkHeaderCheck n more) s = .next t ∧
      (let f := { s.framer n.val with rx := (s.framer n.val).rx ++ more }
       let h := slice f.rx f.off 6
       let w := Reg.framer n.val
       match f.sync with
       | .hunt => t = s.setFramer n.val (if Ndoath.valid h then { State.skip f f.off with sync := .presync, v := 0, off := Ndoath.size h }
           else { State.skip f (f.off + 4) with off := 0 })
       | .presync =>
         if Ndoath.valid h = false then t = s.setFramer n.val { f with sync := .hunt, v := 0, off := 4 }
         else if f.v + 1 < s.delta n.val then t = s.setFramer n.val { f with v := f.v + 1, off := f.off + Ndoath.size h }
         else (t.framer n.val).sync = .sync ∧ (t.framer n.val).rx = f.rx ∧ (t.framer n.val).off = f.off + Ndoath.size h ∧
           (t.framer n.val).badRun = 0 ∧ (s.framerOut n.val = false → (t.reg (w + 0x0C)).getLsbD 0 = true)
       | .sync =>
         match (if Ndoath.valid h then some h else Ndoath.corrected h) with
         | some g =>
           if f.off + Ndoath.size g ≤ f.rx.length then
             let fixed := !Ndoath.valid h
             (t.framer n.val).sync = .sync ∧ (t.framer n.val).rx = f.rx.drop (f.off + Ndoath.size g - 6) ∧ (t.framer n.val).off = 6 ∧
             (t.framer n.val).badRun = (if f.byScan then f.badRun else 0) ∧ (t.framer n.val).headers = f.headers + 1 ∧
             t.counter (w + (if fixed then 0x48 else 0x40)) = s.counter (w + (if fixed then 0x48 else 0x40)) + 1 ∧
             (match s.byType n.val g with
              | some none => (t.framer n.val).passed = f.passed ++ [(fixed, f.rxPos + f.off, g ++ Ndoath.descramble (slice f.rx (f.off - 6) 6)
                  (slice f.rx (f.off + 6) (Ndoath.size g - 6)))]
              | some (some c) => (t.framer n.val).passed = f.passed ∧ t.counter c = s.counter c + 1
              | none => (t.framer n.val).passed = f.passed) ∧ State.Only [.framers, .ctr] s t
           else t = s.setFramer n.val f
         | none =>
           (s.alpha n.val ≤ f.badRun + 1 →
             (t.framer n.val).sync = .hunt ∧ (t.framer n.val).rx = f.rx ∧ (t.framer n.val).off = f.off + 4 ∧ (t.framer n.val).badRun = f.badRun + 1 ∧
             t.counter (w + 0x50) = s.counter (w + 0x50) + 1 ∧ t.counter (w + 0x68) = s.counter (w + 0x68) + 1 ∧
             t.counter (w + 0x58) = s.counter (w + 0x58) + 1 ∧ (s.framerOut n.val = false → (t.reg (w + 0x0C)).getLsbD 1 = true)) ∧
           (f.badRun + 1 < s.alpha n.val → ∀ k, State.scanFrom f.rx f.off = some k →
             (t.framer n.val).sync = .sync ∧ (t.framer n.val).rx = f.rx.drop (f.off + 4 * (k + 1) - 6) ∧ (t.framer n.val).off = 6 ∧
             (t.framer n.val).badRun = f.badRun + 1 ∧ (t.framer n.val).byScan = true ∧
             t.counter (w + 0x50) = s.counter (w + 0x50) + 1 ∧ t.counter (w + 0x68) = s.counter (w + 0x68) + 1 ∧ State.Only [.framers, .ctr] s t)
       | .stopped => False) ∧ (s.framerOut n.val = true → t.reg (Reg.framer n.val + 0x0C) = s.reg (Reg.framer n.val + 0x0C)) ∧
      (∀ m, m ≠ n.val → t.framer m = s.framer m) ∧ State.Only [.regs, .ctr, .linePorts, .framers, .pairs, .polders, .cph, .evt] s t) ∧
  (∀ (n : Fin 34) (more : Bytes) (s : State), s.framerUsed n.val = true → (s.framer n.val).force = true →
    (let f := { s.framer n.val with rx := (s.framer n.val).rx ++ more }
     let h := slice f.rx f.off 6
     (f.sync = .presync ∧ f.off ≤ f.rx.length) ∨
       (f.sync = .sync ∧ Ndoath.valid h = true ∧ f.off + 6 ≤ f.rx.length ∧ f.off + Ndoath.size h ≤ f.rx.length)) →
    ∃ t, exec (.trunkHeaderCheck n more) s = .next t ∧ (t.framer n.val).sync = .hunt ∧ (t.framer n.val).force = false ∧
      t.counter (Reg.framer n.val + 0x58) = s.counter (Reg.framer n.val + 0x58) + 1 ∧
      (t.framer n.val).off = (if (s.framer n.val).sync = .sync then 6 else (s.framer n.val).off) ∧
      (∀ m, m ≠ n.val → t.framer m = s.framer m) ∧ State.Only [.regs, .ctr, .linePorts, .framers, .pairs, .polders, .cph, .evt] s t) ∧
  (∀ (n : Fin 34) (more : Bytes) (s : State), s.framerUsed n.val = false ∨ (s.framer n.val).sync = .stopped →
    exec (.trunkHeaderCheck n more) s = .next s) ∧
  (∀ (n : Fin 34) (more : Bytes) (s : State), s.framerUsed n.val = true → (s.framer n.val).sync ≠ .stopped → (s.framer n.val).force = false →
    (s.framer n.val).rx.length + more.length < (s.framer n.val).off + 6 →
    exec (.trunkHeaderCheck n more) s = .next (s.setFramer n.val { s.framer n.val with rx := (s.framer n.val).rx ++ more })) ∧
  (∀ (n : Fin 34) (s : State), s.allows .pf0 (Reg.framer n.val + 0x08) = true → s.framerUsed n.val = true → (s.framer n.val).sync ≠ .stopped →
    ∃ t, exec (.forceHunt n) s = .next t ∧
      (if (s.framer n.val).sync = .hunt ∨ (s.framer n.val).rx.length = (s.framer n.val).off then
         (t.framer n.val).sync = .hunt ∧ (t.framer n.val).rx = (s.framer n.val).rx ∧ (t.framer n.val).off = (s.framer n.val).off ∧
         (t.framer n.val).force = false ∧ t.counter (Reg.framer n.val + 0x58) = s.counter (Reg.framer n.val + 0x58) + 1
       else t = s.setFramer n.val { s.framer n.val with force := true }) ∧
      (∀ m, m ≠ n.val → t.framer m = s.framer m) ∧ State.Only [.regs, .ctr, .linePorts, .framers, .pairs, .polders, .cph, .evt] s t) ∧
  (∀ (n : Fin 32) (s : State), (s.pair n.val).mode = .trunk →
    ∃ t, exec (.deskewFail n) s = .next t ∧ (t.framer n.val).aligned = false ∧ (t.port true n.val).active = false ∧
      (t.framer n.val).skewed = true ∧ ((s.framer n.val).skewed = false → s.framerOut n.val = false → (t.reg (Reg.framer n.val + 0x0C)).getLsbD 3 = true) ∧
      (s.framerOut n.val = true → t.reg (Reg.framer n.val + 0x0C) = s.reg (Reg.framer n.val + 0x0C)) ∧
      (∀ l ∈ s.framerLanes n.val, Tab.find t.deskew l = none) ∧ (∀ m, m ≠ n.val → t.framer m = s.framer m) ∧
      State.Only [.regs, .ctr, .linePorts, .framers, .deskew, .pairs, .polders, .cph, .evt] s t)

/-- One MONITOR frame goes out on the output of a framer with a lane that sends, STOPPED or not, in a millisecond that has
had none and where a gap has room: it is sent with the device number, the port, RDI and the totals at the first place
free in the stream, a gap before it below 24 bytes being filled by the PAD of the frame before, and its sequence moves
on; otherwise nothing is sent. A payload of 16 bytes in SYNC counts, sets what the far end says of RDI, whose begin is
raised, and the totals it gives; the next one gives the far second the differences; another length counts as a dropped
frame and out of SYNC nothing is taken. A second that closes while seconds are counted enters the near end's class
into its seconds counters and starts the next second, with the far end's class where a MONITOR frame came and waiting
where none did. The causes of a framer whose port is removed stay as they were. No other framer changes. -/
def Obligations.MonitorFramesAndSeconds : Prop :=
  (∀ (n : Fin 34) (s : State),
    ∃ t, exec (.monitorSend n) s = .next t ∧
      (if s.framerUsed n.val = true ∧ (s.framerLanes n.val).any s.laneSends = true ∧ (s.framer n.val).monMs ≠ some s.milli ∧ s.monitorRoom n.val = true then
         (let w := s.framerWidth n.val
          let place := max (Ndoath.streamAt w (Rate.at_ s.now 0)) (s.streamEnd n.val)
          ∃ o l, (t.portOut true n.val).sent = o :: l ∧ l.length = (s.portOut true n.val).sent.length ∧ o.start = Rate.trunk w place ∧
           (let gap := Ndoath.streamAt w o.start - s.streamEnd n.val
            gap = 0 ∨ 24 ≤ gap → l = (s.portOut true n.val).sent) ∧
           o.bytes.drop 6 = s.monitorPayload n.val ++ zeros 2 ∧ Ndoath.typ o.bytes = 3 ∧ Ndoath.valid o.bytes = true ∧
           (t.portOut true n.val).busyUntil = o.start + Rate.trunk w 24) ∧
         (t.framer n.val).mseq = ((s.framer n.val).mseq + 1) % 2 ^ 32 ∧ (t.framer n.val).monMs = some s.milli ∧
         State.Only [.lineOut, .framers] s t
       else t = s) ∧ (∀ m, m ≠ n.val → t.framer m = s.framer m ∧ t.portOut true m = s.portOut true m)) ∧
  (∀ (n : Fin 34) (p : Bytes) (s : State), p ≠ [] →
    ∃ t, exec (.monitorRx n p) s = .next t ∧
      (let w := Reg.framer n.val
       let f := s.framer n.val
       let rdi := (p.getD 3 0).getLsbD 0
       if f.sync ≠ .sync then t = s
       else if p.length ≠ 16 then t.counter (w + 0x70) = s.counter (w + 0x70) + 1 ∧ State.Changes [] [] [w + 0x70] s t
       else t.counter (w + 0x98) = s.counter (w + 0x98) + 1 ∧ (t.framer n.val).rdiRx = rdi ∧
         (t.framer n.val).farTotals = some (beAt p 4 4, beAt p 8 4) ∧
         (s.framerOut n.val = true → t.reg (w + 0x0C) = s.reg (w + 0x0C)) ∧
         (rdi = true → f.rdiRx = false → s.framerOut n.val = false → (t.reg (w + 0x0C)).getLsbD 4 = true) ∧
         (f.farTotals = none → (t.framer n.val).far = f.far ∧ (t.framer n.val).farSeen = f.farSeen) ∧
         (∀ e b, f.farTotals = some (e, b) → f.farPending = 0 → s.pmRuns n.val = true →
           (t.framer n.val).farSeen = true ∧ (t.framer n.val).far.blocks = f.far.blocks + (beAt p 8 4 + 2 ^ 32 - b) % 2 ^ 32 ∧
           (t.framer n.val).far.errored = f.far.errored + (beAt p 4 4 + 2 ^ 32 - e) % 2 ^ 32)) ∧
      (∀ m, m ≠ n.val → t.framer m = s.framer m) ∧ State.Only [.regs, .ctr, .framers, .evt] s t) ∧
  (∀ (n : Fin 34) (s : State), s.framerUsed n.val = true → s.pmRuns n.val = true →
    ∃ t, exec (.pmSecondClose n) s = .next t ∧
      (let w := Reg.framer n.val
       let f := s.framer n.val
       let c := f.near.classify
       (t.framer n.val).near.blocks = 0 ∧ (t.framer n.val).near.errored = 0 ∧ (t.framer n.val).near.falseLock = false ∧
       (t.framer n.val).near.defect = decide (f.sync ≠ .sync) ∧ (t.framer n.val).resume = none ∧
       (s.framerOut n.val = true → t.reg (w + 0x0C) = s.reg (w + 0x0C)) ∧
       (f.near.unavailable = false → c.ses = false →
         t.reg (w + 0x10) = s.reg (w + 0x10) + (if c.es then 1 else 0) ∧ t.reg (w + 0x14) = s.reg (w + 0x14) ∧ t.reg (w + 0x18) = s.reg (w + 0x18) ∧
         t.counter (w + 0xA0) = s.counter (w + 0xA0) + BitVec.ofNat 64 c.bbe) ∧
       (f.near.unavailable = false → c.ses = true → f.near.recent.length < 9 →
         t.reg (w + 0x10) = s.reg (w + 0x10) + (if c.es then 1 else 0) ∧ t.reg (w + 0x14) = s.reg (w + 0x14) + 1) ∧
       (f.near.unavailable = false → c.ses = true → f.near.recent.length = 9 →
         (t.framer n.val).near.unavailable = true ∧ t.reg (w + 0x18) = s.reg (w + 0x18) + 10 ∧ (s.framerOut n.val = false → (t.reg (w + 0x0C)).getLsbD 6 = true)) ∧
       (f.near.unavailable = true → c.ses = true → (t.framer n.val).near.unavailable = true ∧ t.reg (w + 0x18) = s.reg (w + 0x18) + 1) ∧
       (f.farSeen = false → (t.framer n.val).farPending = f.farPending + 1) ∧ (f.farSeen = true → (t.framer n.val).farSeen = false)) ∧
      (∀ m, m ≠ n.val → t.framer m = s.framer m) ∧ State.Only [.regs, .ctr, .framers, .evt] s t)

/-- A served write that enables a circuit keeps ENABLE if the pool has its cells, which it takes, with the spillway empty;
else ENABLE stays 0 and the pool as it was. One that leaves an enabled circuit's ENABLE at 0 empties the spillway and
returns its cells. At an instant its base reaches a playing circuit emits the frame expected, if it is the oldest,
else its last one again, counted, and the expected number moves on unless the spillway was empty; a frame still
waiting is dropped first, and counted. A circuit that does not play, or whose instant is not due, does nothing. A
frame that waits goes out on the pair's host port with its FCS when its gap has room for it with preamble and gap
before the next packet frame scheduled and the pair is in service, counted with its octets; in standby it is
suppressed instead, and counted; else it waits on. No other circuit changes. -/
def Obligations.CircuitsReserveAndPlay : Prop :=
  (∀ (r : Req) (c : Fin 4096) (v : Word) (s : State), s.allows r (Reg.circuit c.val) = true → s.circEnabled c.val = false → v.getLsbD 31 = true →
    ∃ t, exec (.circuitEnableWrite r c v) s = .next t ∧
      (let cells := t.circDepth c.val * (t.regField (Reg.circuit c.val) 16 2 + 1)
       if cells ≤ s.poolFree then t.circEnabled c.val = true ∧ t.poolFree = s.poolFree - cells ∧
         (t.circuit c.val).frames = [] ∧ (t.circuit c.val).playing = false ∧ (t.circuit c.val).cells = cells
       else t.circEnabled c.val = false ∧ t.poolFree = s.poolFree ∧ t.circuits = s.circuits) ∧
      (∀ d, d ≠ c.val → t.circuit d = s.circuit d) ∧ State.Changes [.poolFree, .circuits] [Reg.circuit c.val] [] s t) ∧
  (∀ (r : Req) (c : Fin 4096) (v : Word) (s : State), s.allows r (Reg.circuit c.val) = true → s.circEnabled c.val = true → v.getLsbD 31 = false →
    ∃ t, exec (.circuitEnableWrite r c v) s = .next t ∧ t.circEnabled c.val = false ∧ (t.circuit c.val).frames = [] ∧
      (t.circuit c.val).playing = false ∧ t.poolFree = s.poolFree + (s.circuit c.val).cells ∧ (∀ d, d ≠ c.val → t.circuit d = s.circuit d) ∧
      State.Changes [.poolFree, .circuits, .evt] (Reg.circuit c.val :: Reg.idnStopRefused :: Reg.idnEvent :: Reg.raiseWords) Reg.raiseCtrs s t) ∧
  (∀ (c : Fin 4096) (s : State),
    ∃ t, exec (.playoutInstant c) s = .next t ∧
      (let q := s.circuit c.val
       let w := Reg.framer (s.circPair c.val)
       if q.playing = true ∧ q.start + q.instants * s.circPeriod c.val < (s.base (s.circBase c.val)).at_ (State.countAt (s.now + 1)) then
         (match q.frames with
          | h :: r => (t.circuit c.val).waiting = (if h.seq = q.rxNext then some h.bytes else q.last) ∧
              (t.circuit c.val).rxNext = (q.rxNext + 1) % 65536 ∧
              (h.seq = q.rxNext → (s.circDepth c.val ≠ 0 → (t.circuit c.val).frames = r ∧ (t.circuit c.val).missed = 0)) ∧
              (h.seq ≠ q.rxNext → t.counter (w + 0xD0) = s.counter (w + 0xD0) + 1)
          | [] => (t.circuit c.val).waiting = q.last ∧ (t.circuit c.val).rxNext = q.rxNext ∧ t.counter (w + 0xC8) = s.counter (w + 0xC8) + 1) ∧
         t.counter (w + 0xD8) = s.counter (w + 0xD8) + (if q.waiting.isSome then 1 else 0)
       else t = s) ∧
      (∀ d, d ≠ c.val → t.circuit d = s.circuit d) ∧ State.Only [.regs, .ctr, .circuits, .evt] s t) ∧
  (∀ (c : Fin 4096) (s : State),
    ∃ t, exec (.playoutEmit c) s = .next t ∧
      (let p := s.circPair c.val
       match (s.circuit c.val).waiting with
       | none => t = s
       | some b =>
         let frame := b ++ fcs b
         let start := Rate.at_ s.now 0
         let free := s.etherFits false p start = true ∧
           (∀ e ∈ s.frames, State.scheduled e.2 p = true → ∀ d, e.2.depart = some d →
             start + Rate.ether (s.pair p).width (frame.length + 20) ≤ State.departAt e.2 d)
         (¬ (free ∧ s.pairInService p = true) → t = s) ∧
         (free → s.pairInService p = true → t.circuit c.val = { s.circuit c.val with waiting := none } ∧
           (s.pp.outputs = false → t.counter (Reg.wrdCtr + 0x30) = s.counter (Reg.wrdCtr + 0x30) + 1 ∧ t.hostOut = s.hostOut) ∧
           (s.pp.outputs = true → (∃ o, (t.portOut false p).sent = o :: (s.portOut false p).sent ∧ o.bytes = frame ∧ o.cycle = s.now ∧ o.start = start) ∧
             (t.portOut false p).busyUntil = start + Rate.ether (s.pair p).width frame.length ∧ t.counter (Reg.port false p + 0x50) = s.counter (Reg.port false p + 0x50) + 1 ∧
             t.counter (Reg.port false p + 0x58) = s.counter (Reg.port false p + 0x58) + BitVec.ofNat 64 frame.length))) ∧
      (∀ d, d ≠ c.val → t.circuit d = s.circuit d) ∧ State.Only [.ctr, .hostOut, .circuits] s t)

/-- A frame that arrives, passes the port layer and is received well or of a pair in service is counted and numbered in
its direction at its hand-off. With nothing found wrong in the entries used: a parse that fails counts with its reason
and the frame takes its pair's default action; a key that no entry matches counts and takes it too; a match counts,
also at its entry, and its action hands the frame on with its program, gives it DROP under DROP_RULE, DIVERT, or
BYPASS where its pair permits and else DROP. A default action, a DIVERT and a BYPASS are counted as such, and a frame
with a verdict waits out the engine stage with it. A parity error found in the node used for a header marks that node
faulty. A frame of a pair not in service is refused. No other frame changes. -/
def Obligations.ClassifierConcludes : Prop :=
  ∀ (id : Nat) (err : ClsErr) (f : Frame) (s : State), s.frame id = some f → f.stage = .arriving → s.passes f = true →
    ∃ t, exec (.classifierHandoff id err) s = .next t ∧
      (let c := State.clsCtr f.dec
       let one := fun (a : Nat) => t.counter a = s.counter a + 1
       let rule := fun (ctr : Nat) (act : DefAct) => match act with
         | .drop => one (c ctr) ∧ ∃ g, t.frame id = some g ∧ g.stage = .engine ∧ g.verdict = some .drop
         | .divert => one (c 0x48) ∧ ∃ g, t.frame id = some g ∧ g.stage = .engine ∧ g.verdict = some .divert
         | .bypass => one (c 0x50) ∧ ∃ g, t.frame id = some g ∧ g.stage = .engine ∧ g.verdict = some .bypass
       if f.rx = .good ∨ s.pairInService f.pair = true then
         one (c 0) ∧ (if f.dec then t.decSeq = (s.decSeq + 1) % 2 ^ 48 ∧ t.encSeq = s.encSeq
           else t.encSeq = (s.encSeq + 1) % 2 ^ 48 ∧ t.decSeq = s.decSeq) ∧
         (∀ hop n, err = .node hop → Parse.nodeUsed (s.cls.node f.slot f.dec) (s.nodeFaulty f) (s.seen f)
             (State.window f (s.cls.pairEntry f.slot f.pair)) (s.seen f).length
             (State.startNode f (s.cls.pairEntry f.slot f.pair)) hop.val = some n →
           Cls.faultyKey f.dec n ∈ (t.cls.slot f.slot).faulty) ∧
         (err = .none →
           (match (s.parseOf f).fail with
            | some r => one (c 0x18) ∧ one (c r.ctr) ∧ rule 0x30 (if f.dec then (s.pair f.pair).defDec else (s.pair f.pair).defEnc)
            | none =>
              match s.win f (s.find f (s.parseOf f) false).1.key with
              | none => one (c 0x10) ∧ rule 0x28 (if f.dec then (s.pair f.pair).defDec else (s.pair f.pair).defEnc)
              | some (i, e) =>
                one (c 0x08) ∧ Tab.get (fun _ => 0) (if f.dec then t.cls.hitDec else t.cls.hitEnc) i =
                  Tab.get (fun _ => 0) (if f.dec then s.cls.hitDec else s.cls.hitEnc) i + 1 ∧
                (let act := field e.result.toNat 23 2
                 if act = 0 then ∃ g, t.frame id = some g ∧ g.stage = .handed ∧ g.program = field e.result.toNat 50 14 ∧ g.pair = f.pair ∧
                     g.seq = (if f.dec then s.decSeq else s.encSeq) ∧ g.wire = f.wire
                 else if act = 1 then rule 0x38 .drop
                 else if act = 2 then rule 0 .divert
                 else if (s.pair f.pair).bypassPermit then rule 0 .bypass else rule 0x40 .drop)))
       else t = s.setFrame id { f with rx := .refused }) ∧
      (∀ k, k ≠ id → t.frame k = s.frame k) ∧
      State.Only [.regs, .ctr, .frames, .encSeq, .decSeq, .cls, .engines, .tim, .hbm, .evt, .pmu] s t

/-- A served OPEN is refused with BUSY while a command or sweep runs, without a FREE slot, or with the number of a slot
not FREE; else the lowest FREE slot opens with its number. COMMIT and ABANDON are refused with BUSY, or without a
PENDING slot; COMMIT makes the PENDING slot CURRENT and the CURRENT one RETIRING and raises COMMITTED; ABANDON sweeps
the PENDING slot. RESULT holds the refusal, which is raised, or 0. An OPENING slot becomes PENDING with the CURRENT
one's graphs and pair table under its own number; a RETIRING slot that no frame holds is swept; the lowest slot being
swept ends FREE, off every TCAM entry and pattern. Else these change nothing; no other slot changes, and beyond the
classifier and the blocks of the program stores only RESULT and events. -/
def Obligations.EnsignsChange : Prop :=
  (∀ s : State, s.allows .pf0 Reg.clsEnsignCmd = true →
    ∀ x : Instr, (x = .ensCommit ∨ x = .ensAbandon ∨ ∃ num, x = .ensOpen num) →
      ∃ t, exec x s = .next t ∧
        (let refusal : Option Nat := if s.cls.ensignBusy then some 0x01 else match x with
           | .ensOpen num => if s.cls.theSlot .free = none then some 0x40 else if s.cls.live num.val then some 0x43 else none
           | _ => if s.cls.theSlot .pending = none then some 0x44 else none
         match refusal with
         | some r => t.regField Reg.clsEnsignStatus 8 8 = r ∧ t.cls = s.cls ∧ (t.reg Reg.clsEvent).getLsbD 2 = true ∧ State.Raised 98 s t
         | none => t.regField Reg.clsEnsignStatus 8 8 = 0 ∧
             (match x with
              | .ensOpen num => ∀ k, s.cls.theSlot .free = some k → (t.cls.slot k).state = .opening ∧ (t.cls.slot k).ensign = num.val ∧
                  (∀ j, j ≠ k → t.cls.slot j = s.cls.slot j)
              | .ensCommit => ∀ k, s.cls.theSlot .pending = some k → t.cls.slot k = { s.cls.slot k with state := .current } ∧
                  (∀ c, s.cls.theSlot .current = some c → t.cls.slot c = { s.cls.slot c with state := .retiring }) ∧
                  (∀ j, j ≠ k → s.cls.theSlot .current ≠ some j → t.cls.slot j = s.cls.slot j) ∧
                  (t.reg Reg.clsEvent).getLsbD 0 = true ∧ State.Raised 96 s t
              | _ => ∀ k, s.cls.theSlot .pending = some k → t.cls.slot k = { s.cls.slot k with state := .sweeping } ∧
                  (∀ j, j ≠ k → t.cls.slot j = s.cls.slot j))) ∧
        State.Changes [.cls, .evt] (Reg.clsEnsignStatus :: Reg.clsEvent :: Reg.raiseWords) Reg.raiseCtrs s t) ∧
  (∀ s : State, ∃ t, exec .openingDone s = .next t ∧
    (match s.cls.theSlot .opening, s.cls.theSlot .current with
     | some k, some c => t.cls.slot k = { s.cls.slot c with state := .pending, ensign := (s.cls.slot k).ensign } ∧
         (∀ j, j ≠ k → t.cls.slot j = s.cls.slot j)
     | _, _ => t = s) ∧ State.Only [.cls, .polders] s t) ∧
  (∀ (n : Fin 4) (s : State), exec (.ensignDrained n) s = .next
    (if (s.cls.slot n.val).state = .retiring ∧ s.slotFrames n.val = 0 then
      { s with cls := s.cls.setSlot n.val { s.cls.slot n.val with state := .sweeping } } else s)) ∧
  (∀ s : State, ∃ t, exec .sweepDone s = .next t ∧
    (match s.cls.theSlot .sweeping with
     | some k => t.cls.slot k = ClsSlot.empty ∧ (∀ j, j ≠ k → t.cls.slot j = s.cls.slot j) ∧
         (∀ dec, ∀ e ∈ t.cls.tcam dec, e.2.slots.testBit k = false) ∧ (∀ e ∈ t.cls.patterns, e.2.slots.testBit k = false) ∧
         (t.reg Reg.clsEvent).getLsbD 1 = true ∧ State.Raised 97 s t
     | none => t = s) ∧ State.Changes [.cls, .polders, .evt] (Reg.clsEvent :: Reg.raiseWords) Reg.raiseCtrs s t)

/-- A served access command takes the store, slot, index and data of the registers, or is refused with the first code that
applies, in RESULT and raised, and the access in progress stands. An access that ends is checked again, and then a
READ puts the words of its entry into the data registers; WRITE, JOIN, LEAVE, REPAIR and CLEAR change the stores;
RESULT is 0. A JOIN or LEAVE of a TCAM entry sets or clears the PENDING slot's bit in its SLOTS, and a WRITE leaves it
with that bit alone. CLR_COUNTS zeroes every counter and hit counter. A scrub visit that finds an error in a TCAM
entry or pattern or an uncorrected result disables it, marks a node faulty, and counts a corrected result; all but
that last raise their event. -/
def Obligations.ClassifierAccesses : Prop :=
  (∀ s : State, s.allows .pf0 Reg.clsAccCmd = true →
    ∀ x ∈ ([(1, .clsRead), (2, .clsWrite), (3, .clsJoin), (4, .clsLeave), (5, .clsRepair), (6, .clsClear)] : List (Nat × Instr)),
    let v := s.regN Reg.clsAccAddr
    let a : ClsAccess := { cmd := x.1, store := v / 2 ^ 28 % 16, slot := v / 2 ^ 24 % 4, index := v % 16384, data := s.words Reg.clsAccData 48 }
    ∃ t, exec x.2 s = .next t ∧
      (match s.cls.accessRefusal a with
       | some r => t.regField Reg.clsAccStatus 8 8 = r ∧ t.cls = s.cls ∧ (t.reg Reg.clsEvent).getLsbD 2 = true ∧ State.Raised 98 s t ∧
           State.Changes [.evt] (Reg.clsAccStatus :: Reg.clsEvent :: Reg.raiseWords) Reg.raiseCtrs s t
       | none => t = { s with cls := { s.cls with acc := some a } }) ∧
      (s.cls.acc.isSome = true → t.cls.acc = s.cls.acc)) ∧
  (∀ (a : ClsAccess) (s : State), s.cls.acc = some a →
    ∃ t, exec .clsAccessDone s = .next t ∧ t.cls.acc = none ∧
      (let c := { s.cls with acc := none }
       match c.accessRefusal a with
       | some r => t.regField Reg.clsAccStatus 8 8 = r ∧ t.cls = c
       | none => t.regField Reg.clsAccStatus 8 8 = 0 ∧ t.cls = (if a.cmd = 1 then c else c.apply a) ∧
           (a.cmd = 1 → t.words Reg.clsAccData (c.readWords a).length = c.readWords a) ∧
           (∀ pend, s.cls.theSlot .pending = some pend → a.store ≤ 1 →
             (let old := Tab.get (fun _ => TcamEntry.empty) (s.cls.tcam (decide (a.store = 1))) a.index
              let new := Tab.get (fun _ => TcamEntry.empty) (t.cls.tcam (decide (a.store = 1))) a.index
              (a.cmd = 2 → new.slots = 2 ^ pend) ∧ (a.cmd = 3 → new = { old with slots := old.slots ||| 2 ^ pend }) ∧
              (a.cmd = 4 → new.slots.testBit pend = false) ∧ (a.cmd = 5 → new.disabled = false ∧ new.slots = old.slots)))) ∧
      State.Only [.regs, .ctr, .cls, .evt] s t) ∧
  (∀ s : State, s.allows .pf0 Reg.clsControl = true →
    ∃ t, exec .clsClrCounts s = .next t ∧ (∀ b, t.counter b = if 0x0600100 ≤ b ∧ b < 0x0600300 then 0 else s.counter b) ∧
      t.cls = { s.cls with hitEnc := [], hitDec := [] } ∧ State.Only [.ctr, .cls] s t) ∧
  (∀ (store : Fin 8) (slot : Fin 4) (index : Nat) (err : ScrubErr) (s : State),
    ∃ t, exec (.clsScrubVisit store slot index err) s = .next t ∧
      (let dec := store.val % 2 = 1
       if err = .none ∨ Cls.storeSize store.val ≤ index ∨ store.val = 5 then t = s
       else if store.val ≤ 1 ∨ (6 ≤ store.val ∧ err = .double) then
         (Tab.get (fun _ => TcamEntry.empty) (t.cls.tcam (decide dec)) index).disabled = true ∧ t.cls.tcam (!decide dec) = s.cls.tcam (!decide dec) ∧
         State.Raised (if store.val ≤ 1 then 99 else 100) s t
       else if store.val = 2 then (Tab.get (fun _ => Pattern.empty) t.cls.patterns index).disabled = true ∧ State.Raised 102 s t
       else if store.val ≤ 4 then Cls.faultyKey (decide (store.val = 4)) index ∈ (t.cls.slot slot.val).faulty ∧ State.Raised 101 s t
       else t.counter (State.clsCtr (decide dec) 0xB0) = s.counter (State.clsCtr (decide dec) 0xB0) + 1 ∧ t.cls = s.cls) ∧
      State.Changes [.cls, .evt] (Reg.clsParity :: Reg.clsEvent :: Reg.raiseWords)
        (State.clsCtr (decide (store.val % 2 = 1)) 0xB0 :: Reg.raiseCtrs) s t)

/-- An engine that executes ADD, SUB, AND, OR, XOR, SHL or SHR, its immediate form with IMM zero-extended, or CSUM writes
the result of its operands to G[D], G0 staying 0, sets Z where the result is 0, and goes on to the next word in one
executed cycle; every other register, flag, byte and tag of the context, every other context, and beyond the engines
what is not the performance monitor's are as before. CSUM's result is a sum below 2^16 that is congruent, modulo
65,535, to A's four halfwords and B's lowest. -/
def Obligations.ArithmeticWords : Prop :=
  (∀ (e : Fin 1024) (k : Nat) (c : Ctx) (f : Frame) (w : BitVec 64) (s : State), ∀ x ∈ ([
      (0x08, .wAdd e, fun a b => a + b), (0x09, .wSub e, fun a b => a - b), (0x0A, .wAnd e, fun a b => a &&& b), (0x0B, .wOr e, fun a b => a ||| b),
      (0x0C, .wXor e, fun a b => a ^^^ b), (0x0D, .wShl e, fun a b => a <<< (b.toNat % 64)), (0x0E, .wShr e, fun a b => a >>> (b.toNat % 64)),
      (0x10, .wAddi e, fun a b => a + b), (0x11, .wSubi e, fun a b => a - b), (0x12, .wAndi e, fun a b => a &&& b), (0x13, .wOri e, fun a b => a ||| b),
      (0x14, .wXori e, fun a b => a ^^^ b), (0x15, .wShli e, fun a b => a <<< (b.toNat % 64)), (0x16, .wShri e, fun a b => a >>> (b.toNat % 64)),
      (0x18, .wCsum e, Ctx.onesSum)] : List (Nat × Instr × (BitVec 64 → BitVec 64 → BitVec 64))),
    s.Runs e.val x.1 k c f w →
    ∃ t y, exec x.2.1 s = .next t ∧ State.Leaves e.val k y s t ∧
      (let v := x.2.2 (c.g (w.toNat / 2 ^ 50 % 16))
         (if 0x10 ≤ x.1 ∧ x.1 ≤ 0x16 then BitVec.ofNat 64 (w.toNat % 2 ^ 48) else c.g (w.toNat / 2 ^ 46 % 16))
       (∀ n, y.g n = if n = w.toNat / 2 ^ 54 % 16 ∧ n ≠ 0 then v else c.g n) ∧
       y = { c with regs := y.regs, z := decide (v = 0), pc := c.pc + 1, executed := c.executed + 1 }) ∧
      State.Changes [.engines, .evt, .pmu] Reg.pmuWords Reg.pmuCtrs s t) ∧
  (∀ a b : BitVec 64, (Ctx.onesSum a b).toNat < 65536 ∧
    (Ctx.onesSum a b).toNat % 65535 = (a.toNat % 65536 + a.toNat / 2 ^ 16 % 65536 + a.toNat / 2 ^ 32 % 65536 + a.toNat / 2 ^ 48 + b.toNat % 65536) % 65535)

/-- NOP only goes on. MOV, LDI, LDH and SEL write G[D] and no flag; CMP and CMPI set Z, C and S by equality and the
unsigned and signed order, TST sets Z where no bit of IMM is set in G[A]; each takes one cycle and changes nothing
else of the context. LDC puts a field of the context in G[D]; STC puts the low bits of G[D] into a field, bytes of the
frame beyond its end staying as they were; either faults with reason 4 on a field beyond the context, STC with reason
5 on one that touches the classifier's and framer's metadata. The field starts at OFFSET, plus G[A]'s low 12 bits with
IDX. -/
def Obligations.MovingAndComparingWords : Prop :=
  (∀ (e : Fin 1024) (k : Nat) (c : Ctx) (f : Frame) (w : BitVec 64) (s : State), ∀ x ∈ ([
      (0x00, .wNop e, c.g (w.toNat / 2 ^ 54 % 16)), (0x03, .wMov e, c.g (w.toNat / 2 ^ 50 % 16)), (0x04, .wLdi e, BitVec.ofNat 64 (w.toNat % 2 ^ 48)),
      (0x05, .wLdh e, BitVec.ofNat 64 ((c.g (w.toNat / 2 ^ 54 % 16)).toNat % 2 ^ 48 + w.toNat % 2 ^ 16 * 2 ^ 48)),
      (0x06, .wSel e, if c.z then c.g (w.toNat / 2 ^ 50 % 16) else c.g (w.toNat / 2 ^ 46 % 16))] : List (Nat × Instr × BitVec 64)),
    s.Runs e.val x.1 k c f w →
    ∃ t y, exec x.2.1 s = .next t ∧ State.Leaves e.val k y s t ∧
      (∀ n, y.g n = if n = w.toNat / 2 ^ 54 % 16 ∧ n ≠ 0 then x.2.2 else c.g n) ∧
      y = { c with regs := y.regs, pc := c.pc + 1, executed := c.executed + 1 } ∧ (x.1 = 0 → y.regs = c.regs) ∧
      State.Changes [.engines, .evt, .pmu] Reg.pmuWords Reg.pmuCtrs s t) ∧
  (∀ (e : Fin 1024) (k : Nat) (c : Ctx) (f : Frame) (w : BitVec 64) (s : State),
    ∀ x ∈ ([(0x0F, .wCmp e), (0x17, .wCmpi e), (0x19, .wTst e)] : List (Nat × Instr)), s.Runs e.val x.1 k c f w →
    ∃ t y, exec x.2 s = .next t ∧ State.Leaves e.val k y s t ∧
      (let a := c.g (w.toNat / 2 ^ 50 % 16)
       let b := if x.1 = 0x0F then c.g (w.toNat / 2 ^ 46 % 16) else BitVec.ofNat 64 (w.toNat % 2 ^ 48)
       y = (if x.1 = 0x19 then { c with z := decide (a &&& b = 0), pc := c.pc + 1, executed := c.executed + 1 }
         else { c with z := decide (a = b), c := decide (a.toNat < b.toNat), s := decide (a.toInt < b.toInt), pc := c.pc + 1, executed := c.executed + 1 })) ∧
      State.Changes [.engines, .evt, .pmu] Reg.pmuWords Reg.pmuCtrs s t) ∧
  (∀ (e : Fin 1024) (k : Nat) (c : Ctx) (f : Frame) (w : BitVec 64) (s : State),
    let o := w.toNat / 2 ^ 37 % 4096 + (if w.toNat.testBit 49 then (c.g (w.toNat / 2 ^ 50 % 16)).toNat % 4096 else 0)
    let n := w.toNat / 2 ^ 31 % 64 + 1
    let d := w.toNat / 2 ^ 54 % 16
    (s.Runs e.val 0x01 k c f w →
      ∃ t, exec (.wLdc e) s = .next t ∧
        (if 3072 < o + n then State.WordFaults e.val k c f 4 s t
         else ∃ y, State.Leaves e.val k y s t ∧ (∀ m, y.g m = if m = d ∧ m ≠ 0 then BitVec.ofNat 64 (c.ctxField o n) else c.g m) ∧
           y = { c with regs := y.regs, pc := c.pc + 1, executed := c.executed + 1 } ∧
           State.Changes [.engines, .evt, .pmu] Reg.pmuWords Reg.pmuCtrs s t)) ∧
    (s.Runs e.val 0x02 k c f w →
      ∃ t, exec (.wStc e) s = .next t ∧
        (if 3072 < o + n then State.WordFaults e.val k c f 4 s t
         else if o < 2688 ∧ 2048 < o + n then State.WordFaults e.val k c f 5 s t
         else ∃ y, State.Leaves e.val k y s t ∧
           (let z := (c.setCtxField o n ((c.g d).toNat % 2 ^ n)).bytes
            let m := min 256 (s.winLen f)
            y = { c with bytes := z.take m ++ slice c.bytes m (256 - m) ++ z.drop 256, pc := c.pc + 1, executed := c.executed + 1 }) ∧
           State.Changes [.engines, .evt, .pmu] Reg.pmuWords Reg.pmuCtrs s t)))

/-- BR goes to TARGET where its condition over Z, C, S and H holds, BBIT where the bit of G[A] is as asked, BTAB to TARGET
plus G[A] up to LIMIT; else to the next word. PAT puts the 24 bits of the lowest pattern hit of its number or group in
G[D] and H, or 0. EMIT writes a value within its field's range to the metadata, and faults with reason 10 beyond it.
BINDC, once, names the circuit of a trunk frame to encrypt and answers 0 with H, else 5; again it faults with 11. CNT
counts a frame and, at once where its length is known, its octets at its entry, else when it has arrived; an index
past 16,383 faults with 14. TIME puts the arrival in G[D] with H; where a departure is not known at POINT 1, 0 without
H; what it puts at POINT 2 and 3 is free. Nothing else of the context changes. -/
def Obligations.BranchingAndWritingWords : Prop :=
  (∀ (e : Fin 1024) (k : Nat) (c : Ctx) (f : Frame) (w : BitVec 64) (s : State),
    ∀ x ∈ ([(0x20, .wBr e), (0x21, .wBbit e), (0x22, .wBtab e)] : List (Nat × Instr)), s.Runs e.val x.1 k c f w →
    ∃ t y, exec x.2 s = .next t ∧ State.Leaves e.val k y s t ∧
      (let a := c.g (w.toNat / 2 ^ 50 % 16)
       let d := w.toNat / 2 ^ 54 % 16
       let target := w.toNat / 2 ^ 30 % 2 ^ 14
       let cond := [true, c.z, !c.z, c.c, !c.c, c.s, !c.s, c.h, !c.h, c.c || c.z, !c.c && !c.z].getD d false
       y = { c with executed := c.executed + 1,
                    pc := if x.1 = 0x22 then target + min a.toNat (w.toNat / 2 ^ 22 % 256)
                      else if (if x.1 = 0x20 then cond else a.getLsbD (w.toNat / 2 ^ 44 % 64) == decide (d = 1)) then target else c.pc + 1 }) ∧
      State.Changes [.engines, .evt, .pmu] Reg.pmuWords Reg.pmuCtrs s t) ∧
  (∀ (e : Fin 1024) (k : Nat) (c : Ctx) (f : Frame) (w : BitVec 64) (s : State), s.Runs e.val 0x2C k c f w →
    ∃ t y, exec (.wPat e) s = .next t ∧ State.Leaves e.val k y s t ∧
      (let r := c.patternHits.find? (fun h => decide ((if w.toNat.testBit 53 then h.2.1 else h.1) = w.toNat / 2 ^ 41 % 4096))
       (∀ m, y.g m = if m = w.toNat / 2 ^ 54 % 16 ∧ m ≠ 0 then BitVec.ofNat 64 ((r.map (fun h => h.2.2)).getD 0) else c.g m) ∧
       y = { c with regs := y.regs, h := r.isSome, pc := c.pc + 1, executed := c.executed + 1 }) ∧
      State.Changes [.engines, .evt, .pmu] Reg.pmuWords Reg.pmuCtrs s t) ∧
  (∀ (e : Fin 1024) (k : Nat) (c : Ctx) (f : Frame) (w : BitVec 64) (s : State), s.Runs e.val 0x3A k c f w →
    ∃ t, exec (.wEmit e) s = .next t ∧
      (let v := (c.g (w.toNat / 2 ^ 50 % 16)).toNat
       let r := [(255, 72, 1), (48, 73, 1), (2, 74, 1), (255, 75, 1), (7, 76, 1), (65535, 78, 2)].getD (w.toNat / 2 ^ 44 % 64) (0, 0, 0)
       if r.1 < v then State.WordFaults e.val k c f 10 s t
       else State.Leaves e.val k { c.setMeta r.2.1 r.2.2 v with pc := c.pc + 1, executed := c.executed + 1 } s t ∧
         State.Changes [.engines, .evt, .pmu] Reg.pmuWords Reg.pmuCtrs s t)) ∧
  (∀ (e : Fin 1024) (k : Nat) (c : Ctx) (f : Frame) (w : BitVec 64) (s : State), s.Runs e.val 0x31 k c f w →
    ∃ t, exec (.wBindc e) s = .next t ∧
      (let ok := decide (c.mode = 3) && !c.dec
       if c.bindcDone then State.WordFaults e.val k c f 11 s t
       else (∃ y, State.Leaves e.val k y s t ∧
           (∀ m, y.g m = if m = w.toNat / 2 ^ 54 % 16 ∧ m ≠ 0 then (if ok then 0 else 5) else c.g m) ∧
           y = { c with bytes := y.bytes, regs := y.regs, h := ok, bindcDone := true, pc := c.pc + 1, executed := c.executed + 1 }) ∧
         t.frame c.frame = some (if ok then { f with circuit := some ((c.g (w.toNat / 2 ^ 50 % 16)).toNat % 4096) } else f) ∧
         (∀ i, i ≠ c.frame → t.frame i = s.frame i) ∧ State.Changes [.engines, .frames, .evt, .pmu] Reg.pmuWords Reg.pmuCtrs s t)) ∧
  (∀ (e : Fin 1024) (k : Nat) (c : Ctx) (f : Frame) (w : BitVec 64) (s : State), s.Runs e.val 0x38 k c f w →
    ∃ t, exec (.wCnt e) s = .next t ∧
      (let i := w.toNat / 2 ^ 35 % 2 ^ 14 + (if w.toNat.testBit 49 then (c.g (w.toNat / 2 ^ 50 % 16)).toNat else 0)
       let known := c.lenFinal = true ∨ f.rx = .good
       let old := Tab.get (fun _ => CountEntry.zero) s.counts i
       if 16384 ≤ i then State.WordFaults e.val k c f 14 s t
       else State.Leaves e.val k { c with pc := c.pc + 1, executed := c.executed + 1 } s t ∧
         Tab.get (fun _ => CountEntry.zero) t.counts i =
           { frames := old.frames + 1, octets := old.octets + (if known then BitVec.ofNat 64 (s.winLen f) else 0) } ∧
         (∀ j, j ≠ i → Tab.get (fun _ => CountEntry.zero) t.counts j = Tab.get (fun _ => CountEntry.zero) s.counts j) ∧
         t.frame c.frame = some (if known then f else { f with cnts := f.cnts ++ [i] }) ∧ (∀ j, j ≠ c.frame → t.frame j = s.frame j) ∧
         State.Changes [.counts, .engines, .frames, .evt, .pmu] Reg.pmuWords Reg.pmuCtrs s t)) ∧
  (∀ (e : Fin 1024) (k : Nat) (c : Ctx) (f : Frame) (w : BitVec 64) (s : State), s.Runs e.val 0x3C k c f w →
    ∃ t y, exec (.wTime e) s = .next t ∧ State.Leaves e.val k y s t ∧
      (let d := w.toNat / 2 ^ 54 % 16
       let point := w.toNat / 2 ^ 49 % 4
       let cut := fun (v : Nat) => BitVec.ofNat 64 (if w.toNat.testBit 48 then v else v / 2 ^ 16)
       let base := s.baseSeen (w.toNat / 2 ^ 51 % 8)
       (∀ m, (m ≠ d ∨ m = 0) → y.g m = c.g m) ∧
       y = { c with regs := y.regs, h := y.h, pc := c.pc + 1, executed := c.executed + 1 } ∧
       (point = 0 → y.h = true ∧ (d ≠ 0 → y.g d = cut (base.at_ f.count))) ∧
       (point = 1 → (if c.parkAt = 0 ∧ (f.dec = false ∨ c.lenFinal = true) then
           y.h = true ∧ (d ≠ 0 → y.g d = cut (base.at_ (s.departCount f (f.arrival + 370 + s.duration f))))
         else y.h = false ∧ (d ≠ 0 → y.g d = 0))) ∧
       (2 ≤ point → t.freeIdx = s.freeIdx + 1) ∧ (point < 2 → t.freeIdx = s.freeIdx)) ∧
      State.Changes [.freeIdx, .engines, .evt, .pmu] Reg.pmuWords Reg.pmuCtrs s t)

/-- Whatever action word is commanded: where the word at the pc of the engine's running context has a static fault, lies
past the store, in a block not live for the frame or faulty, or in one whose class the frame may not run, and the
budget has cycles left, the program faults with that reason. An engine without a running context, one whose 120 cycles
are used, or one whose word has another opcode does nothing. A reserved opcode or a reserved bit set faults with
reason 1. -/
def Obligations.WordsThatFault : Prop :=
  (∀ (e : Fin 1024) (way : Option (Fin 4)) (parity : Bool) (s : State), ∀ x ∈ ([
      (0x00, .wNop e), (0x01, .wLdc e), (0x02, .wStc e), (0x03, .wMov e), (0x04, .wLdi e), (0x05, .wLdh e), (0x06, .wSel e),
      (0x08, .wAdd e), (0x09, .wSub e), (0x0A, .wAnd e), (0x0B, .wOr e), (0x0C, .wXor e), (0x0D, .wShl e), (0x0E, .wShr e),
      (0x0F, .wCmp e), (0x10, .wAddi e), (0x11, .wSubi e), (0x12, .wAndi e), (0x13, .wOri e), (0x14, .wXori e), (0x15, .wShli e),
      (0x16, .wShri e), (0x17, .wCmpi e), (0x18, .wCsum e), (0x19, .wTst e), (0x20, .wBr e), (0x21, .wBbit e), (0x22, .wBtab e),
      (0x28, .wLki e way), (0x29, .wLkw e), (0x2C, .wPat e), (0x30, .wBind e parity), (0x31, .wBindc e), (0x34, .wVerd e), (0x38, .wCnt e),
      (0x3A, .wEmit e), (0x3C, .wTime e), (0x3E, .wLrn e)] : List (Nat × Instr)),
    (∀ (k : Nat) (c : Ctx) (f : Frame) (r : Nat), s.running? e.val = some (k, c) → s.frame c.frame = some f → c.executed < 120 →
      s.fetchFault e.val c = some r → ∃ t, exec x.2 s = .next t ∧ State.WordFaults e.val k c f r s t) ∧
    (s.running? e.val = none → exec x.2 s = .next s) ∧
    (∀ k c, s.running? e.val = some (k, c) → 120 ≤ c.executed → exec x.2 s = .next s) ∧
    (∀ k c, s.running? e.val = some (k, c) → s.fetchFault e.val c = none → AWord.op ((s.polder (e.val / 32)).word c.pc) ≠ x.1 →
      exec x.2 s = .next s)) ∧
  (∀ (e : Fin 1024) (c : Ctx) (r : Nat) (s : State), s.fetchFault e.val c = some r → 1 ≤ r ∧ r ≤ 13) ∧
  (∀ (w : BitVec 64) (a : Nat), w.toNat / 2 ^ 58 ∈ [0x07, 0x1A, 0x23, 0x2A, 0x2D, 0x32, 0x35, 0x39, 0x3B, 0x3D, 0x3F] → AWord.staticFault w a = some 1) ∧
  (∀ (w : BitVec 64) (a : Nat), w.toNat / 2 ^ 58 ∈ [0x08, 0x18, 0x30] → w.toNat % 2 ^ 46 ≠ 0 → AWord.staticFault w a = some 1)

/-- LKI faults with 7 under a tag in use. On die its tag holds the result at once, counted: that of the table's lookup, or
a miss, counted as PARITY_MISSES too, where an entry read fails its parity. In HBM it faults with 9 in a FIXED program
and with 8 past two accesses or with one outstanding, ends with DROP where a near BIND of a trunk frame came first,
and else asks the stack for it with the word's age, granted at once where nothing need be read there. LKW faults with
7 under a tag not in use, parks where the result has not arrived, and else, not before the twelfth cycle on die, puts
the words of the result in G[D] (and G[D + 1]) and the hit in H and frees the tag, its budget used up where it is not
there in time. LRN, at most twice, faulting with 12, sends its report or counts it as refused or dropped. -/
def Obligations.LookupWords : Prop :=
  (∀ (e : Fin 1024) (way : Option (Fin 4)) (k : Nat) (c : Ctx) (f : Frame) (w : BitVec 64) (s : State), s.Runs e.val 0x28 k c f w →
    ∃ t, exec (.wLki e way) s = .next t ∧
      (let n := w.toNat / 2 ^ 52 % 64
       let g := w.toNat / 2 ^ 44 % 4
       let key := c.keyBytes (w.toNat / 2 ^ 48 % 16) (w.toNat / 2 ^ 46 % 4 + 1)
       let bad := way.isSome && (s.lkp.place n key false).isSome
       let parity := if bad then t.counter (0x0800100 + 0x20) = s.counter (0x0800100 + 0x20) + 1 else t.lkp = s.lkp
       if (Tab.find c.tags g).isSome then State.WordFaults e.val k c f 7 s t
       else if s.lkp.inHbm n = false then
         (let o := s.lkp.lookup n key
          let r := if (s.table n).isSome ∧ bad = false then (o.hit, o.w0, o.w1) else (false, 0, 0)
          State.Leaves e.val k { c with tags := Tab.ins c.tags g { table := n, hbm := false, issued := c.executed + c.parked, result := some r, key := key }, pc := c.pc + 1, executed := c.executed + 1 } s t ∧
          t.counter 0x0800100 = s.counter 0x0800100 + 1 ∧
          t.counter (0x0800100 + (if r.1 then 0x10 else 0x18)) = s.counter (0x0800100 + (if r.1 then 0x10 else 0x18)) + 1 ∧ parity)
       else if c.bounded = false then State.WordFaults e.val k c f 9 s t
       else if 2 ≤ c.hbm ∨ s.hbm.reqs.any (fun r => decide (r.engine = e.val ∧ r.ctx = k)) = true then State.WordFaults e.val k c f 8 s t
       else if c.mode = 3 ∧ c.nearBound = true then State.EndsInDrop e.val k c f 0x60 s t
       else State.Leaves e.val k { c with tags := Tab.ins c.tags g { table := n, hbm := true, issued := c.executed + c.parked, result := none, key := key }, pc := c.pc + 1, executed := c.executed + 1, hbm := c.hbm + 1 } s t ∧
         parity ∧ t.hbm.reqs = (let at_ := f.arrival + 104 + c.executed + c.parked
           let r : HbmReq := { client := e.val / 32, age := at_ % 4096, cycle := at_, engine := e.val, ctx := k, tag := some g, granted := false,
                               out := none, read := none }
           s.hbm.reqs ++ [if (t.lkp.place n key true).isSome then r else { r with granted := true, out := some (t.lkp.lookup n key) }])) ∧
      State.Only [.regs, .ctr, .frames, .engines, .lkp, .hbm, .evt, .pmu] s t) ∧
  (∀ (e : Fin 1024) (k : Nat) (c : Ctx) (f : Frame) (w : BitVec 64) (s : State), s.Runs e.val 0x29 k c f w →
    ∃ t, exec (.wLkw e) s = .next t ∧
      (let d := w.toNat / 2 ^ 54 % 16
       match Tab.find c.tags (w.toNat / 2 ^ 52 % 4) with
       | none => State.WordFaults e.val k c f 7 s t
       | some g =>
         match g.result with
         | none => ∃ y, State.Leaves e.val k y s t ∧ y.cond = .parked ∧ y.waitTag = some (w.toNat / 2 ^ 52 % 4) ∧ y.pc = c.pc ∧
             t.counter (State.pldWin e.val 0x48) = s.counter (State.pldWin e.val 0x48) + 1
         | some r =>
           let n := if g.hbm then c.executed else max c.executed (g.issued + 12 - c.parked)
           if 120 ≤ n then State.Leaves e.val k { c with executed := 120 } s t
           else ∃ y, State.Leaves e.val k y s t ∧ y.executed = n + 1 ∧ y.pc = c.pc + 1 ∧ y.h = r.1 ∧ Tab.find y.tags (w.toNat / 2 ^ 52 % 4) = none ∧
             (∀ m, y.g m = if w.toNat.testBit 51 ∧ m = d + 1 then r.2.2 else if m = d ∧ m ≠ 0 then r.2.1 else c.g m) ∧
             y = { c with regs := y.regs, tags := y.tags, h := y.h, pc := y.pc, executed := y.executed }) ∧
      State.Only [.regs, .ctr, .frames, .engines, .evt, .pmu] s t) ∧
  (∀ (e : Fin 1024) (k : Nat) (c : Ctx) (f : Frame) (w : BitVec 64) (s : State), s.Runs e.val 0x3E k c f w →
    ∃ t, exec (.wLrn e) s = .next t ∧
      (let n := w.toNat / 2 ^ 52 % 64
       let b := w.toNat / 2 ^ 42 % 16
       let two := (s.table n).any (fun d => decide (d.datawords = 2))
       let key := c.keyBytes (w.toNat / 2 ^ 48 % 16) (w.toNat / 2 ^ 46 % 4 + 1)
       let fits := ∃ d, s.table n = some d ∧ s.lkp.learns n = true ∧ key.length = 8 * d.keywords
       if 2 ≤ c.lrn then State.WordFaults e.val k c f 12 s t
       else if two = true ∧ b = 15 then State.WordFaults e.val k c f 4 s t
       else State.Leaves e.val k { c with lrn := c.lrn + 1, pc := c.pc + 1, executed := c.executed + 1 } s t ∧
         (¬ fits → t.counter (0x0800100 + 0x60) = s.counter (0x0800100 + 0x60) + 1 ∧ t.lkp = s.lkp) ∧
         (fits → 4096 ≤ s.lkp.input.length → t.counter (0x0800100 + 0x68) = s.counter (0x0800100 + 0x68) + 1 ∧ t.lkp = s.lkp) ∧
         (fits → s.lkp.input.length < 4096 → t.counter (0x0800100 + 0x38) = s.counter (0x0800100 + 0x38) + 1 ∧
           ∃ r, t.lkp = { s.lkp with input := s.lkp.input ++ [r] } ∧ r.table = n ∧ r.key = key ∧ r.d0 = c.g b ∧ (two = true → r.d1 = c.g (b + 1)) ∧
             r.pair = f.pair ∧ r.dec = f.dec ∧ r.ensign = f.ensign)) ∧
      State.Only [.regs, .ctr, .frames, .engines, .lkp, .hbm, .evt, .pmu] s t)

/-- A second BIND faults with 11, and in a BOUNDED program one past two accesses, or with one outstanding, with 8. On a
far handle a BOUNDED program parks and a FIXED one ends with DROP. On a near handle, a parity error in its record
making that faulty first, the status of the binding goes to G[D] and, where it is 0, to H, and a binding to the frame;
a trunk frame that had made an access ends with DROP instead. VERD of a tunnel frame that asks for an outer header or
a cut faults with 10; else the program is done and the frame has its verdict: a DROP counted under its reason, DIVERT,
BYPASS where the pair permits, ENCRYPT or DECRYPT in its own direction of a bound frame, and else DROP, each counted. -/
def Obligations.BindAndVerdictWords : Prop :=
  (∀ (e : Fin 1024) (parity : Bool) (k : Nat) (c : Ctx) (f : Frame) (w : BitVec 64) (s : State), s.Runs e.val 0x30 k c f w →
    ∃ t, exec (.wBind e parity) s = .next t ∧
      (let h := (c.g (w.toNat / 2 ^ 50 % 16)).toNat % 2 ^ 32
       let d := w.toNat / 2 ^ 54 % 16
       let b := (if parity then s.recordFault false (Handle.index h) else s).bindTo f h
       if c.bindDone then State.WordFaults e.val k c f 11 s t
       else if c.bounded = true ∧ (2 ≤ c.hbm ∨ s.hbm.reqs.any (fun r => decide (r.engine = e.val ∧ r.ctx = k)) = true) then
         State.WordFaults e.val k c f 8 s t
       else if Handle.far h then
         (if c.bounded then ∃ y, State.Leaves e.val k y s t ∧ y.cond = .parked ∧ y.bindDone = true ∧ y.hbm = c.hbm + 1 ∧
             t.counter (Reg.chnCtr + 0x08) = s.counter (Reg.chnCtr + 0x08) + 1
          else State.EndsInDrop e.val k c f 0x58 s t)
       else if b.2.1.isSome = true ∧ c.mode = 3 ∧ 0 < c.hbm then
         ∃ y g, State.Leaves e.val k y s t ∧ y.cond = .done ∧ t.frame c.frame = some g ∧ g.verdict = some .drop ∧
           t.counter (State.pldCtr f.dec 0x60) = s.counter (State.pldCtr f.dec 0x60) + 1
       else
         (∃ y, State.Leaves e.val k y s t ∧ y.h = decide (b.1 = 0) ∧ (∀ m, y.g m = if m = d ∧ m ≠ 0 then BitVec.ofNat 64 b.1 else c.g m) ∧
           y.bindDone = true ∧ y.pc = c.pc + 1 ∧ y.executed = c.executed + 1 ∧ y.hbm = (if c.bounded then c.hbm + 1 else c.hbm)) ∧
         t.frame c.frame = some (match b.2.1 with
           | some x => { f with bind := some x, far := false }
           | none => f)) ∧
      State.Only [.regs, .ctr, .frames, .engines, .chn, .hbm, .evt, .pmu] s t) ∧
  (∀ (e : Fin 1024) (k : Nat) (c : Ctx) (f : Frame) (w : BitVec 64) (s : State), s.Runs e.val 0x34 k c f w →
    ∃ t, exec (.wVerd e) s = .next t ∧
      (let v := w.toNat / 2 ^ 55 % 8
       let r := w.toNat / 2 ^ 51 % 16
       let x : Verdict × Nat :=
         if v = 3 then (.drop, 0x80 + 8 * r) else if v = 4 then (.divert, 0x20)
         else if v = 2 then (if (s.pair f.pair).bypassPermit then (.bypass, 0x18) else (.drop, 0x50))
         else if v = 0 ∧ f.dec = true ∨ v = 1 ∧ f.dec = false then (.drop, 0x48)
         else if f.bind.isSome = false then (.drop, 0x40)
         else if v = 1 then (.decrypt, 0x10) else (.encrypt, 0x08)
       if c.mode = 1 ∧ (c.meta_ 72 1 ≠ 0 ∨ c.meta_ 73 1 ≠ 0) then State.WordFaults e.val k c f 10 s t
       else (∃ y, State.Leaves e.val k y s t ∧ y.cond = .done ∧ y.executed = c.executed + 1) ∧
         (∃ g, t.frame c.frame = some g ∧ g.verdict = some x.1 ∧ g.reason = r ∧ g.bind = f.bind ∧ g.stage = f.stage) ∧
         (∀ i, i ≠ c.frame → t.frame i = s.frame i) ∧
         t.counter (State.pldCtr f.dec x.2) = s.counter (State.pldCtr f.dec x.2) + 1 ∧
         State.Changes [.engines, .frames, .evt, .pmu] Reg.pmuWords (State.pldCtr f.dec x.2 :: Reg.pmuCtrs) s t) ∧
      State.Only [.regs, .ctr, .frames, .engines, .evt, .pmu] s t)

/-- A frame handed on goes to an engine that may take it, of those the longest idle and then the lowest, in a fresh
context at its PROGRAM; without one it is dropped and counted. With the stack active the oldest request waiting is
granted, a lookup's taking what it reads and the performance monitor's writing a record to the extension, and ARB_MAX
follows its wait. A granted lookup's result, a counted miss where its line was uncorrectable, goes to its tag, and a
context parked on it becomes ready. On an engine whose run slot is free the oldest ready context resumes: a LKW takes
its result, a BIND answers its status. A context parked on a far BIND whose read is not awaited gets the status and
the binding, and becomes ready, unless a sealing key's cell fails, which is a C4 fault. No other frame and no other
engine changes. -/
def Obligations.EnginesTakeFrames : Prop :=
  (∀ (id : Nat) (f : Frame) (s : State), s.frame id = some f → f.stage = .handed →
    ∃ t, exec (.dispatch id) s = .next t ∧
      (match s.chooseEngine f.program with
       | none => (∀ e < 1024, s.eligibleEngine f.program e = false) ∧ State.Left id t ∧
           (f.verdict = none → t.counter (State.pldCtr f.dec 0x28) = s.counter (State.pldCtr f.dec 0x28) + 1)
       | some e => ∃ k y g, e < 1024 ∧ s.eligibleEngine f.program e = true ∧
         (∀ m < 1024, s.eligibleEngine f.program m = true → (s.engine e).idleSince < (s.engine m).idleSince ∨
           ((s.engine e).idleSince = (s.engine m).idleSince ∧ e ≤ m)) ∧
         Tab.find (s.engine e).ctxs k = none ∧ State.Leaves e k y s t ∧ y.frame = id ∧ y.cond = .running ∧ y.pc = f.program ∧ y.regs = [] ∧
         y.tags = [] ∧ y.executed = 0 ∧ y.z = false ∧ y.c = false ∧ y.s = false ∧ y.h = false ∧
         y.bounded = ((s.polder (e / 32)).block (f.program / 64)).bounded ∧
         t.frame id = some g ∧ g.stage = .engine ∧ g.bounded = y.bounded ∧
         t.counter (State.pldCtr f.dec 0) = s.counter (State.pldCtr f.dec 0) + 1 ∧
         t.counter (State.pldWin e 0x40) = s.counter (State.pldWin e 0x40) + 1) ∧
      (∀ i, i ≠ id → t.frame i = s.frame i) ∧ State.Only [.regs, .ctr, .frames, .engines, .tim, .hbm, .evt, .pmu] s t) ∧
  (∀ s : State, ∃ t, exec .hbmRequestGrant s = .next t ∧
      (match s.oldestReq with
       | some r => if s.hbm.st = .active then
           t.arbMax = max s.arbMax (min 4095 (s.now - r.cycle)) ∧
           (if r.client = 34 then t.hbm = s.hbm ∧ ∀ x l, s.pmu.ring = x :: l → t.pmu.ring = l ∧ t.pmu.ext = s.pmu.ext ++ [(s.pmu.extNext, x)]
            else r ∈ s.hbm.reqs ∧ r.granted = false ∧
              ∃ g : HbmReq, g.granted = true ∧ t.hbm.reqs = s.hbm.reqs.map (fun x => if x = r then g else x) ∧
                ∀ c n k, Tab.find (s.engine r.engine).ctxs r.ctx = some c → r.tag = some n → Tab.find c.tags n = some k →
                  g = { r with granted := true, out := some (s.lkp.lookup k.table k.key), read := s.lkp.place k.table k.key true })
         else t = s
       | none => t = s) ∧ State.Changes [.hbm, .arbMax, .evt, .pmu] Reg.pmuWords Reg.pmuCtrs s t) ∧
  (∀ (e : Fin 1024) (k : Fin 3) (n : Nat) (r : HbmReq) (x : Ctx) (g : LkTag) (bad : Option (Fin 8)) (fixed : Bool) (s : State),
    s.hbm.reqs.find? (fun r => decide (r.engine = e.val ∧ r.ctx = k.val) && r.granted && r.tag.isSome) = some r → r.tag = some n →
    Tab.find (s.engine e.val).ctxs k.val = some x → Tab.find x.tags n = some g →
    ∃ t y, exec (.hbmResultArrive e k bad fixed) s = .next t ∧ State.Leaves e.val k.val y s t ∧
      (let miss := bad.isSome && r.read.isSome
       let o := if miss then LkOut.miss else r.out.getD LkOut.miss
       Tab.find y.tags n = some { g with result := some (o.hit, o.w0, o.w1) } ∧
       y.cond = (if x.cond = .parked ∧ x.waitTag = some n then .ready else x.cond) ∧ y.regs = x.regs ∧ y.bytes = x.bytes ∧ y.pc = x.pc ∧
       t.hbm.reqs = s.hbm.reqs.filter (fun y => decide (y ≠ r)) ∧
       t.counter (0x0800100 + (if o.hit then 0x10 else 0x18)) = s.counter (0x0800100 + (if o.hit then 0x10 else 0x18)) + 1 ∧
       (if miss then t.counter (State.hbmCtr 0x08) = s.counter (State.hbmCtr 0x08) + 1 ∧ State.Raised 217 s t else t.lkp = s.lkp) ∧
       (miss = false → fixed = true → r.read.isSome = true → bad = none →
         t.counter (State.hbmCtr 0) = s.counter (State.hbmCtr 0) + 1 ∧ State.Raised 216 s t)) ∧
      State.Only [.regs, .ctr, .engines, .lkp, .hbm, .evt, .pmu] s t) ∧
  (∀ (e : Fin 1024) (k : Nat) (x : Ctx) (f : Frame) (s : State),
    (∀ c ∈ (s.engine e.val).ctxs, c.2.cond ≠ .running ∧ c.2.cond ≠ .done) → s.oldestReady e.val = some (k, x) → s.frame x.frame = some f →
    ∃ t y, exec (.contextResume e) s = .next t ∧ State.Leaves e.val k y s t ∧
      (let w := (s.polder (e.val / 32)).word x.pc
       let d := w.toNat / 2 ^ 54 % 16
       y.cond = .running ∧ y.parked = x.parked + (s.now - x.parkAt) ∧ y.pc = x.pc + 1 ∧ y.executed = x.executed + 1 ∧
       (AWord.op w = 0x29 → ∀ g r, Tab.find x.tags (w.toNat / 2 ^ 52 % 4) = some g → g.result = some r →
         y.h = r.1 ∧ (d ≠ 0 → w.toNat.testBit 51 = false → y.g d = r.2.1) ∧ Tab.find y.tags (w.toNat / 2 ^ 52 % 4) = none) ∧
       (AWord.op w ≠ 0x29 → y.h = decide (x.meta_ 68 1 = 0) ∧ (d ≠ 0 → y.g d = BitVec.ofNat 64 (x.meta_ 68 1)))) ∧
      State.Changes [.engines, .evt, .pmu] Reg.pmuWords (State.pldWin e.val 0x50 :: Reg.pmuCtrs) s t) ∧
  (∀ (e : Fin 1024) (k : Fin 3) (x : Ctx) (f : Frame) (err : FarErr) (s : State), Tab.find (s.engine e.val).ctxs k.val = some x →
    x.cond = .parked → x.waitTag = none → s.frame x.frame = some f →
    (∀ r ∈ s.hbm.reqs, r.engine = e.val → r.ctx = k.val → r.tag = none → r.granted = true) →
    ∃ t, exec (.farBindAnswer e k err) s = .next t ∧
      (if (if s.cached (Handle.index (s.parkedHandle e.val x)) = true then err else s.readErr err) = .cell then
         State.Raised 197 s t ∧ State.Only Part.traffic s t
       else (∃ y, State.Leaves e.val k.val y s t ∧ y.cond = .ready ∧ y.readyAt = s.now ∧ y.pc = x.pc ∧ y.regs = x.regs) ∧
         (∀ r ∈ t.hbm.reqs, ¬ (r.engine = e.val ∧ r.ctx = k.val ∧ r.tag = none)) ∧ (∀ i, i ≠ x.frame → t.frame i = s.frame i) ∧
         State.Only [.regs, .ctr, .frames, .engines, .chn, .hbm, .evt, .pmu] s t))

/-- A frame whose program has used its 120 cycles or ended frees its context: without a verdict it is dropped and counted;
with DROP it is gone; a far-bound one that an earlier frame keeps back is held; any other goes on. A frame with a
verdict of the classifier's, in no context, is gone with DROP, or is held or goes on too. A held frame that nothing
keeps back goes on at its hold or now, whichever is later; where its line of a reorder buffer is uncorrectable, the
frames with bytes in it are dropped first. Going on, DIVERT goes to the steward once received; under a LOCK any other
is dropped and counted; BYPASS is counted; a frame whose key cell fails is dropped and counted; and a frame's cipher
stage begins, its departure 146 cycles later, plus its duration in the decrypt direction. A frame with a parked or
ready context, or with cycles still to run, stays. No other frame changes. -/
def Obligations.EngineStageEnds : Prop :=
  let goesOn := fun (s t : State) (id : Nat) (f : Frame) (at_ : Nat) (kf : Bool) =>
    let on := ∃ g, t.frame id = some g ∧ g.stage = .cipher ∧ g.cipherAt = at_ ∧ g.depart = some (at_ + 146 + s.duration f) ∧ g.verdict = f.verdict ∧ g.bind = f.bind
    if f.verdict = some .divert then (if f.rx = .good then t.frame id = none else ∃ g, t.frame id = some g ∧ g.stage = .decided ∧ g.verdict = some .divert)
    else if s.lev.locked then State.Left id t ∧ (f.verdict ≠ some .drop → t.counter (State.ctrLocked f) = s.counter (State.ctrLocked f) + 1)
    else if f.verdict = some .bypass then on ∧ t.counter (State.cphCtr f.dec 0x10) = s.counter (State.cphCtr f.dec 0x10) + 1
    else ∀ b, f.bind = some b →
      (if s.keyBad b kf then State.Left id t ∧ (f.verdict ≠ some .drop → t.counter (State.cphCtr f.dec 0x28) = s.counter (State.cphCtr f.dec 0x28) + 1) ∧
         State.Raised 196 s t
       else on)
  let heldOr := fun (s t : State) (id : Nat) (f : Frame) (at_ : Nat) (kf : Bool) =>
    if f.far = true ∧ s.heldBack id f = true then ∃ g, t.frame id = some g ∧ g.stage = .held ∧ g.hold = at_ else goesOn s t id f at_ kf
  let parts := [Part.regs, .ctr, .frames, .engines, .chn, .tim, .hbm, .evt, .pmu, .stw]
  (∀ (id e k : Nat) (f : Frame) (x : Ctx) (kf : Bool) (s : State), s.frame id = some f → f.stage = .engine → s.whereIs id = some (e, k) →
    Tab.find (s.engine e).ctxs k = some x → (x.cond = .running ∧ 120 ≤ x.executed) ∨ x.cond = .done →
    ∃ t, exec (.engineBudgetEnd id kf) s = .next t ∧
      (if f.verdict = none then State.Left id t ∧ t.counter (State.pldCtr f.dec 0x30) = s.counter (State.pldCtr f.dec 0x30) + 1
       else if f.verdict = some .drop then State.Left id t
       else Tab.find (t.engine e).ctxs k = none ∧ heldOr s t id f (f.arrival + 224 + x.parked) kf) ∧
      (∀ i, i ≠ id → t.frame i = s.frame i) ∧ State.Only parts s t) ∧
  (∀ (id : Nat) (f : Frame) (kf : Bool) (s : State), s.frame id = some f → f.stage = .engine → s.whereIs id = none → f.verdict ≠ none →
    ∃ t, exec (.engineBudgetEnd id kf) s = .next t ∧
      (if f.verdict = some .drop then State.Left id t else heldOr s t id f (f.arrival + 224 + f.waited) kf) ∧
      (∀ i, i ≠ id → t.frame i = s.frame i) ∧ State.Only parts s t) ∧
  (∀ (id e k : Nat) (f : Frame) (x : Ctx) (kf : Bool) (s : State), s.frame id = some f → f.stage = .engine → s.whereIs id = some (e, k) →
    Tab.find (s.engine e).ctxs k = some x → x.cond = .parked ∨ x.cond = .ready ∨ (x.cond = .running ∧ x.executed < 120) →
    exec (.engineBudgetEnd id kf) s = .next s) ∧
  (∀ (id : Nat) (f : Frame) (kf : Bool) (s : State), s.frame id = some f → f.stage = .held →
    ∃ t, exec (.farHoldRelease id kf none) s = .next t ∧
      (if s.heldBack id f then t = s else goesOn s t id f (max f.hold s.now) kf) ∧
      (∀ i, i ≠ id → t.frame i = s.frame i) ∧ State.Only parts s t) ∧
  (∀ (id : Nat) (kf : Bool) (l : Fin 0x100000) (s : State),
    ∃ t, exec (.farHoldRelease id kf (some l)) s = .next t ∧ (∀ e ∈ s.reordered (0x2740000 + l.val), State.Left e.1 t) ∧
      t.counter (State.hbmCtr 0x08) = s.counter (State.hbmCtr 0x08) + 1 ∧ State.Raised 217 s t ∧ State.Only Part.traffic s t)

/-- The tag check of a decrypt frame received whole, in its turn, counts its blocks; a tag that fails counts and the frame
is gone; one that verifies counts, and the frame, where the store accepts it, waits for its departure with its plain
bytes or goes to its spillway, and else is gone. At its departure, behind no earlier frame of its channel, an encrypt
frame is dropped where its pair is out of service, or as an expansion overrun where the output before leaves no room;
refused by its circuit, or too long for its port, it is dropped and counted; else it is sent on the line port with the
bytes its verdict gives, or in standby suppressed and counted. A decided decrypt frame is sent on the host port with
an FCS, likewise. A frame of the steward's that is whole, of a pair in service, joins the frames as arrived now; any
other does not. A replaced record that changed is written back. No other frame changes. -/
def Obligations.FramesLeaveTheModule : Prop :=
  (∀ (id : Nat) (f : Frame) (b : Binding) (s : State), s.frame id = some f → f.bind = some b → f.stage = .cipher → f.verdict = some .decrypt → f.rx = .good →
    s.awaitsTurn id b = false →
    ∃ t, exec (.rxDecision id) s = .next t ∧
      (let o := s.openIn f b
       t.counter (State.cphCtr true 0x08) = s.counter (State.cphCtr true 0x08) + BitVec.ofNat 64 o.2.2 ∧
       (if o.2.1 = false then t.frame id = none ∧ t.counter (State.cphCtr true 0x30) = s.counter (State.cphCtr true 0x30) + 1
        else
          let r := (s.decideFrame b ((State.framed f o.1).length + 4)).1
          t.counter (State.cphCtr true 0) = s.counter (State.cphCtr true 0) + 1 ∧
          (if r = .accepted ∨ r = .late then
             (match f.trunk.map (fun h => h.typ) with
              | some 2 => t.frame id = none
              | _ => ∃ g y, t.frame id = some g ∧ g.stage = .decided ∧ g.out = some y ∧ y.tagOk = true ∧ (State.tsCtrl f ≠ 2 → y.bytes = State.framed f o.1))
           else t.frame id = none))) ∧
      (∀ i, i ≠ id → t.frame i = s.frame i) ∧ State.Only [.regs, .ctr, .framers, .circuits, .frames, .chn, .tim, .hbm, .evt] s t) ∧
  (∀ (id : Nat) (f : Frame) (s : State), s.frame id = some f → f.dec = false → f.stage = .cipher → f.verdict ≠ some .drop →
    s.behind id f = false →
    ∃ t, exec (.frameDepart id) s = .next t ∧
      (let d := f.depart.getD s.now
       let p := f.pair
       let one := fun (a : Nat) => t.counter a = s.counter a + 1
       let trunk := (s.pair p).mode = .trunk
       let circ := if trunk ∧ f.verdict = some .encrypt then f.circuit else none
       let bytes := (s.sealOut f (circ.map (fun k => (k, (s.circuit k).txSeq)))).1
       if s.pairInService p = false then State.Left id t ∧ one (s.ctrIdle f) ∧ t.lineOut = s.lineOut
       else if s.overruns true f d then State.Left id t ∧ one (s.ctrOverrun f) ∧ t.lineOut = s.lineOut
       else if (∃ k ∈ circ, s.circRefuses k p (State.framed f (State.leftBytes f)).length = true) then State.Left id t ∧ one (Reg.framer p + 0xB0)
       else if ¬ trunk ∧ s.txLimit p < bytes.length ∧ f.rx = .good then State.Left id t ∧ one (Reg.port false p + 0xA0)
       else if s.pp.outputs = false then State.Left id t ∧ one (Reg.wrdCtr + 0x28) ∧ t.lineOut = s.lineOut
       else ∃ o, (t.portOut true p).sent.head? = some o ∧ o.bytes = bytes ∧ o.cycle = d ∧ o.stomped = false ∧ o.start = State.departAt f d ∧
         (let n := if trunk then Rate.trunk (s.pair p).width bytes.length else Rate.ether (s.pair p).width bytes.length
          o.ends = Rate.ceil (o.start + n) ∧ (t.portOut true p).busyUntil = o.start + n) ∧
         one (if trunk then Reg.framer p + 0x90 else Reg.port true p + 0x50) ∧
         (if f.receiving then ∃ g, t.frame id = some g ∧ g.stage = .leaving else t.frame id = none)) ∧
      (∀ i, i ≠ id → t.frame i = s.frame i) ∧
      State.Only [.freeIdx, .regs, .ctr, .lineOut, .framers, .circuits, .frames, .engines, .chn, .tim, .hbm, .evt, .pmu] s t) ∧
  (∀ (id : Nat) (f : Frame) (o : CipherOut) (s : State), s.frame id = some f → f.dec = true → f.rx = .good → f.out = some o → f.verdict ≠ some .drop →
    f.stage ≠ .gone → f.stage ≠ .leaving → s.behind id f = false →
    ∃ t, exec (.frameDepart id) s = .next t ∧
      (let d := f.depart.getD s.now
       let p := f.pair
       let one := fun (a : Nat) => t.counter a = s.counter a + 1
       let bytes := o.bytes ++ fcs o.bytes
       if s.pairInService p = false then t.frame id = none ∧ one (s.ctrIdle f) ∧ t.hostOut = s.hostOut
       else if ((s.pair p).mode = .tunnel ∨ (s.pair p).mode = .trunk) ∧ s.overruns false f d = true then t.frame id = none ∧ one (s.ctrOverrun f)
       else if s.pp.outputs = false then t.frame id = none ∧ one (Reg.wrdCtr + 0x30) ∧ t.hostOut = s.hostOut
       else ∃ y, (t.portOut false p).sent = y :: (s.portOut false p).sent ∧ y.bytes = bytes ∧ y.cycle = d ∧ y.dec = true ∧
         y.start = State.departAt f d ∧ y.ends = Rate.ceil (y.start + Rate.ether (s.pair p).width bytes.length) ∧
         (t.portOut false p).busyUntil = y.start + Rate.ether (s.pair p).width bytes.length ∧
         one (Reg.port false p + 0x50) ∧ t.frame id = none) ∧
      (∀ i, i ≠ id → t.frame i = s.frame i) ∧
      State.Only [.regs, .ctr, .hostOut, .frames, .engines, .tim, .hbm, .evt, .pmu] s t) ∧
  (∀ (p : Fin 32) (dec : Bool) (bytes : Bytes) (s : State),
    ∃ t, exec (.stewardInject p dec bytes) s = .next t ∧
      (let trunk := dec && decide ((s.pair p.val).mode = .trunk)
       if s.stewardServes = true ∧ s.pairInService p.val = true ∧
           (trunk = false ∨ (6 ≤ bytes.length ∧ Ndoath.valid (bytes.take 6) = true ∧ bytes.length = Ndoath.size bytes ∧ Ndoath.typ bytes ∈ [1, 2, 5])) then
         t.nextFrame = s.nextFrame + 1 ∧ ∃ g, t.frame s.nextFrame = some g ∧ g.pair = p.val ∧ g.dec = dec ∧ g.rx = .good ∧ g.stage = .arriving ∧
           g.injected = true ∧ g.arrival = s.now ∧ g.wire = (if trunk then bytes else bytes ++ fcs bytes)
       else t = s) ∧ (∀ i, i ≠ s.nextFrame → t.frame i = s.frame i) ∧ State.Only [.frames, .nextFrame] s t) ∧
  (∀ (cell : Bool) (s : State), ∃ t, exec (.cacheWriteBack cell) s = .next t ∧
      (match s.chn.evicted with
       | i :: _ => if s.hbm.st = .active then
           (if cell = true ∨ s.sealKeysOk = false then State.Raised 197 s t
            else t.chn = { s.chn with evicted := s.chn.evicted.filter (fun k => decide (k ≠ i)) } ∧
              State.Only [.regs, .ctr, .chn, .hbm, .evt, .pmu] s t)
         else t = s
       | [] => t = s) ∧ State.Only Part.traffic s t)

/-- At a round boundary the deal takes the pipes awake and the lanes in service then. A group that has woken loses its
pipes that failed, each from service for good, with a cause; with some tried and none failed GROUP_AWAKE is raised;
its good pipes are awake while the pairs need the group, and with no unit still waking the ports whose conditions hold
become ACTIVE. A pipe of service that is awake and fails a check leaves service, and the frames named that have blocks
in it leave the module, no other. A test that START asks for is refused with RESULT 0x01 while one runs, 0x55 under a
LOCK, 0x46 for a pipe out of service, 0x52 for a length above 64, and else takes the registers; at its end the output,
the tag or TAG_OK and RESULT 0 stand, and the key registers read 0. Nothing else changes but as pairs and units
follow. -/
def Obligations.PipesAndTheUserTest : Prop :=
  (∀ s : State, ∃ t, exec .cipherRoundBoundary s = .next t ∧ t.cph.n = popCount t.cph.awake 64 ∧ t.cph.dealt = t.cph.awake ∧ t.cph.lanes = t.lanesInService ∧
      t.cph.inService = s.cph.inService ∧ t.cph.fitN = popCount s.cph.inService 64 ∧
      State.Changes [.freeIdx, .pairs, .polders, .cph, .evt, .pmu] Reg.pmuWords Reg.pmuCtrs s t) ∧
  (∀ (g : Fin 16) (bad : BitVec 4) (s : State),
    ∃ t, exec (.pipeGroupWakeDone g bad) s = .next t ∧
      (let a := Reg.cphEvent + 4 * g.val
       let tried := fun (i : Nat) => s.cph.inService.testBit (4 * g.val + i) && !s.cph.awake.testBit (4 * g.val + i)
       if s.cph.waking.testBit g.val then
         (∀ p, t.cph.inService.testBit p = (s.cph.inService.testBit p && !(decide (p / 4 = g.val) && bad.getLsbD (p % 4) && !s.cph.awake.testBit p))) ∧
         (∀ i < 4, tried i = true → bad.getLsbD i = true → t.cph.awake.testBit (4 * g.val + i) = false ∧ (t.reg a).getLsbD 2 = true ∧
           State.Raised (176 + g.val) s t) ∧
         (∀ i < 4, tried i = true → bad.getLsbD i = false → (t.groupsWanted t.lanesWanted).testBit g.val = true →
           t.cph.awake.testBit (4 * g.val + i) = true) ∧
         ((∃ i < 4, tried i = true) → (∀ i < 4, tried i = true → bad.getLsbD i = false) → (t.reg a).getLsbD 0 = true ∧ State.Raised (176 + g.val) s t) ∧
         (State.unitsReady { s with cph := { s.cph with waking := setBit s.cph.waking g.val false } } = true →
           ∀ e ∈ s.pairsUsed, ∀ line, s.portUp line e.1 = true → (t.port line e.1).active = true)
       else t = s) ∧
      State.Only [.regs, .ctr, .hostPorts, .linePorts, .pairs, .polders, .cph, .evt] s t) ∧
  (∀ (p : Fin 64) (kat : Bool) (held : List Nat) (s : State),
    ∃ t, exec (.pipeCheckError p kat held) s = .next t ∧
      (if s.cph.inService.testBit p.val = true ∧ s.cph.awake.testBit p.val = true then
         (∀ q, t.cph.inService.testBit q = (s.cph.inService.testBit q && decide (q ≠ p.val))) ∧ t.cph.awake.testBit p.val = false ∧
         t.cph.failed = (if kat then s.cph.failed ||| 2 ^ p.val else s.cph.failed) ∧
         (∀ id ∈ held, ∀ f, s.frame id = some f → State.inPipes f = true → State.Left id t) ∧
         (∀ i, (i ∉ held ∨ ∀ f, s.frame i = some f → State.inPipes f = false) → t.frame i = s.frame i) ∧
         (s.regField Reg.cphCheck 31 1 = 0 → t.regField Reg.cphCheck 31 1 = 1 ∧ t.regField Reg.cphCheck 28 2 = (if kat then 1 else 0) ∧
           t.regField Reg.cphCheck 0 6 = p.val) ∧
         (t.reg (Reg.cphEvent + 4 * (p.val / 4))).getLsbD (if kat then 2 else 1) = true ∧ State.Raised (176 + p.val / 4) s t
       else t = s) ∧
      State.Only [.regs, .ctr, .lineOut, .pairs, .frames, .polders, .engines, .chn, .cph, .tim, .hbm, .evt] s t) ∧
  (∀ (v : Word) (s : State), s.allows .pf0 Reg.cphTestCtrl = true →
    ∃ t, exec (.cphTestStart v) s = .next t ∧
      (let p := v.toNat % 64
       let l := s.regN Reg.cphTestLen
       let result := t.regField Reg.cphTestCtrl 24 8
       t.regField Reg.cphTestCtrl 0 6 = p ∧ t.regField Reg.cphTestCtrl 17 2 = v.toNat / 2 ^ 17 % 4 ∧
       (if v.getLsbD 16 = false then t.cph = s.cph ∧ result = s.regField Reg.cphTestCtrl 24 8
        else if s.cph.test.isSome then t.cph = s.cph ∧ result = 0x01
        else if s.lev.locked then t.cph = s.cph ∧ result = 0x55
        else if s.cph.inService.testBit p = false then t.cph = s.cph ∧ result = 0x46
        else if 64 < l % 128 ∨ 64 < l / 2 ^ 16 % 128 then t.cph = s.cph ∧ result = 0x52
        else t.cph = { s.cph with test := some {
          pipe := p, key256 := v.getLsbD 17, dec := v.getLsbD 18, key := (s.regBytes Reg.cphTestKey 8).take (if v.getLsbD 17 then 32 else 16), iv := s.regBytes Reg.cphTestIv 3, aad := (s.regBytes Reg.cphTestAad 16).take (l % 128), text := (s.regBytes Reg.cphTestIn 16).take (l / 2 ^ 16 % 128), tag := s.regBytes Reg.cphTestTag 4 } })) ∧
      State.Changes [.cph] [Reg.cphTestCtrl] [] s t) ∧
  (∀ (x : CphTest) (s : State), s.cph.test = some x →
    ∃ t, exec .cphTestDone s = .next t ∧ t.cph = { s.cph with test := none } ∧
      (let out := Crypto.gcmCrypt x.key x.iv x.text
       let tag := Crypto.gcmTag x.key x.iv x.aad (if x.dec then x.text else out)
       t.words Reg.cphTestOut 16 = Blob.toWords 16 (padTo out 64) ∧ t.words Reg.cphTestKey 8 = List.replicate 8 0 ∧
       t.words Reg.cphTestTag 4 = (if x.dec then s.words Reg.cphTestTag 4 else Blob.toWords 4 tag) ∧
       t.regField Reg.cphTestCtrl 22 1 = (if x.dec = true ∧ tag = x.tag then 1 else 0) ∧ t.regField Reg.cphTestCtrl 24 8 = 0) ∧
      State.Changes [.cph] (Reg.cphTestCtrl :: (List.range 8).map (fun k => Reg.cphTestKey + 4 * k) ++ (List.range 20).map (fun k => Reg.cphTestOut + 4 * k)) [] s t)

/-- A store error of a polder in service is captured: a single one counts, a double one marks its block FAULTY with its
words kept. A parity error of an engine in service removes it, and a failure its polder: the frames in their contexts
leave the module, no other; a removed polder stays so; stores and every other engine's service stand. A woken polder
is awake, or gated again where the pairs do not need it, and with no unit still waking the ports whose conditions hold
become ACTIVE. A served access command takes the registers, or sets its refusal code. At its end, checked again, READ
gives the word and its block's flags; WRITE sets the word, with SLOTS the PENDING bit alone; JOIN and LEAVE set and
clear that bit; REPAIR writes a FAULTY block's word and mends it; MARK sets BOUNDED: at every polder in service that
is named, and no other block. A count snapshot shows its entry, cleared on request. A read of PLD_ARB_MAX answers it
and sets it to 0. -/
def Obligations.PoldersAndTheirStores : Prop :=
  (∀ (p : Fin 32) (addr : Fin 16384) (err : ScrubErr) (s : State),
    ∃ t, exec (.storeScrub p addr err) s = .next t ∧
      (let w := Reg.polder p.val
       let b := addr.val / 64
       if err = .none ∨ (s.polder p.val).out = true then t = s
       else
         (if err = .double then (t.polder p.val).block b = { (s.polder p.val).block b with faulty := true } ∧ (t.reg (w + 8)).getLsbD 2 = true
          else t.polders = s.polders ∧ t.counter (w + 0x60) = s.counter (w + 0x60) + 1 ∧ (t.reg (w + 8)).getLsbD 1 = true) ∧
         (s.regField (w + 0xC) 31 1 = 0 → t.regField (w + 0xC) 31 1 = 1 ∧ t.regField (w + 0xC) 28 2 = (if err = .double then 1 else 0) ∧
           t.regField (w + 0xC) 0 14 = addr.val) ∧
         State.Raised (112 + p.val) s t ∧ (∀ q, q ≠ p.val → t.polder q = s.polder q) ∧ (∀ c, c ≠ b → (t.polder p.val).block c = (s.polder p.val).block c)) ∧
      State.Changes [.polders, .evt] ((Reg.polder p.val + 8) :: (Reg.polder p.val + 0xC) :: Reg.raiseWords) ((Reg.polder p.val + 0x60) :: Reg.raiseCtrs) s t) ∧
  (∀ (e : Fin 1024) (inRegs : Bool) (s : State),
    ∃ t, exec (.engineParityError e inRegs) s = .next t ∧
      (let p := e.val / 32
       let out := fun k => decide (k = e.val)
       if (s.polder p).inService.getLsbD (e.val % 32) = false ∨ (s.polder p).state = .removed ∨ (s.polder p).state = .retired then t = s
       else
         (∀ q k, (t.polder q).inService.getLsbD k = ((s.polder q).inService.getLsbD k && !(decide (q = p ∧ k = e.val % 32)))) ∧
         (∀ id ∈ s.engineFrames out, State.Left id t) ∧ (∀ i, i ∉ s.engineFrames out → t.frame i = s.frame i) ∧
         (∀ q, (t.polder q).blocks = (s.polder q).blocks) ∧ (t.reg (Reg.polder p + 8)).getLsbD 3 = true ∧ State.Raised (112 + p) s t ∧
         (s.regField (Reg.polder p + 0xC) 31 1 = 0 → t.regField (Reg.polder p + 0xC) 28 2 = (if inRegs then 3 else 2) ∧
           t.regField (Reg.polder p + 0xC) 16 5 = e.val % 32)) ∧
      State.Only [.regs, .ctr, .lineOut, .pairs, .frames, .polders, .engines, .chn, .cph, .tim, .hbm, .evt] s t) ∧
  (∀ (p : Fin 32) (s : State),
    ∃ t, exec (.polderFailure p) s = .next t ∧
      (let out := fun k => decide (k / 32 = p.val)
       if (s.polder p.val).state = .removed then t = s
       else (t.polder p.val).state = .removed ∧ (∀ id ∈ s.engineFrames out, State.Left id t) ∧ (∀ i, i ∉ s.engineFrames out → t.frame i = s.frame i) ∧
         (∀ q, (t.polder q).inService = (s.polder q).inService ∧ (t.polder q).blocks = (s.polder q).blocks) ∧
         (∀ q, q ≠ p.val → ((t.polder q).state = .removed ↔ (s.polder q).state = .removed)) ∧
         (t.reg (Reg.polder p.val + 8)).getLsbD 4 = true ∧ State.Raised (112 + p.val) s t) ∧
      State.Only [.regs, .ctr, .lineOut, .pairs, .frames, .polders, .engines, .chn, .cph, .tim, .hbm, .evt] s t) ∧
  (∀ (p : Fin 32) (s : State),
    ∃ t, exec (.polderWakeDone p) s = .next t ∧
      (if (s.polder p.val).state = .waking then
         ((t.polder p.val).state = .awake ∨ (t.polder p.val).state = .asleep) ∧ (∀ q, (t.polder q).blocks = (s.polder q).blocks) ∧
         (State.unitsReady (s.setPolder p.val { s.polder p.val with state := .awake }) = true →
           ∀ e ∈ s.pairsUsed, ∀ line, s.portUp line e.1 = true → (t.port line e.1).active = true)
       else t = s) ∧ State.Only [.regs, .ctr, .hostPorts, .linePorts, .pairs, .polders, .cph, .evt] s t) ∧
  (∀ s : State, s.allows .pf0 Reg.pldAccCmd = true →
    ∀ x ∈ ([(1, .pldRead), (2, .pldWrite), (3, .pldJoin), (4, .pldLeave), (5, .pldRepair), (6, .pldMark)] : List (Nat × Instr)),
    let v := s.regN Reg.pldAccAddr
    let a : PldAccess := { cmd := x.1, all := v.testBit 31, polder := v / 2 ^ 24 % 32, block := v / 2 ^ 6 % 256, word := v % 64, data := BitVec.ofNat 64 (s.regN Reg.pldAccData + s.regN (Reg.pldAccData + 4) * 2 ^ 32) }
    exec x.2 s = .next (match s.pldRefusal a with
      | some r => s.setField Reg.pldAccStatus 8 8 r
      | none => { s with pldAcc := some a }) ∧ (s.pldAcc.isSome = true → s.pldRefusal a = some 0x01)) ∧
  (∀ (a : PldAccess) (s : State), s.pldAcc = some a →
    ∃ t, exec .pldAccessDone s = .next t ∧ t.pldAcc = none ∧
      (let old := fun p => (s.polder p).block a.block
       let new := fun p => (t.polder p).block a.block
       let named := s.accPolders a
       let kept := fun p (w : Nat) => Tab.get (fun _ => 0) (new p).words w = Tab.get (fun _ => 0) (old p).words w
       match State.pldRefusal { s with pldAcc := none } a with
       | some r => t.regField Reg.pldAccStatus 8 8 = r ∧ t.polders = s.polders
       | none => t.regField Reg.pldAccStatus 8 8 = 0 ∧
           (∀ p, p ∉ named → (t.polder p).blocks = (s.polder p).blocks ∧ (a.all = false → t.polder p = s.polder p)) ∧ (∀ p b, b ≠ a.block → (t.polder p).block b = (s.polder p).block b) ∧
           (∀ p, (t.polder p).state = (s.polder p).state ∧ (t.polder p).inService = (s.polder p).inService) ∧
           (a.cmd = 1 → t.polders = s.polders ∧ (∀ p q, named = p :: q →
             t.regN Reg.pldAccData + t.regN (Reg.pldAccData + 4) * 2 ^ 32 = ((s.polder p).word (a.block * 64 + a.word)).toNat ∧
             t.regField Reg.pldAccBlock 0 4 = (old p).slots % 16 ∧ t.regField Reg.pldAccBlock 8 1 = (if (old p).bounded then 1 else 0) ∧
             t.regField Reg.pldAccBlock 9 1 = (if (old p).faulty then 1 else 0))) ∧
           (∀ p ∈ named, ∀ k, s.cls.theSlot .pending = some k →
             (a.cmd = 2 → (new p).slots = 2 ^ k ∧ Tab.get (fun _ => 0) (new p).words a.word = a.data ∧ (∀ w, w ≠ a.word → kept p w) ∧
               (new p).bounded = (old p).bounded ∧ (new p).faulty = (old p).faulty) ∧
             (a.cmd = 3 → new p = { old p with slots := (old p).slots ||| 2 ^ k }) ∧
             (a.cmd = 4 → (∀ j, (new p).slots.testBit j = ((old p).slots.testBit j && decide (j ≠ k))) ∧ (∀ w, kept p w)) ∧
             (a.cmd = 6 → new p = { old p with bounded := a.data.getLsbD 0 })) ∧
           (a.cmd = 5 → ∀ p ∈ named, if (old p).faulty then (new p).faulty = false ∧ (new p).slots = (old p).slots ∧
               Tab.get (fun _ => 0) (new p).words a.word = a.data ∧ (∀ w, w ≠ a.word → kept p w)
             else new p = old p)) ∧
      State.Changes [.polders, .pldAcc] [Reg.pldAccStatus, Reg.pldAccData, Reg.pldAccData + 4, Reg.pldAccBlock] [] s t) ∧
  (∀ (v : Word) (s : State), s.allows .pf0 Reg.pldCntIndex = true →
    ∃ t, exec (.pldCntSnapshot v) s = .next t ∧
      (let i := v.toNat % 16384
       let e := Tab.get (fun _ => CountEntry.zero) s.counts i
       t.regN Reg.pldCntData + t.regN (Reg.pldCntData + 4) * 2 ^ 32 = e.frames.toNat ∧
       t.regN (Reg.pldCntData + 8) + t.regN (Reg.pldCntData + 12) * 2 ^ 32 = e.octets.toNat ∧
       (∀ j, Tab.get (fun _ => CountEntry.zero) t.counts j =
         if v.getLsbD 31 = true ∧ j = i then CountEntry.zero else Tab.get (fun _ => CountEntry.zero) s.counts j)) ∧
      State.Changes [.counts] (Reg.pldCntIndex :: (List.range 4).map (fun k => Reg.pldCntData + 4 * k)) [] s t) ∧
  (∀ (r : Req) (s : State), s.reaches r Reg.pldArbMax = true → s.answers Reg.pldArbMax = true →
    exec (.arbMaxRead r) s = .next { s with arbMax := 0, bus := { s.bus with rdata := s.regValue Reg.pldArbMax } } ∧
    (s.reg Reg.pldArbMax = 0 → s.regValue Reg.pldArbMax = BitVec.ofNat 32 s.arbMax))

/-- The oldest report waits while a command is in progress, and for an active stack; a NOTIFY table only queues its
notice; an INSERT table renews the learned entry with its key, or fills a free way, or evicts the oldest learned
entry, with the next SEQ and this second's STAMP, or does nothing where a static entry has the key or no way will do:
each counted and queued with its kind, the entry seen by lookups once its write is done. A visit removes, counts and
queues the learned entries of its bucket that are over age, never a static one. A served command takes the registers,
or shows its refusal. At its end, the stack awake if it needs it: READ gives the entry, INSERT puts one with HIT for
its key present, and a static entry outlasts a learned one; DELETE removes, LOOKUP answers, WRITE stores where the LPM
region has room. A served POP gives the oldest record, or zeros. No other table changes. -/
def Obligations.LookupsLearnAndAnswerCommands : Prop :=
  (∀ s : State, ∃ t, exec .learnReportApply s = .next t ∧
      (match s.lkp.input with
       | [] => t = s
       | r :: rest =>
         let one := fun o => t.counter (0x0800100 + o) = s.counter (0x0800100 + o) + 1
         let queued := fun (ks : List Nat) => s.lkp.queue.length + ks.length ≤ 4096 →
           (t.lkp.queue.drop s.lkp.queue.length).map (fun b => b.take 2) = ks.map (fun k => [BitVec.ofNat 8 k, BitVec.ofNat 8 r.table])
         if s.lkp.cmd.isSome then t = s
         else if s.hbm.st ≠ .active then t = if s.hbm.st = .selfRefresh then { s with hbm := { s.hbm with st := .waking } } else s
         else t.lkp.input = rest ∧ t.hbm.insertAt = some s.now ∧ (∀ m, m ≠ r.table → t.table m = s.table m) ∧
           (match s.table r.table with
            | none => t.lkp = { s.lkp with input := rest } ∧ one 0x60
            | some b =>
              let e : ExactEntry := { key := r.key, d0 := r.d0, d1 := if b.datawords = 2 then r.d1 else 0, static := false, faulty := false, seq := 0, stamp := s.stamp }
              let put := fun loc => t.table r.table = some (b.putEntry loc e) ∧
                t.lkp.writes = s.lkp.writes ++ [{ table := r.table, loc := loc, old := Tab.find b.exact loc }]
              let stays := t.lkp.tables = s.lkp.tables ∧ t.lkp.writes = s.lkp.writes
              if b.learn = 1 then stays ∧ queued [5]
              else match b.wayOf r.key with
                | some (loc, o) => if o.static then stays ∧ one 0x58 ∧ queued [6] else put loc ∧ one 0x48 ∧ queued [1]
                | none => match b.freeWay r.key with
                  | some loc => put loc ∧ one 0x40 ∧ queued [0]
                  | none => match b.oldestLearned r.key with
                    | some (loc, o) => o.static = false ∧ put loc ∧ one 0x40 ∧ one 0x50 ∧ queued [2, 0]
                    | none => stays ∧ one 0x60 ∧ queued [4])) ∧
      State.Changes [.lkp, .hbm, .evt, .pmu] (Reg.lkpEvent :: Reg.pmuWords)
        ([0x40, 0x48, 0x50, 0x58, 0x60, 0x78].map (fun o => 0x0800100 + o) ++ Reg.pmuCtrs) s t) ∧
  (∀ s : State, exec .learnWriteDone s = .next { s with lkp := { s.lkp with writes := s.lkp.writes.drop 1 } }) ∧
  (∀ (n : Fin 64) (bucket : Nat) (b : LkTable) (s : State), s.table n.val = some b →
    ∃ t c, exec (.agerBucketVisit n bucket) s = .next t ∧ t.table n.val = some c ∧
      (let limit := s.regField (0x0801004 + 8 * n.val) 16 16
       let old := fun (e : ExactEntry) => !e.static && decide (limit ≠ 0 ∧ limit + 1 ≤ (s.stamp + 2 ^ 32 - e.stamp) % 2 ^ 32)
       let gone := fun loc => decide (loc / 4 = bucket) && (match Tab.find b.exact loc with
         | some e => old e
         | none => false)
       let k := ((List.range 4).filter (fun w => gone (4 * bucket + w))).length
       if s.lkp.learns n.val then
         c = { b with exact := c.exact } ∧ (∀ loc, Tab.find c.exact loc = if gone loc then none else Tab.find b.exact loc) ∧
         t.counter 0x0800170 = s.counter 0x0800170 + BitVec.ofNat 64 k ∧
         (s.lkp.queue.length + k ≤ 4096 → (t.lkp.queue.drop s.lkp.queue.length).map (fun b => b.take 2) = List.replicate k [3, BitVec.ofNat 8 n.val])
       else t = s) ∧ (∀ m, m ≠ n.val → t.table m = s.table m) ∧
      State.Changes [.lkp, .evt] (Reg.lkpEvent :: Reg.raiseWords) (0x0800170 :: 0x0800178 :: Reg.raiseCtrs) s t) ∧
  (∀ s : State, s.allows .pf0 Reg.lkpAccCmd = true →
    ∀ x ∈ ([(1, .lkpRead), (2, .lkpInsert), (3, .lkpDelete), (4, .lkpLookup), (5, .lkpWrite)] : List (Nat × Instr)),
    let a := s.regN Reg.lkpAccTable
    let i := s.regN Reg.lkpAccIndex
    let target := a / 2 ^ 11 % 4
    let c : LkpCmd := { cmd := x.1, static := a.testBit 13, target := target, way := a / 2 ^ 8 % 8, probe := a / 2 ^ 4 % 16 + (if target = 2 then 16 * (a % 16) else 0), table := i / 2 ^ 26 % 64, index := i % 2 ^ 21, data := s.regBytes Reg.lkpAccData 16 }
    ∃ t, exec x.2 s = .next t ∧
      (match s.lkpRefusal c with
       | some r => t.regField Reg.lkpAccStatus 8 8 = r ∧ t.regField Reg.lkpAccStatus 1 1 = (if r = 0x01 then s.regField Reg.lkpAccStatus 1 1 else 0) ∧ State.Changes [] [Reg.lkpAccStatus] [] s t
       | none => t.lkp = { s.lkp with cmd := some c } ∧ t.counter 0x0800180 = s.counter 0x0800180 + 1 ∧
           t.hbm = (if s.lkp.inHbm c.table = true ∧ s.hbm.st = .selfRefresh then { s.hbm with st := .waking } else s.hbm) ∧
           State.Changes [.lkp, .hbm] [] [0x0800180] s t) ∧
      (s.lkp.cmd.isSome = true → s.lkpRefusal c = some 0x01) ∧ (s.lkp.cmd = none → s.table c.table = none → s.lkpRefusal c = some 0x46)) ∧
  (∀ (c : LkpCmd) (s : State), s.lkp.cmd = some c →
    ∃ t, exec .lkpCommandDone s = .next t ∧
      (let n := c.table
       let result := fun r h => t.regField Reg.lkpAccStatus 8 8 = r ∧ t.regField Reg.lkpAccStatus 1 1 = h
       if s.lkp.inHbm n = true ∧ s.hbm.st ≠ .active then t = s
       else t.lkp.cmd = none ∧ t.hbm.insertAt = some s.now ∧ (∀ m, m ≠ n → t.table m = s.table m) ∧
         (match s.table n with
          | none => result 0x46 0
          | some b =>
            let key := b.keyOfBytes c.data
            let e : ExactEntry := { key := key, d0 := BitVec.ofNat 64 (leAt c.data 32 8), d1 := if b.datawords = 2 then BitVec.ofNat 64 (leAt c.data 40 8) else 0, static := c.static, faulty := false, seq := 0, stamp := s.stamp }
            let put := fun loc => t.table n = some (b.putEntry loc e)
            let stays := t.lkp = { s.lkp with cmd := none }
            let bits : FilterEntry := { bits := BitVec.ofNat 64 (leAt c.data 0 8), faulty := false }
            (c.cmd = 1 → stays ∧ result 0 0 ∧ t.words Reg.lkpAccData ((s.lkpRead b c).length / 4) = Blob.toWords ((s.lkpRead b c).length / 4) (s.lkpRead b c)) ∧
            (c.cmd = 2 → match b.wayOf key with
              | some (loc, o) => result 0 1 ∧ (if o.static = true ∧ c.static = false then stays else put loc)
              | none => match b.freeWay key with
                | some loc => put loc ∧ result 0 0
                | none => match b.oldestLearned key with
                  | some (loc, o) => o.static = false ∧ put loc ∧ result 0 0 ∧ t.counter 0x0800150 = s.counter 0x0800150 + 1
                  | none => stays ∧ result 0x48 0) ∧
            (c.cmd = 3 → match b.wayOf key with
              | some (loc, _) => t.table n = some { b with exact := Tab.del b.exact loc } ∧ result 0 0
              | none => stays ∧ result 0x49 0) ∧
            (c.cmd = 4 → let o := s.lkp.lookup n key
              stays ∧ result 0 (if o.hit then 1 else 0) ∧
              t.words (Reg.lkpAccData + 32) 4 = Blob.toWords 4 (leBytes 8 o.w0.toNat ++ leBytes 8 o.w1.toNat)) ∧
            (c.cmd = 5 →
              let l : Lkp := { s.lkp with cmd := none }
              let loc := (c.probe * 2 ^ 20 + c.index) * 8 + c.way
              let w := if c.target = 2 then { l with chunks := Tab.ins l.chunks (c.probe * 65536 + c.index) bits }
                else if c.target = 1 then l.setTable n { b with filter := Tab.ins b.filter c.index bits }
                else l.setTable n { b with lpm := match LkTable.lpmOfBytes c.data with
                  | some e => Tab.ins b.lpm loc e
                  | none => Tab.del b.lpm loc }
              if Seed.poolsOk w then t.lkp = w ∧ result 0 0 else stays ∧ result 0x48 0))) ∧
      State.Changes [.lkp, .hbm, .evt, .pmu] (Reg.lkpEvent :: Reg.lkpAccStatus :: (List.range 16).map (fun k => Reg.lkpAccData + 4 * k) ++ Reg.pmuWords)
        (0x0800150 :: 0x0800178 :: Reg.pmuCtrs) s t) ∧
  (∀ s : State, s.allows .pf0 Reg.lkpLqPop = true →
    ∃ t, exec .lkpLqPop s = .next t ∧ t.words Reg.lkpLqData 16 = Blob.toWords 16 ((s.lkp.queue.head?).getD (zeros 64)) ∧
      t.lkp = { s.lkp with queue := s.lkp.queue.drop 1,
                           armed := s.lkp.armed || decide (2 * (s.lkp.queue.length - 1) < s.regField Reg.lkpControl 0 13) } ∧
      State.Changes [.lkp] ((List.range 16).map (fun k => Reg.lkpLqData + 4 * k)) [] s t)

/-- A served write of a command code by the host is refused as busy while a host command is in progress, and else accepted
with the registers; the steward's port accepts up to sixteen; a LOAD takes its domain slot's generation as it stands
then. A command that need not wait and reads its record without an error completes with one result at its port, a
refusal being counted and changing no record but that KEY_FAIL leaves its slot EMPTY: a bad handle, a stale one, a
faulty channel, then what the command itself checks. CREATE allocates an index free and not held; DESTROY frees it and
advances its generation, holding it while a frame bound to it is in the module; READ and READ_SLOTS give the record
without keys; LOAD, ERASE, SET_MARK, CLEAR_MARK, SET_PN, SET_WINDOW and CLEAR_COUNTERS set the fields the table gives
and no others. No other channel changes, unless the domain key cell of a LOAD fails: its generation is invalidated. An
error in the record read makes it faulty, and a sealing key cell that fails is a C4 fault. -/
def Obligations.ChannelCommandsTakeEffect : Prop :=
  (∀ (x : Nat × (CmdPort → Instr)) (s : State),
    x ∈ ([(1, .chnCreate), (2, .chnDestroy), (3, .chnRead), (4, .chnReadSlots), (5, .chnLoad), (6, .chnErase), (7, .chnSetMark), (8, .chnClearMark),
      (9, .chnSetPn), (10, .chnSetWindow), (11, .chnClearCounters)] : List (Nat × (CmdPort → Instr))) →
    let taken := fun (t : State) (host : Bool) (h arg : Word) (data : List Word) =>
      let d := (data.getD 0 0).toNat
      let k := s.key.slot (d % 1024)
      (∃ c : ChnCmd, t.chn = { s.chn with cmds := s.chn.cmds ++ [c] } ∧ c.code = x.1 ∧ c.host = host ∧ c.handle = h.toNat ∧ c.arg = arg.toNat ∧ c.data = data ∧
        (x.1 = 5 → c.domOk = (k.usage.testBit (if d.testBit 16 then 1 else 2) && k.key.isSome) ∧ c.domGen = k.gen)) ∧
      t.counter (Reg.chnCtr + 0x28) = s.counter (Reg.chnCtr + 0x28) + 1 ∧
      State.Changes [.chn, .hbm, .evt, .pmu] Reg.pmuWords ((Reg.chnCtr + 0x28) :: Reg.pmuCtrs) s t
    (s.allows .pf0 Reg.chnCmd = true →
      ∃ t, exec (x.2 .host) s = .next t ∧
        (if s.chn.cmds.any (fun c => c.host) then t.regField Reg.chnCmdStatus 8 8 = 1 ∧ t.counter (Reg.chnCtr + 0x30) = s.counter (Reg.chnCtr + 0x30) + 1 ∧
            State.Raised 165 s t ∧ State.Changes [.evt] (Reg.chnCmdStatus :: Reg.chnEvent :: Reg.raiseWords) ((Reg.chnCtr + 0x30) :: Reg.raiseCtrs) s t
         else taken t true (s.reg Reg.chnCmdHandle) (s.reg Reg.chnCmdArg) (s.words Reg.chnData 32))) ∧
    (∀ (h arg : Word) (data : List Word), ∃ t, exec (x.2 (.steward h arg data)) s = .next t ∧
      (if s.stewardServes = true ∧ (s.chn.cmds.filter (fun c => !c.host)).length < 16 then taken t false h arg data else t = s))) ∧
  (∀ (n : Nat) (c : ChnCmd) (err : FarErr) (cell : Bool) (s : State), s.chn.cmds[n]? = some c → 1 ≤ c.code → c.code ≤ 11 →
    s.chWaits n c = false → c.code ≠ 1 → (s.chRecord c.handle).isSome = true →
    (let sealed := Handle.far c.handle && !s.cached (Handle.index c.handle)
     let e := if sealed then s.readErr err else err
     e ≠ .none → (∀ l, e ≠ .single l) →
     ∃ t, exec (.chnCommandDone n err cell) s = .next t ∧
       (if e = .cell ∧ sealed = true then State.Raised 197 s t else c.code ≠ 2 → ∃ q, t.chRecord c.handle = some q ∧ q.faulty = true) ∧
       (c.code ≠ 2 → (if c.host then t.regField Reg.chnCmdStatus 8 8 = 0x53 else t.bus.status = 0x53) ∧ State.Raised 165 s t) ∧
       (c.code = 2 → e ≠ .cell ∨ sealed = false → t.chRecord c.handle = none) ∧ State.Only (.bus :: Part.traffic) s t)) ∧
  (∀ (n : Nat) (c : ChnCmd) (cell : Bool) (s : State), s.chn.cmds[n]? = some c → 1 ≤ c.code → c.code ≤ 11 →
    s.sealKeysOk = true →
    ∃ t, exec (.chnCommandDone n .none cell) s = .next t ∧
      (let a := c.arg % 4
       let b := c.arg / 4 % 4
       let far := Handle.far c.handle
       let i := Handle.index c.handle
       let result := fun (r : Nat) => (if c.host then t.regField Reg.chnCmdStatus 8 8 = r else t.bus.status = r) ∧
         (r ≠ 0 → t.counter (Reg.chnCtr + 0x30) = s.counter (Reg.chnCtr + 0x30) + 1 ∧ State.Raised 165 s t)
       let gives := fun (bytes : Bytes) => if c.host then t.words Reg.chnData 32 = Blob.toWords 32 bytes else t.bus.bytes = Blob.ofWords (Blob.toWords 32 bytes)
       let word := fun (k : Nat) => (c.data.getD k 0).toNat
       let dword := fun (k : Nat) => word k + word (k + 1) * 2 ^ 32
       if s.chWaits n c then t = s
       else t.chn.cmds = s.chn.cmds.eraseIdx n ∧
         (if c.code = 1 then
            let q := ChRec.asked c
            let tab := if far then s.chn.far else s.chn.near
            let j := if c.arg.testBit 30 then i else State.lowestFree 0 tab
            let size := if far then 2 ^ 24 else 65536
            let no := fun (r : Nat) => result r ∧ t.chn.near = s.chn.near ∧ t.chn.far = s.chn.far
            if ¬ (Handle.kind c.handle = 1 ∨ Handle.kind c.handle = 2) ∨ (c.arg.testBit 30 = true ∧ size ≤ i) then no 0x46
            else if s.badCreate c far then no 0x52
            else if q.mode = 3 ∧ (s.chn.near.any (fun e => State.bears e.2 q.trunkChannel) = true ∨ s.chn.far.any (fun e => State.bears e.2 q.trunkChannel) = true) then no 0x51
            else if c.arg.testBit 30 = true ∧ State.taken (s.chIndex far i) = true then no 0x4C
            else if size ≤ j then no 0x48
            else result 0 ∧ (∀ f k, (f ≠ far ∨ k ≠ j) → t.chIndex f k = s.chIndex f k) ∧ (t.chIndex far j).gen = (s.chIndex far j).gen ∧
              (t.chIndex far j).body = some { q with softLimit := s.softLimitOf q.profile q.suite q.mode, drainCount := s.inForce (Reg.chnProfile + 0x20 * q.profile + 0x18) } ∧
              (c.host = true → t.reg Reg.chnResultHandle = BitVec.ofNat 32 (Handle.mk far j (s.chIndex far j).gen))
          else
            let no := fun (r : Nat) => result r ∧ t.chn.near = s.chn.near ∧ t.chn.far = s.chn.far
            ((c.code = 5 → (s.loadKek c cell).isSome = true) → ∀ f k, (f ≠ far ∨ k ≠ i) → t.chIndex f k = s.chIndex f k) ∧
            (if Handle.valid c.handle = false then no 0x46
             else match s.chRecord c.handle with
              | none => no 0x4B
              | some r =>
                let o := r.slot a
                let becomes := fun (q : ChRec) => result 0 ∧ t.chRecord c.handle = some q
                let slotted := fun (q : ChRec) => t.chRecord c.handle = some q ∧ (∀ k, k ≠ a → q.slot k = r.slot k)
                if r.faulty = true ∧ c.code ≠ 2 then no 0x53
                else
                  (c.code = 2 → result 0 ∧ t.chRecord c.handle = none ∧ (t.chIndex far i).body = none ∧
                    (t.chIndex far i).gen = ((s.chIndex far i).gen + 1) % 64 ∧ (t.chIndex far i).held = s.indexBusy far i) ∧
                  (c.code = 3 → becomes r ∧ gives (r.head (Handle.gen c.handle))) ∧ (c.code = 4 → becomes r ∧ gives r.tail) ∧
                  (c.code = 5 → (c.host = true → t.words (Reg.chnData + 16) 13 = List.replicate 13 0) ∧
                    (if o.st = .current ∨ o.st = .draining ∨ o.st = .exhausted ∨ (r.markSet = true ∧ r.nextAn = a) then no 0x4C
                     else if c.domOk = false then no 0x50
                     else if State.badLoad c r then no 0x52
                     else
                       let kept := o.st = .loaded → o.cell c.handle a true ∈ t.chn.cells
                       match s.loadKek c cell with
                       | none => result 0x4F ∧ State.Raised 196 s t ∧ t.counter (Reg.keyCtr + 0x28) = s.counter (Reg.keyCtr + 0x28) + 1 ∧
                           t.key.stands (word 0 % 1024) c.domGen = false ∧
                           ∃ q, t.chRecord c.handle = some q ∧ (q.slot a).st = .empty ∧ (q.slot a).key = Cell.empty ∧ (q.slot a).salt = []
                       | some kek => kept ∧ (match State.loadKey c kek with
                          | none => result 0x4F ∧ ∃ q, slotted q ∧ { q with slots := r.slots } = r ∧ (q.slot a).st = .empty ∧ (q.slot a).key = Cell.empty ∧
                              (q.slot a).salt = [] ∧ (q.slot a).keyGen = (o.keyGen + 1) % 256
                          | some key => result 0 ∧ ∃ q, slotted q ∧ { q with slots := r.slots } = r ∧ (q.slot a).pn = dword 1 ∧
                              (q.slot a).frames = 0 ∧ (q.slot a).softRaised = false ∧ (q.slot a).keyGen = (o.keyGen + 1) % 256 ∧
                              (q.slot a).domain = word 0 % 1024 ∧ (q.slot a).domainGen = c.domGen ∧
                              (if s.key.stands (word 0 % 1024) c.domGen then (q.slot a).st = .loaded ∧ (q.slot a).key = (s.newCell key).1
                               else (q.slot a).st = .spent ∧ (q.slot a).key = Cell.empty ∧
                                 ∃ k ∈ t.chn.cells, k.handle = c.handle ∧ k.an = a ∧ k.keyGen = (o.keyGen + 1) % 256 ∧ k.key = (s.newCell key).1)))) ∧
                  (c.code = 6 → if o.st = .empty then becomes r
                     else result 0 ∧ (o.st ≠ .spent → o.cell c.handle a true ∈ t.chn.cells) ∧
                       ∃ q, slotted q ∧ { q with slots := r.slots, markSet := r.markSet } = r ∧ q.markSet = (r.markSet && decide (r.nextAn ≠ a)) ∧
                         q.slot a = { o with st := .spent, shown := none, keyGen := (o.keyGen + 1) % 256, key := if o.st = .spent then o.key else Cell.empty, salt := if o.st = .spent then o.salt else [] }) ∧
                  (c.code = 7 → if r.dec then no 0x52
                     else if b = r.curAn ∨ (r.slot b).st ≠ .loaded then no 0x4D
                     else if dword 0 < r.frames ∧ c.arg.testBit 31 = false then no 0x54
                     else becomes { r with nextAn := b, mark := max (dword 0) r.frames, markSet := true }) ∧
                  (c.code = 8 → if r.dec then no 0x52 else becomes { r with markSet := false }) ∧
                  (c.code = 9 → if r.lastPn < dword 0 then no 0x52 else if dword 0 < o.pn then no 0x4E
                     else result 0 ∧ ∃ q, slotted q ∧ { q with slots := r.slots } = r ∧ q.slot a = { o with pn := dword 0 }) ∧
                  (c.code = 10 → if r.dec = false ∨ word 0 / 2 ^ 30 % 4 ≠ 0 then no 0x52 else becomes { r with window := word 0 }) ∧
                  (c.code = 11 → becomes { r with cOk := 0, cOctets := 0, cLate := 0, cIcv := 0, cReplay := 0, cSlot := 0, cRefused := 0 })))) ∧
      (let rs := Reg.chnCmdStatus :: Reg.chnResultHandle :: Reg.chnEvent :: (List.range 32).map (fun k => Reg.chnData + 4 * k) ++ Reg.raiseWords
       let cs := (Reg.chnCtr + 0x30) :: (Reg.chnCtr + 0x50) :: Reg.raiseCtrs
       if c.code = 5 then State.Changes [.freeIdx, .bus, .chn, .key, .evt] (Reg.keyEvent :: Reg.keyAbort :: Reg.keyInval :: Reg.keyInvalGen :: rs)
           ([0x18, 0x20, 0x28, 0x30].map (fun o => Reg.keyCtr + o) ++ cs) s t
       else State.Changes [.bus, .chn, .evt] rs cs s t))

/-- A key generation still bound by a frame of the module, or without a holding cell, stays; else its cells go, and the
SPENT slot whose newest key it was becomes EMPTY without a key, with a note. A held index to which no frame is bound
is free to allocate again; any other stays as it is. The visit of a channel that a sweep still has to visit crosses it
off, lets its record show its slots as they are and queues the PARENT_STOP note due; another visit does nothing. A
served POP gives the oldest note, or zeros, and takes it from the queue. No other channel changes. -/
def Obligations.KeysAndIndexesAreReleased : Prop :=
  (∀ (handle : Word) (an : Fin 4) (kg : Fin 256) (s : State),
    ∃ t, exec (.keyGenerationRelease handle an kg) s = .next t ∧
      (let h := handle.toNat
       let mine := fun (k : KeyCell) => decide (k.handle = h ∧ k.an = an.val ∧ k.keyGen = kg.val)
       let busy := ∃ e ∈ s.frames, e.2.stage ≠ .gone ∧ ∃ b, e.2.bind = some b ∧ b.handle = h ∧ b.an = an.val ∧ b.keyGen = kg.val
       (busy → t = s) ∧ (s.chn.cells.any mine = false → t = s) ∧
       (¬ busy → s.chn.cells.any mine = true →
         t.chn.cells = s.chn.cells.filter (fun k => !mine k) ∧
         (∀ r, s.chRecord h = some r →
           ((s.heldCell h an.val).map mine = some true → (r.slot an.val).st = .spent →
             (s.chn.notes.length < 4096 → t.chn.notes.length = s.chn.notes.length + 1) ∧
             ∃ q, t.chRecord h = some q ∧ { q with slots := r.slots } = r ∧ (q.slot an.val).st = .empty ∧ (q.slot an.val).key = Cell.empty ∧ (q.slot an.val).salt = [] ∧
               (∀ k, k ≠ an.val → q.slot k = r.slot k)) ∧
           ((s.heldCell h an.val).map mine ≠ some true ∨ (r.slot an.val).st ≠ .spent → t.chRecord h = some r)))) ∧
      (∀ f k, (f ≠ Handle.far handle.toNat ∨ k ≠ Handle.index handle.toNat) → t.chIndex f k = s.chIndex f k) ∧
      State.Changes [.chn, .evt] (Reg.chnEvent :: Reg.raiseWords) ((Reg.chnCtr + 0x50) :: Reg.raiseCtrs) s t) ∧
  (∀ (far : Bool) (i : Nat) (s : State),
    ∃ t, exec (.indexRelease far i) s = .next t ∧
      (let x := s.chIndex far i
       let busy := ∃ e ∈ s.frames, e.2.stage ≠ .gone ∧ ∃ b, e.2.bind = some b ∧ Handle.far b.handle = far ∧ Handle.index b.handle = i
       (busy ∨ x.held = false → t = s) ∧
       (¬ busy → x.held = true → t.chIndex far i = { x with held := false, last := none } ∧ t.chn.cells = s.chn.cells ∧ t.chn.cmds = s.chn.cmds)) ∧
      (∀ f k, (f ≠ far ∨ k ≠ i) → t.chIndex f k = s.chIndex f k) ∧ State.Only [.chn] s t) ∧
  (∀ (far : Bool) (i : Nat) (s : State), i < 2 ^ 24 →
    ∃ t, exec (.invalidationSweepVisit far i) s = .next t ∧
      (let n := if far then 2 ^ 24 + i else i
       if s.key.sweeps.any (fun w => w.todo.contains n) then
         t.key = { s.key with sweeps := (s.key.sweeps.map (fun w => { w with todo := w.todo.filter (fun k => decide (k ≠ n)) })).filter (fun w => !w.todo.isEmpty) } ∧
         (match (s.chIndex far i).body with
          | none => t.chn = s.chn
          | some r => ∃ q, (t.chIndex far i).body = some q ∧ q.notice = none ∧ (∀ k < 4, q.slot k = { r.slot k with shown := none }) ∧
              { q with slots := r.slots, notice := r.notice } = r ∧
              (s.chn.notes.length < 4096 → t.chn.notes.length = s.chn.notes.length + (if r.notice.isSome then 1 else 0)))
       else t = s) ∧
      (∀ f k, (f ≠ far ∨ k ≠ i) → t.chIndex f k = s.chIndex f k) ∧
      State.Changes [.chn, .key, .evt] (Reg.chnEvent :: Reg.raiseWords) ((Reg.chnCtr + 0x50) :: Reg.raiseCtrs) s t) ∧
  (∀ s : State, s.allows .pf0 Reg.chnNotePop = true →
    ∃ t, exec .chnNotePop s = .next t ∧ t.words Reg.chnNoteData 4 = Blob.toWords 4 ((s.chn.notes.head?).getD (zeros 16)) ∧
      t.chn.notes = s.chn.notes.drop 1 ∧ t.chn = { s.chn with notes := t.chn.notes, armed := t.chn.armed } ∧
      State.Changes [.chn] ((List.range 4).map (fun k => Reg.chnNoteData + 4 * k)) [] s t)

/-- A served key command of the host is refused as busy while a host command is in progress, and else accepted; the
steward's port accepts up to sixteen. At acceptance the checks fall in order. A command that need not wait completes
with one result at its port: the refusal of its acceptance, or of a sweep begun or a DRBG gone since; KEY_FAIL where a
key cell fails, which is counted and invalidates a parent still standing, or where a blob does not open. IMPORT,
UNWRAP, DERIVE and GENERATE write their slot's cell at the next generation, with a child of a parent that fell
invalidated at once; the two GENERATEs wrap a fresh key; INVALIDATE leaves its slot EMPTY, with its children, and no
channel slot LOADED under it; ATTEST gives its MAC. A slot not named stays or is EMPTY. -/
def Obligations.KeyCommandsTakeEffect : Prop :=
  (∀ (x : Nat × (CmdPort → Instr)) (s : State),
    x ∈ ([(1, .domainImport), (2, .domainUnwrap), (3, .domainDerive), (4, .domainGenerate), (5, .assocGenerate), (6, .domainInvalidate),
      (7, .keyAttest)] : List (Nat × (CmdPort → Instr))) →
    let taken := fun (t : State) (host : Bool) (arg : Nat) (data : List Word) =>
      let slot := arg % 1024
      let parent := arg / 2 ^ 16 % 1024
      let usage := arg / 2 ^ 10 % 16
      let p := s.key.slot parent
      (∃ c : KeyCmd, t.key = { s.key with cmds := s.key.cmds ++ [c] } ∧ c.code = x.1 ∧ c.host = host ∧ c.slot = slot ∧ c.parent = parent ∧ c.usage = usage ∧
        c.data = data ∧ c.parentGen = p.gen ∧ c.parentDepth = p.depth ∧
        c.att = (if x.1 = 7 ∧ s.key.digestPending = false then s.key.ak.map (fun k => s.attestation k.key (Blob.ofWords data)) else none) ∧
        c.refused = (if s.lev.locked then some 0x55
          else if (2 ≤ x.1 ∧ x.1 ≤ 5) ∧ slot = parent then some 0x46
          else if s.key.sweeps.any (fun w => decide (w.slot = slot)) = true then some 0x01
          else if x.1 = 7 ∧ s.key.ak = none then some 0x55
          else if (2 ≤ x.1 ∧ x.1 ≤ 5) ∧ p.key = none then some 0x50
          else if (2 ≤ x.1 ∧ x.1 ≤ 5) ∧ (p.usage.testBit (if x.1 = 2 then 2 else if x.1 = 3 then 1 else 3) = false ∨ (x.1 = 3 ∧ usage &&& p.usage ≠ usage)) then some 0x56
          else if x.1 = 3 ∧ 3 ≤ p.depth then some 0x59
          else if (x.1 = 4 ∨ x.1 = 5) ∧ s.key.drbg = none then some 0x57
          else none)) ∧
      t.counter Reg.keyCtr = s.counter Reg.keyCtr + 1 ∧ State.Changes [.key] [] [Reg.keyCtr] s t
    (s.allows .pf0 Reg.keyCmd = true →
      ∃ t, exec (x.2 .host) s = .next t ∧
        (if s.key.cmds.any (fun c => c.host) then t.regField Reg.keyCmdStatus 8 8 = 1 ∧ t.counter (Reg.keyCtr + 8) = s.counter (Reg.keyCtr + 8) + 1 ∧
            State.Raised 192 s t ∧ State.Changes [.evt] (Reg.keyCmdStatus :: Reg.keyEvent :: Reg.raiseWords) ((Reg.keyCtr + 8) :: Reg.raiseCtrs) s t
         else taken t true (s.regN Reg.keyCmdArg) (if x.1 = 7 then s.words Reg.keyAttChal 8 else s.words Reg.keyData 16))) ∧
    (∀ (h arg : Word) (data : List Word), ∃ t, exec (x.2 (.steward h arg data)) s = .next t ∧
      (if s.stewardServes = true ∧ (s.key.cmds.filter (fun c => !c.host)).length < 16 then taken t false arg.toNat data else t = s))) ∧
  (∀ (n : Nat) (bad : Bool) (c : KeyCmd) (s : State), s.key.cmds[n]? = some c → 1 ≤ c.code → c.code ≤ 7 →
    ∃ t, exec (.keyCommandDone n bad) s = .next t ∧
      (let rest := { s.key with cmds := s.key.cmds.eraseIdx n }
       let result := fun (r : Nat) (out : Bytes) => (if c.host
         then t.regField Reg.keyCmdStatus 8 8 = r ∧ t.words Reg.keyData 16 = Blob.toWords 16 (if c.code = 7 then [] else out) ∧ t.words Reg.keyAttChal 8 = List.replicate 8 0
         else t.bus.status = r ∧ t.bus.bytes = Blob.ofWords (Blob.toWords ((out.length + 3) / 4) out)) ∧
         (r ≠ 0 → t.counter (Reg.keyCtr + 8) = s.counter (Reg.keyCtr + 8) + 1 ∧ State.Raised 192 s t)
       let no := fun r => result r [] ∧ t.key = rest
       let gen := ((s.key.slot c.slot).gen + 1) % 65536
       let dev := decide (c.code = 1 ∨ c.code = 7)
       let blob := Blob.ofWords c.data
       let opens := fun (kek : Bytes) (o : Origin) => match Blob.openDomain kek (blob.take 56) c.slot (s.devNumber.getD 0) with
         | none => no 0x4F
         | some (key, usage) => result 0 [] ∧
             t.key.slot c.slot = { key := some (s.newCell key).1, gen := gen, usage := usage, origin := o, depth := 0, derived := false, parent := 0, parentGen := 0 }
       if s.keyWaits n c then t = s
       else t.key.cmds = s.key.cmds.eraseIdx n ∧
         (match c.refused.or (if s.key.sweeping c.slot = true then some 0x01
             else if (c.code = 4 ∨ c.code = 5) ∧ s.key.drbg = none then some 0x57 else none) with
          | some r => no r
          | none =>
            if c.code ≠ 6 ∧ s.usedCell c = none then no 0x4F
            else match if c.code = 6 then some [] else (s.usedCell c).bind (fun x => s.fetch x bad) with
            | none => result 0x4F [] ∧ t.counter (Reg.keyCtr + 0x28) = s.counter (Reg.keyCtr + 0x28) + 1 ∧ State.Raised 196 s t ∧
              (if dev then State.Raised 197 s t else t.key.stands c.parent c.parentGen = false)
            | some kek =>
              let drawn := s.drawKey c.usage
              (c.code = 1 → opens kek .import) ∧ (c.code = 2 → opens kek .unwrap) ∧
              (c.code = 3 → result 0 [] ∧ t.counter (Reg.keyCtr + 0x20) = s.counter (Reg.keyCtr + 0x20) + 1 ∧
                (t.key.stands c.parent c.parentGen = true → t.key.slot c.slot = {
                  key := some (s.newCell (Crypto.kdf kek (Crypto.ascii "TYJ DOMAIN") (sliceZ blob 0 40) (if c.usage.testBit 0 then 256 else 128))).1, gen := gen, usage := c.usage, origin := .derive, depth := c.parentDepth + 1, derived := true, parent := c.parent, parentGen := c.parentGen }) ∧
                (s.key.stands c.parent c.parentGen = false → t.key.valid c.slot = false)) ∧
              (c.code = 4 → result 0 (Crypto.kwWrap kek (Blob.domainPlain drawn.1 c.slot c.usage 0xFFFF)) ∧
                t.key.slot c.slot = { key := some (drawn.2.newCell drawn.1).1, gen := gen, usage := c.usage, origin := .generate, depth := 0, derived := false, parent := 0, parentGen := 0 }) ∧
              (c.code = 5 → result 0 (Crypto.kwWrap kek drawn.1) ∧ t.key.slots = s.key.slots) ∧
              (c.code = 6 → result 0 [] ∧
                (if s.key.valid c.slot then
                   let g := (s.key.slot c.slot).gen
                   t.key.slot c.slot = { Domain.empty with gen := gen } ∧ t.counter (Reg.keyCtr + 0x18) = s.counter (Reg.keyCtr + 0x18) + 1 ∧ State.Raised 193 s t ∧
                   (∀ m, (s.key.slot m).derived = true → (s.key.slot m).parent = c.slot → (s.key.slot m).parentGen = g → t.key.valid m = false) ∧
                   (∀ f i r a, i < 2 ^ 24 → a < 4 → (t.chIndex f i).body = some r → (r.slot a).st = .loaded →
                     ¬ ((r.slot a).domain = c.slot ∧ (r.slot a).domainGen = g))
                 else t.key = rest)) ∧
              (c.code = 7 → result 0 (c.att.getD []) ∧ t.key = rest ∧ t.counter (Reg.keyCtr + 0x40) = s.counter (Reg.keyCtr + 0x40) + 1 ∧
                (c.host = true → t.words Reg.keyAttMac 12 = Blob.toWords 12 ((c.att.getD []).drop 120)))) ∧
         (∀ m, m ≠ c.slot → t.key.slot m = s.key.slot m ∨ t.key.valid m = false) ∧
         (if dev = true ∧ (s.usedCell c).any (fun x => (s.fetch x bad).isNone) = true then State.Only (.bus :: .key :: Part.traffic) s t
          else State.Only [.freeIdx, .regs, .ctr, .bus, .chn, .key, .evt] s t)))

/-- A dead generation that no command refers to is destroyed, any other stays. Only while the DRBG is instantiated are the
cells masked afresh, their keys and codes as before, and counted, and does it reseed, counted. A noise health failure
of a source in service with the clock running takes the DRBG away and raises 195; the DRBG is instantiated again after
such a failure where that succeeds. A periodic test that fails in RUN latches the C4 state and every frame leaves the
module. A pending digest is recomputed over the policies and the domain table, and every ATTEST that waits for it,
with a key to answer, gets its response. A served write of the selection shows that slot. Nothing else changes. -/
def Obligations.TheKeyUnitLooksAfterItself : Prop :=
  (∀ (slot : Fin 1024) (gen : Fin 65536) (s : State), exec (.domainKeyDestroy slot gen) s = .next
    (if s.keyRefs slot.val gen.val = 0 then { s with key := { s.key with dead := s.key.dead.filter (fun d => decide (¬(d.slot = slot.val ∧ d.gen = gen.val))) } }
     else s)) ∧
  (∀ s : State, ∃ t, exec .cellRemask s = .next t ∧
    (let device := fun (k : Key) => [k.dtk, k.ak, k.uk, k.k1, k.k2, k.kt].map (Option.map (fun c => (c.key, c.code)))
     if s.key.drbg.isSome then
       t.counter (Reg.keyCtr + 0x38) = s.counter (Reg.keyCtr + 0x38) + 1 ∧ device t.key = device s.key ∧
       (∀ n, t.key.slot n = { s.key.slot n with key := (t.key.slot n).key } ∧
         (t.key.slot n).key.map (fun c => (c.key, c.code)) = (s.key.slot n).key.map (fun c => (c.key, c.code))) ∧
       (∀ f i, (t.chIndex f i).body.map (fun r => r.slots.map (fun x => { x.2 with key := Cell.empty })) =
           (s.chIndex f i).body.map (fun r => r.slots.map (fun x => { x.2 with key := Cell.empty })) ∧
         (t.chIndex f i).body.map (fun r => r.slots.map (fun x => (x.2.key.key, x.2.key.code))) =
           (s.chIndex f i).body.map (fun r => r.slots.map (fun x => (x.2.key.key, x.2.key.code)))) ∧
       t.chn.cells.map (fun k => (k.handle, k.an, k.keyGen, k.key.key, k.key.code)) = s.chn.cells.map (fun k => (k.handle, k.an, k.keyGen, k.key.key, k.key.code))
     else t = s) ∧ State.Changes [.freeIdx, .key, .chn] [] [Reg.keyCtr + 0x30, Reg.keyCtr + 0x38] s t) ∧
  (∀ s : State, ∃ t, exec .drbgReseed s = .next t ∧
    (match s.key.drbg with
     | some d => t.key = { s.key with drbg := some (d.reseed (s.entropy 32).1) } ∧ t.freeIdx = s.freeIdx + 1 ∧
         t.counter (Reg.keyCtr + 0x30) = s.counter (Reg.keyCtr + 0x30) + 1 ∧ State.Changes [.freeIdx, .key] [] [Reg.keyCtr + 0x30] s t
     | none => t = s)) ∧
  (∀ (d : Drbg) (e : Bytes), (d.reseed e).count = 0 ∧ (Drbg.instantiate e).count = 0 ∧ ∀ n, (d.generate n).2.count = d.count + 1) ∧
  (∀ s : State, ∃ t, exec .noiseHealthFail s = .next t ∧
    (if s.clockOn = true ∧ s.key.sourceRemoved = false then
       t.key = { s.key with drbg := none, healthFail := true } ∧ (t.reg Reg.keyEvent).getLsbD 3 = true ∧ State.Raised 195 s t ∧
       State.Changes [.key, .evt] (Reg.keyEvent :: Reg.raiseWords) Reg.raiseCtrs s t
     else t = s)) ∧
  (∀ (ok : Bool) (s : State), ∃ t, exec (.drbgReinstantiate ok) s = .next t ∧
    (if s.key.healthFail = true ∧ s.key.sourceRemoved = false ∧ ok = true then
       t.key = { s.key with drbg := some (Drbg.instantiate (s.entropy 48).1), healthFail := false } ∧ State.Only [.freeIdx, .key] s t
     else t = s)) ∧
  (∀ (ok : Bool) (s : State), ∃ t, exec (.katPeriodic ok) s = .next t ∧
    (if s.running = true ∧ ok = false then State.Raised 197 s t ∧ t.evt.c4 = some (s.evt.c4.getD 197) ∧ (s.evt.c4 = none → ∀ id, State.Left id t) ∧
       State.Only Part.traffic s t
     else t = s)) ∧
  (∀ s : State, ∃ t, exec .configDigestRecompute s = .next t ∧
    (if s.key.digestPending then
       t.key.digest = Crypto.sha384 (s.portPolicy ++ s.heldPolicy ++ s.key.table s.drains) ∧ t.key.digestPending = false ∧
       t.key.cmds.map (fun c => { c with att := none }) = s.key.cmds.map (fun c => { c with att := none }) ∧
       (s.key.ak.isSome = true → ∀ c ∈ t.key.cmds, c.code = 7 → c.att.isSome = true) ∧
       t = { s with key := { s.key with digest := t.key.digest, digestPending := false, cmds := t.key.cmds } }
     else t = s)) ∧
  (∀ (v : Word) (s : State), s.allows .pf0 Reg.keySlotSel = true →
    ∃ t, exec (.keySlotSnapshot v) s = .next t ∧
      (let n := v.toNat % 1024
       let d := s.key.slot n
       let b := fun (x : Bool) => if x then 1 else 0
       let f := t.regField Reg.keySlotInfo0
       let g := t.regField Reg.keySlotInfo1
       f 31 1 = b d.key.isSome ∧ f 29 2 = d.depth % 4 ∧ f 27 2 = d.origin.code ∧ f 20 7 = s.keyRefs n d.gen % 128 ∧ f 16 4 = d.usage % 16 ∧ f 0 16 = d.gen % 65536 ∧
       g 31 1 = b d.derived ∧ g 30 1 = b (s.key.sweeping n) ∧ g 16 10 = d.parent % 1024 ∧ g 0 16 = d.parentGen % 65536) ∧
      State.Changes [] [Reg.keySlotSel, Reg.keySlotInfo0, Reg.keySlotInfo1] [] s t)

/-- A served LEV_CMD is taken, or refused as busy. SET_RTC sets the clock and logs it; LOG_READ gives a record of the ring
or NOT_FOUND. A sample keeps both temperatures on a feed, sensor B alone without one, and says of sources 1 to 4
whether their limits are broken, as TAMPER_IN_N says of source 5; a source whose condition holds counts the second
once, and every one whose seconds within its window reach COUNT fires, its count starting anew. A second's end fires
what is ripe, moves the clock on by the ticks left of the second, masks the vault afresh, shortens a hold-off, judges
the sensors' disagreement, and begins a second that TAMPER_IN_N may qualify. Sources 6, 8 and 10 begin as their
conditions say; a restored condition ends. Nothing else changes. -/
def Obligations.LeveeClockLogAndMonitors : Prop :=
  let seen := fun (v : Lev) (ns : List Nat) (n : Nat) =>
    if n ∈ ns ∧ v.holds n = true ∧ (v.filter n).now = false then ({ marks := v.second :: (v.filter n).marks, now := true } : TampFilter) else v.filter n
  let ripe := fun (v : Lev) (ns : List Nat) (n : Nat) =>
    decide ((v.setting n).count ≤ ((seen v ns n).marks.filter (fun m => decide (v.second < m + (v.setting n).window))).length)
  let firing := fun (v : Lev) (ns : List Nat) => ([1, 2, 3, 4, 5].filter (ripe v ns)).map (fun n => (n, (v.setting n).response))
  let counted := fun (v : Lev) (ns : List Nat) (t : State) =>
    ∀ n ∈ [1, 2, 3, 4, 5], t.lev.filter n = if ripe v ns n then { seen v ns n with marks := [] } else seen v ns n
  let watched := .bus :: .boot :: .key :: .lev :: .mbxPcie :: .mbxI2c :: Part.traffic
  (∀ s : State, s.allows .pf0 Reg.levCmd = true → ∀ x ∈ ([(1, .levSetRtc), (2, .levLogRead)] : List (Nat × Instr)),
    exec x.2 s = .next (if s.lev.cmd.isSome then s.setField Reg.levCmd 24 8 0x01 else { s with lev := { s.lev with cmd := some x.1 } })) ∧
  (∀ (c : Nat) (s : State), s.lev.cmd = some c →
    ∃ t, exec .levCommandDone s = .next t ∧
      (if c = 1 then
         let v := s.regN Reg.levRtcSet + s.regN (Reg.levRtcSet + 4) * 2 ^ 32
         (∃ r, t.lev = { s.lev with cmd := none, rtc := v, log := (r :: s.lev.log).take 128, nextSeq := s.lev.nextSeq + 1 } ∧
           beAt r 0 4 = s.lev.nextSeq % 2 ^ 32 ∧ beAt r 4 6 = v / 2 ^ 15 % 2 ^ 48 ∧ beAt r 12 1 = 8) ∧ t.regField Reg.levCmd 24 8 = 0
       else t.lev = { s.lev with cmd := none } ∧
         (match s.lev.log.find? (fun r => decide (beAt r 0 4 = s.regN Reg.levLogIndex % 2 ^ 32)) with
          | some r => t.regField Reg.levCmd 24 8 = 0 ∧ (∀ k < 4, t.regN (Reg.levLogData + 4 * k) = beAt r (4 * k) 4)
          | none => t.regField Reg.levCmd 24 8 = 0x49 ∧ ∀ k < 4, t.reg (Reg.levLogData + 4 * k) = s.reg (Reg.levLogData + 4 * k))) ∧
      State.Changes [.lev] (Reg.levCmd :: (List.range 4).map (fun k => Reg.levLogData + 4 * k)) [] s t) ∧
  (∀ (a b : BitVec 12) (s : State),
    ∃ t v, exec (.sensorSample a b) s = .next t ∧
      v.tempA = (if s.fed then a.toNat else s.lev.tempA) ∧ v.tempB = b.toNat ∧ v.settings = s.lev.settings ∧ v.filters = s.lev.filters ∧
      v.second = s.lev.second ∧
      (∀ n ∈ [1, 2, 3, 4], v.holds n = ((s.fed || decide (3 ≤ n)) &&
        (let raw := signed 12 (if n ≤ 2 then v.tempA else v.tempB)
         decide (raw < signed 12 (v.setting n).low ∨ signed 12 (v.setting n).high < raw)))) ∧
      t.lev.tempA = v.tempA ∧ t.lev.tempB = v.tempB ∧ t.lev.cond = v.cond ∧ t.lev.disagree = (s.lev.disagree || (s.fed &&
        decide (40 < (signed 12 a.toNat - signed 12 b.toNat).natAbs))) ∧
      counted v [1, 2, 3, 4] t ∧ State.Fires (firing v [1, 2, 3, 4]) s.lev.root s t ∧ State.Only watched s t) ∧
  (∀ s : State, ∃ t, exec .tamperInLow s = .next t ∧ t.lev.cond = (s.lev.setCond 5 true).cond ∧ counted (s.lev.setCond 5 true) [5] t ∧
      State.Fires (firing (s.lev.setCond 5 true) [5]) s.lev.root s t ∧ State.Only watched s t) ∧
  (∀ s : State, exec .tamperInRelease s = .next { s with lev := s.lev.setCond 5 false }) ∧
  (∀ s : State, ∃ t v, exec .leveeSecondEnd s = .next t ∧
      v.second = s.lev.second + 1 ∧ v.settings = s.lev.settings ∧ v.holds 5 = s.lev.holds 5 ∧
      (∀ n ∈ [1, 2, 3, 4, 5], v.filter n =
        { marks := (if ripe s.lev [] n then [] else (s.lev.filter n).marks).filter (fun m => decide (s.lev.second < m + 255)), now := false }) ∧
      t.lev.second = v.second ∧ t.lev.rtc = (s.lev.rtc + (2 ^ 15 - s.lev.ticks)) % 2 ^ 64 ∧ t.lev.ticks = 0 ∧ t.lev.holdoff = s.lev.holdoff - 1 ∧ t.lev.disagree = false ∧
      (if s.fed = true ∧ s.lev.disagree = true then
         t.lev.disagreeRun = s.lev.disagreeRun + 1 ∧ t.lev.holds 9 = (s.lev.holds 9 || decide (s.lev.disagreeRun + 1 = 3)) ∧
         (s.lev.disagreeRun + 1 = 3 → State.Raised 207 s t)
       else t.lev.disagreeRun = 0 ∧ t.lev.holds 9 = false) ∧
      counted v [5] t ∧ (∃ i, State.Fires (firing s.lev [] ++ firing v [5]) (s.lev.root.map (fun x => x.remask (beBytes 32 (Config.vaultMask i).toNat))) s t) ∧ State.Only watched s t) ∧
  (∀ s : State, ∃ t, exec .vbatLow s = .next t ∧
      (if s.fed = true ∨ s.lev.holds 6 = true then t = s else t.lev.holds 6 = true ∧ State.Fires [(6, 2)] s.lev.root s t) ∧ State.Only watched s t) ∧
  (∀ s : State, ∃ t, exec .vbatWarn s = .next t ∧
      (if s.fed = true ∧ s.lev.holds 8 = false then t.lev = (s.lev.setCond 8 true).write 1 8 false 0 ∧ State.Raised 203 s t else t = s) ∧
      State.Changes [.lev, .evt] (Reg.levTampEvent :: Reg.raiseWords) Reg.raiseCtrs s t) ∧
  (∀ s : State, exec .vbatRestored s = .next { s with lev := (s.lev.setCond 8 false).setCond 6 false }) ∧
  (∀ s : State, ∃ t, exec .xt32Fail s = .next t ∧
      (if s.lev.xt32 then t.lev = { (s.lev.setCond 10 true) with xt32 := false }.write 1 10 (!s.fed) 0 ∧ t.pwr = { s.pwr with xt32 := false } ∧ (s.fed = true → State.Raised 207 s t) else t = s) ∧
      State.Changes [.pwr, .lev, .evt] (Reg.levTampEvent :: Reg.raiseWords) Reg.raiseCtrs s t) ∧
  (∀ s : State, exec .xt32Recover s = .next { s with lev := { (s.lev.setCond 10 false) with xt32 := true }, pwr := { s.pwr with xt32 := s.fed } })

/-- A served write of a source's limits or filter that would leave LOW above HIGH, COUNT 0 or WINDOW 0 leaves the settings
as they were, with CFG_RESULT BAD_CONFIG. Any other values are accepted, whatever the other tier's limits are: they
take effect, with CFG_RESULT 0, where they tighten or the configuration window is open; a loosening write without the
window only sets CFG_RESULT to LOOSEN_DENIED (R503). A RESPONSE of 3 is taken as 2. A write of the limits of source 5,
which has none, changes nothing. The conditions of the sources 1 to 4 follow the settings in force. No other source's
settings and nothing else change. -/
def Obligations.TamperSettingsTightenOrWait : Prop :=
  ∀ (src : Fin 5) (filter : Bool) (v : Word) (s : State), s.allows .pf0 (Reg.levTampLimits + 8 * src.val + (if filter then 4 else 0)) = true →
    ∃ t, exec (.tamperSettingsWrite src filter v) s = .next t ∧
      (let n := src.val + 1
       let o := s.lev.setting n
       let x : TampSet := if filter then { o with response := min 2 (v.toNat / 2 ^ 24 % 4), count := v.toNat / 2 ^ 16 % 16, window := v.toNat % 256 }
         else { o with low := v.toNat / 2 ^ 16 % 2 ^ 12, high := v.toNat % 2 ^ 12 }
       let tightens := o.response ≤ x.response ∧ signed 12 o.low ≤ signed 12 x.low ∧ signed 12 x.high ≤ signed 12 o.high ∧ x.count ≤ o.count ∧
         o.window ≤ x.window
       if n = 5 ∧ filter = false then t = s
       else if signed 12 x.high < signed 12 x.low ∨ x.count = 0 ∨ x.window = 0 then t = { s with lev := { s.lev with cfgResult := 0x52 } }
       else if tightens ∨ s.lev.configOpen = true then
         t.lev.setting n = x ∧ t.lev.cfgResult = 0 ∧ t.lev = { s.lev with settings := t.lev.settings, cfgResult := 0, cond := t.lev.cond } ∧
         (∀ m, t.lev.holds m = if m = 1 ∨ m = 2 ∨ m = 3 ∨ m = 4 then
           (s.fed || decide (3 ≤ m)) && State.tempOut t.lev m (if m ≤ 2 then s.lev.tempA else s.lev.tempB) else s.lev.holds m)
       else t = { s with lev := { s.lev with cfgResult := 0x60 } }) ∧
      (∀ m, m ≠ src.val + 1 → t.lev.setting m = s.lev.setting m) ∧ (s.reg 0x0030100 = 0 → (t.regValue 0x0030100).toNat / 2 ^ 16 % 256 = t.lev.cfgResult % 256) ∧
      State.Only [.lev] s t

/-- A served START gives the first refusal that applies, or a challenge that begins with the clock and records its SEQ and
purpose; while a response is checked START, RESPOND and CANCEL are busy. RESPOND takes the response and clears its
registers; CANCEL voids the challenge. The check uses the challenge up: without a valid root NO_ROOT, without a
challenge NO_CHALLENGE; a response other than R507's counts a failure, with hold-off from the fourth; a condition of a
LOCK source still holding refuses an UNLOCK; a match resets the failures, is logged, and lifts the LOCK or opens the
window. Expiry and close end what they name. A served OPEN opens the port of an empty vault, else fires source 7 and
waits for its gate; a gate released opens it. -/
def Obligations.UnlockExchangeAndDebugPort : Prop :=
  (∀ (v : Word) (s : State), s.allows .pf0 Reg.levUnlCtrl = true → ∀ x ∈ ([(1, .unlStart v), (2, .unlRespond v), (3, .unlCancel v)] : List (Nat × Instr)),
    ∃ t, exec x.2 s = .next t ∧ t.regField Reg.levUnlCtrl 8 2 = v.toNat / 2 ^ 8 % 4 ∧
      (let p := v.toNat / 2 ^ 8 % 4
       let result := t.regField Reg.levUnlCtrl 24 8
       if s.lev.checking.isSome then result = 0x01 ∧ t.lev = s.lev
       else
         (x.1 = 1 → if p = 0 ∨ p = 3 then result = 0x52 ∧ t.lev = s.lev
           else if s.vaultValid = false then result = 0x5F ∧ t.lev = s.lev
           else if 0 < s.lev.holdoff then result = 0x5C ∧ t.lev = s.lev
           else if p = 1 ∧ s.lev.locked = false then result = 0x5A ∧ t.lev = s.lev
           else result = 0 ∧ ∃ c : Challenge, t.lev = { s.lev with chal := some c, chalCount := s.lev.chalCount + 1, seqLow := s.lev.nextSeq % 2 ^ 16, derivedForm := t.lev.derivedForm } ∧
             c.purpose = p ∧ c.seq = s.lev.nextSeq ∧ c.bytes.take 8 = beBytes 8 s.lev.rtc ∧
             (s.key.healthFail = true ∨ s.key.sourceRemoved = true → t.lev.derivedForm = true) ∧ (s.key.healthFail = false → s.key.sourceRemoved = false → s.key.drbg.isSome = true → t.lev.derivedForm = false) ∧
             (t.lev.derivedForm = true → c.bytes = beBytes 8 s.lev.rtc ++
               (Crypto.hmac384 (s.rootKey "TYJ UNLOCK" State.dieId 384) (beBytes 8 s.lev.rtc ++ beBytes 8 (s.lev.chalCount + 1))).take 24)) ∧
         (x.1 = 2 → t.lev = { s.lev with checking := some (s.regBytes Reg.levUnlResp 12) } ∧ t.words Reg.levUnlResp 12 = List.replicate 12 0) ∧
         (x.1 = 3 → result = 0 ∧ t.lev = { s.lev with chal := none })) ∧
      State.Changes [.freeIdx, .lev] (Reg.levUnlCtrl :: (List.range 12).map (fun k => Reg.levUnlResp + 4 * k)) [] s t) ∧
  (∀ (resp : Bytes) (s : State), s.lev.checking = some resp →
    ∃ t, exec .unlockCheckDone s = .next t ∧ t.lev.checking = none ∧ t.lev.chal = none ∧
      (let result := t.regField Reg.levUnlCtrl 24 8
       let used := { s.lev with checking := none, chal := none }
       let logged := fun (kind : Nat) => ∃ r, t.lev.log = (r :: s.lev.log).take 128 ∧ beAt r 12 1 = kind
       let small := State.Changes [.lev, .evt] (Reg.levUnlCtrl :: Reg.levTampEvent :: Reg.raiseWords) Reg.raiseCtrs s t
       if s.vaultValid = false then result = 0x5F ∧ t.lev = used ∧ small
       else match s.lev.chal with
        | none => result = 0x5B ∧ t.lev = used ∧ small
        | some c =>
          if resp ≠ Crypto.hmac384 (s.rootKey "TYJ UNLOCK" State.dieId 384)
              (c.bytes ++ beBytes 2 (s.devNumber.getD s.lev.device) ++ State.dieId ++ [BitVec.ofNat 8 c.purpose] ++ beBytes 4 c.seq) then
            result = 0x5E ∧ t.lev.fails = min 255 (s.lev.fails + 1) ∧ t.lev.holdoff = (if 4 ≤ min 255 (s.lev.fails + 1) then 60 else 0) ∧
            t.lev.locked = s.lev.locked ∧ t.lev.configOpen = s.lev.configOpen ∧ logged 6 ∧ (s.fed = true → State.Raised 206 s t) ∧ small
          else if c.purpose = 1 ∧ [1, 2, 3, 4, 5].any (fun n => s.lev.holds n && decide ((s.lev.setting n).response = 1)) = true then result = 0x5D ∧ t.lev = used ∧ small
          else result = 0 ∧ t.lev.fails = 0 ∧ t.lev.holdoff = 0 ∧ logged 5 ∧ (s.fed = true → State.Raised 206 s t) ∧
            (if c.purpose = 1 then t.lev.locked = false ∧ t.stands 204 = false ∧ t.stw.halted = s.evt.c4.isSome ∧
               (s.running = false → s.boot.halted = true → s.boot.code = 0x89 → t.boot.halted = false ∧ t.boot.code = s.boot.code ∧
                 (s.boot.state ≠ .powerOk → t.boot.state = .leveeCheck)) ∧
               (s.running = true → t.boot = s.boot ∧ t.key = s.key ∧ t.frames = s.frames)
             else t.lev.configOpen = true ∧ t.lev.locked = s.lev.locked ∧ small)) ∧
      State.Only (.boot :: .run :: .portPolicy :: .channelPolicy :: .cls :: .lkp :: .key :: .lev :: Part.traffic) s t) ∧
  (∀ s : State, exec .challengeExpiry s = .next (if s.lev.checking.isSome then s else { s with lev := { s.lev with chal := none } })) ∧
  (∀ s : State, exec .configWindowClose s = .next { s with lev := { s.lev with configOpen := false } }) ∧
  (∀ s : State, exec .jtagReset s = .next { s with dbg := { s.dbg with ir := 0x01, dr := .idcode jtagId } } ∧
    exec .jtagIdcode s = .next { s with dbg := { s.dbg with ir := 0x01, dr := .idcode jtagId } } ∧
    (∀ code, code ≠ 0x01 → code ≠ 0xA5 → exec (.jtagBypass code) s = .next { s with dbg := { s.dbg with ir := code, dr := .bypass false } }) ∧
    exec (.jtagBypass 0x01) s = .next s ∧ exec (.jtagBypass 0xA5) s = .next s ∧ jtagId.toNat % 2 ^ 28 = 0x6432 * 2 ^ 12 + 0x7A3 * 2 + 1) ∧
  (∀ (trst : Bool) (s : State), ∃ t, exec (.jtagOpen trst) s = .next t ∧
      (if trst = true ∧ s.fed = true then
         t.dbg.ir = 0xA5 ∧ t.dbg.dr = .bypass false ∧
         (if s.dbg.open_ = true ∨ s.dbg.gate = true then t = { s with dbg := { s.dbg with ir := 0xA5, dr := .bypass false } }
          else if s.lev.root = none then t.dbg.open_ = true ∧ t.dbg.gate = false ∧ t.lev = (s.lev.setCond 7 true).write 7 0 false 0 ∧ State.Only [.lev, .dbg] s t
          else t.dbg.gate = true ∧ t.dbg.open_ = false ∧ t.lev.holds 7 = true ∧ State.Fires [(7, 2)] s.lev.root s t)
       else t = s) ∧ State.Only (.bus :: .boot :: .key :: .lev :: .mbxPcie :: .mbxI2c :: .dbg :: Part.traffic) s t) ∧
  (∀ s : State, exec .debugGateRelease s = .next
    (if s.dbg.gate then { s with dbg := { s.dbg with gate := false, open_ := true }, lev := s.lev.write 7 0 (!s.fed) 0 } else s))

/-- A scrub of a line of region 9, never accessed, stops by name; one while the stack is not active does nothing. Else the
scrubber moves on, counting a pass at the last line of region 8. A single-bit error is captured, counted and raised as
event 216, a write-back that collides being counted as skipped. An uncorrectable line is captured, counted and raised
as event 217; then, by region: each far channel with bytes in it becomes faulty; each frame in the reorder buffers
with bytes in it is gone, and counted; each sample record of the ring's extension in it is discarded. A stack that may
sleep enters self-refresh; a waking one becomes active; above 85 degrees it is hot until at or below it; a
pseudo-channel that fails leaves the stack FAILED with a C4 raise. Nothing else changes. Whether the steward's caches
hold its working set is the sender's to say (log entry 1), and which lines hold a frame is free (log entry 2). -/
def Obligations.HbmStack : Prop :=
  let set := fun (b : Nat) (t : State) => t.regField Reg.hbmEvent b 1 = 1
  let one := fun (o : Nat) (s t : State) => t.counter (Reg.hbmCtr + o) = s.counter (Reg.hbmCtr + o) + 1
  let errs := [Reg.hbmErr, Reg.hbmErrLo, Reg.hbmErrHi, Reg.hbmEvent] ++ Reg.pmuWords
  let captured := fun (kind addr : Nat) (s t : State) => s.regField Reg.hbmErr 31 1 = 0 →
    t.regField Reg.hbmErr 28 2 = kind ∧ t.regField Reg.hbmErr 24 4 = Hbm.regionOf addr ∧ t.regN Reg.hbmErrLo = addr % 2 ^ 32 ∧ t.regN Reg.hbmErrHi = addr / 2 ^ 32
  (∀ (line : Nat) (err : ScrubErr) (collide : Bool) (s : State), 0x2A40000 ≤ line → exec (.hbmScrubLine line err collide) s = .fault (.hbmReserved (256 * line))) ∧
  (∀ (line : Nat) (err : ScrubErr) (collide : Bool) (s : State), line < 0x2A40000 → s.hbm.st ≠ .active → exec (.hbmScrubLine line err collide) s = .next s) ∧
  (∀ (line : Nat) (err : ScrubErr) (collide : Bool) (s : State), line < 0x2A40000 → s.hbm.st = .active →
    ∃ t, exec (.hbmScrubLine line err collide) s = .next t ∧
      (let addr := 256 * line
       let r := Hbm.regionOf addr
       let last := line = 0x2A3FFFF
       t.hbm.scrubPos = (if last then 0 else line + 1) ∧ (last → one 0x18 s t) ∧
       (match err with
        | .none => State.Changes [.hbm, .evt, .pmu] Reg.pmuWords ((Reg.hbmCtr + 0x18) :: Reg.pmuCtrs) s t
        | .single => captured 0 addr s t ∧ one 0 s t ∧ set 0 t ∧ State.Raised 216 s t ∧ (collide = true → one 0x20 s t) ∧
            State.Changes [.hbm, .evt, .pmu] errs (Reg.hbmCtr :: (Reg.hbmCtr + 0x18) :: (Reg.hbmCtr + 0x20) :: Reg.pmuCtrs) s t
        | .double => captured 1 addr s t ∧ one 0x08 s t ∧ set 1 t ∧ State.Raised 217 s t ∧
            (r = 1 ∨ r = 2 → ∀ i, (t.chIndex true i).body =
              if i ∈ State.farIn addr then (s.chIndex true i).body.map (fun (c : ChRec) => { c with faulty := true }) else (s.chIndex true i).body) ∧
            (r = 7 → (∀ e ∈ s.reordered line, State.Left e.1 t) ∧ (∀ i, (s.reordered line).all (fun e => decide (e.1 ≠ i)) = true → t.frame i = s.frame i) ∧
              ((s.frames.map Prod.fst).Nodup → t.counter (Reg.hbmCtr + 0x30) = s.counter (Reg.hbmCtr + 0x30) + BitVec.ofNat 64 (s.reordered line).length)) ∧
            (r = 8 → t.pmu.ext.all (fun e => decide (e.1 % 2 ^ s.regField Reg.pmuRingCtrl 24 5 / 8 ≠ (addr - 0x284000000) / 256)) = true) ∧
            (r ≠ 1 → r ≠ 2 → t.chn = s.chn) ∧ (r ≠ 7 → t.frames = s.frames ∧ t.engines = s.engines ∧ t.tim = s.tim) ∧
            State.Only [.regs, .ctr, .frames, .engines, .chn, .tim, .hbm, .evt, .pmu] s t))) ∧
  (∀ (cached : Bool) (s : State), ∃ t, exec (.hbmSelfRefreshEntry cached) s = .next t ∧
      (if s.maySleep cached then t.hbm = { s.hbm with st := .selfRefresh, entered := true } ∧ one 0x28 s t ∧ set 3 t ∧ State.Raised 219 s t else t = s) ∧
      State.Changes [.hbm, .evt] (Reg.hbmEvent :: Reg.raiseWords) ((Reg.hbmCtr + 0x28) :: Reg.raiseCtrs) s t) ∧
  (∀ s : State, ∃ t, exec .hbmWakeDone s = .next t ∧
      (if s.hbm.st = .waking then t.hbm = { s.hbm with st := .active, entered := false } ∧ set 3 t ∧ State.Raised 219 s t else t = s) ∧
      State.Changes [.hbm, .evt] (Reg.hbmEvent :: Reg.raiseWords) Reg.raiseCtrs s t) ∧
  (∀ (temp : Nat) (s : State), ∃ t, exec (.stackHot temp) s = .next t ∧
      (if 85 < temp ∧ s.hbm.hot = false then t.hbm = { s.hbm with hot := true, temp := min 255 temp } ∧ set 4 t ∧ State.Raised 220 s t else t = s) ∧
      State.Changes [.hbm, .evt] (Reg.hbmEvent :: Reg.raiseWords) Reg.raiseCtrs s t) ∧
  (∀ (temp : Nat) (s : State), exec (.stackHotEnd temp) s =
    .next (if temp ≤ 85 ∧ s.hbm.hot = true then { s with hbm := { s.hbm with hot := false, temp := temp } } else s)) ∧
  (∀ (p : Fin 16) (s : State), ∃ t, exec (.pcFailed p) s = .next t ∧
      (if s.hbm.pcOk.testBit p.val = true ∧ (s.hbm.st = .active ∨ s.hbm.st = .selfRefresh ∨ s.hbm.st = .waking) then
         t.hbm.st = .failed ∧ (∀ k, t.hbm.pcOk.testBit k = (s.hbm.pcOk.testBit k && decide (k ≠ p.val))) ∧ set 5 t ∧ State.Raised 221 s t ∧
         (s.running = true → t.evt.c4 = some (s.evt.c4.getD 221)) ∧
         (s.running = true → s.evt.c4 = none → t.stw.halted = true ∧ ∀ i, State.Left i t) ∧
         (s.running = false ∨ s.evt.c4.isSome = true → State.Changes [.hbm, .evt] (Reg.hbmEvent :: Reg.raiseWords) Reg.raiseCtrs s t)
       else t = s) ∧ State.Only Part.traffic s t)

/-- A message in the pending bit array goes out once its masks are clear. A served acknowledgement ends a source's
standing, but that of source 204 under its LOCK. A served pop gives the oldest entry by its fields, or zeros, and
takes it. A standing C2 source whose timer ends, no C4 fault being latched, is raised again at C3 with ESCALATED and
stands at C3: what R561 names by its source is removed, disabled or restarted, and otherwise nothing but the events
changes. The burgee's lease is renewed, lapses, or is handed over to a warden in service; its loss begins a guard,
whose end gives it to the other warden if in service. A warden that fails or stays silent is removed with event 232,
and WARDENS_LOST raised at C4 where neither is in service, or none takes the burgee in time; one that passes reports,
and a returning one is in service. Nothing else changes. -/
def Obligations.EventsAndWardens : Prop :=
  let small := fun (rs cs : List Nat) (s t : State) => State.Changes [.wrd, .evt] (rs ++ Reg.raiseWords) (cs ++ Reg.raiseCtrs) s t
  let set := fun (b : Nat) (t : State) => t.regField Reg.wrdEvent b 1 = 1
  let dropped := fun (d : Wrd) (w : Warden) => ({ d with holder := none, lastHolder := some w, guard := true, noTake := none } : Wrd)
  let moved := fun (d : Wrd) (w : Warden) (v : WardenState) => (match w with | .a => { d with stateA := v } | .b => { d with stateB := v } : Wrd)
  let wardensLost := fun (s t : State) => set 4 t ∧ State.Raised 233 s t ∧ (s.running = true → t.evt.c4 = some (s.evt.c4.getD 233))
  let lost := fun (w : Warden) (s t : State) =>
    (if s.warden w = .removed then t = s
     else t.wrd = moved (if s.wrd.holder = some w then dropped s.wrd w else s.wrd) w .removed ∧ set 1 t ∧ State.Raised 232 s t ∧
       (if s.warden (State.otherWarden w) ≠ .inService then wardensLost s t else small [] [] s t)) ∧
    State.Only (.wrd :: Part.traffic) s t
  (∀ (n : Fin 256) (s : State), ∃ t, exec (.msixSend n) s = .next t ∧
      (if s.msixOn = true ∧ s.msixMasked n.val = false ∧ s.evt.pba.getLsbD n.val = true then
         (∀ k, t.evt.pba.getLsbD k = (s.evt.pba.getLsbD k && decide (k ≠ n.val))) ∧ t = { s with evt := { s.evt with pba := t.evt.pba, sent := n.val :: s.evt.sent } }
       else t = s)) ∧
  (∀ (src : Fin 256) (s : State), s.allows .pf0 Reg.evtAck = true →
    ∃ t, exec (.evtAck src) s = .next t ∧ t = { s with evt := { s.evt with standing := t.evt.standing } } ∧
      ∀ k, Tab.find t.evt.standing k = if k = src.val ∧ ¬ (k = 204 ∧ s.lev.locked = true) then none else Tab.find s.evt.standing k) ∧
  (∀ s : State, s.allows .pf0 Reg.evtHistPop = true →
    ∃ t, exec .evtHistPop s = .next t ∧ t.evt = { s.evt with hist := s.evt.hist.drop 1 } ∧
      (let f := fun (k lo n : Nat) => t.regField (Reg.evtHistData + 4 * k) lo n
       match s.evt.hist with
       | [] => t.words Reg.evtHistData 4 = List.replicate 4 0
       | e :: _ => t.regN Reg.evtHistData = e.seq % 2 ^ 32 ∧ f 1 0 8 = e.source % 256 ∧ f 1 8 8 = e.cause % 256 ∧ f 1 16 3 = e.cls % 8 ∧
           f 1 19 1 = b2n e.escalated ∧ f 1 20 1 = b2n e.held ∧ f 1 21 1 = b2n e.overflow ∧ f 1 22 2 = 0 ∧ f 1 24 8 = e.repeats % 256 ∧
           f 2 0 32 = e.time % 2 ^ 32 ∧ f 3 0 32 = e.time / 2 ^ 32 % 2 ^ 32) ∧
      State.Changes [.evt] ((List.range 4).map (fun k => Reg.evtHistData + 4 * k)) [] s t) ∧
  (∀ (src : Fin 256) (s : State), ∃ t, exec (.escalation src) s = .next t ∧
      (match Tab.find s.evt.standing src.val with
       | none => t = s
       | some st =>
         if st.cls = 2 ∧ st.timer.isSome = true ∧ s.evt.c4 = none then
           let n := src.val
           let lane := if n < 64 then n else n - 170
           let isLane := (32 ≤ n ∧ n < 64 ∧ st.cause = 5) ∨ ((n = 234 ∨ n = 235) ∧ st.unit = 1)
           let isPort := 80 ≤ n ∧ n < 96 ∧ (st.cause = 3 ∨ st.cause = 6)
           let isCirc := 80 ≤ n ∧ n < 96 ∧ st.cause = 9
           (n ≠ 227 → t.counter (Reg.wrdCtr + 0x10) = s.counter (Reg.wrdCtr + 0x10) + 1 ∧ t.evt.pending.getLsbD n = true ∧
             (∃ y, Tab.find t.evt.standing n = some y ∧ y.cls = 3 ∧ y.timer = none) ∧
             (s.evt.hist.length < 16 → ∃ e ∈ t.evt.hist, e.source = n ∧ e.cls = 3 ∧ e.cause = st.cause ∧ e.escalated = true) ∧
             State.Only (.poolFree :: .key :: Part.traffic) s t) ∧
           (isLane → (t.lane lane).stage = .removed ∧
             ∀ p, lane < 64 → s.pairOf (State.laneIdx lane) = some p → (s.lane lane).stage ≠ .removed → (t.port true p).removed = true) ∧
           (isPort → (t.port true st.unit).removed = true ∧ ∀ i f, s.frame i = some f → f.pair = st.unit → State.Left i t) ∧
           (isCirc → t.regField (Reg.circuit st.unit) 31 1 = 0) ∧
           (n = 195 → t.key.sourceRemoved = true) ∧ (n = 217 ∨ n = 249 → t.stw.restarting = true) ∧
           (n = 227 → (t.feed (if st.unit = 0 then .a else .b)).cut = true ∧ t.pending = s.pending ∧ t.flash = s.flash ∧ t.lev.minSv = s.lev.minSv) ∧
           (n = 237 → (t.lane 64).stage = .removed ∧ (t.lane 65).stage = .removed ∧ t.regField Reg.wrdPairCfg 31 1 = 0 ∧ t.pp.role = .solo ∧
             t.pp.burgee = false ∧ t.pp.outputs = true) ∧
           (¬ (isLane ∨ isPort ∨ isCirc ∨ n = 195 ∨ n = 217 ∨ n = 227 ∨ n = 237 ∨ n = 249) →
             State.Changes [.evt] Reg.raiseWords ((Reg.wrdCtr + 0x10) :: Reg.raiseCtrs) s t)
         else t = s)) ∧
  (∀ s : State, exec .burgeeRenew s = .next (if s.wrd.holder = none then s else { s with wrd := { s.wrd with leaseFrom := s.now } })) ∧
  (∀ s : State, ∃ t, exec .wardenLeaseLapse s = .next t ∧ (match s.wrd.holder with | none => t = s | some w => lost w s t)) ∧
  (∀ s : State, ∃ t, exec .burgeeGuardEnd s = .next t ∧
      (if s.wrd.guard = false then t = s
       else match s.nonHolder with
        | none => t = { s with wrd := { s.wrd with guard := false } }
        | some w =>
          if s.warden w = .inService then
            t.wrd = { s.wrd with guard := false, holder := some w, leaseFrom := s.now, lastReport := s.now } ∧
            t.counter (Reg.wrdCtr + 0x18) = s.counter (Reg.wrdCtr + 0x18) + 1 ∧ set 0 t ∧ State.Raised 232 s t ∧
            (∀ p, (t.pair p).out48 = (({ s with wrd := t.wrd } : State).fit48.pair p).out48) ∧ State.Only [.regs, .ctr, .pairs, .polders, .engines, .cph, .wrd, .evt] s t
          else t = { s with wrd := { s.wrd with guard := false, noTake := some s.now } })) ∧
  (∀ (w : Warden) (ok : Bool) (s : State), ∃ t, exec (.wardenSelfCheck w ok) s = .next t ∧
      (if s.clockOn = false ∨ s.warden w = .removed then t = s
       else if ok = false then lost w s t
       else
         let d := if s.wrd.holder = some w then s.wrd else { s.wrd with lastReport := s.now }
         if s.warden w = .returning then t.wrd = moved d w .inService ∧ set 2 t ∧ State.Raised 232 s t ∧ small [] [] s t else t = { s with wrd := d })) ∧
  (∀ s : State, ∃ t, exec .wardenReportMissing s = .next t ∧
      (match s.nonHolder with
       | none => t = s
       | some w => if s.warden w = .inService then lost w s t else t = s)) ∧
  (∀ s : State, s.allows .pf0 Reg.wrdControl = true →
    exec .handover s = .next (match s.wrd.holder with
      | none => s
      | some w => if s.warden (State.otherWarden w) = .inService then { s with wrd := dropped s.wrd w } else s)) ∧
  (∀ s : State, ∃ t, exec .wardensLostTimeout s = .next t ∧
      (if s.wrd.noTake.isSome = true ∧ s.wrd.holder = none then
         t.wrd = { s.wrd with noTake := none } ∧ wardensLost s t ∧ State.Only (.wrd :: Part.traffic) s t
       else t = s))

/-- A CONTROL frame sent goes out on every PAIR lane that sends; one is received only in SYNC, by its payload or as the
framer passed it on. One with another LENGTH is counted in DROP_TYPE; one of another FORMAT or KIND does nothing; a
HEALTH or CLAIM of another device is counted. Any other is heard: a STARTING module becomes STANDBY beside an ACTIVE
partner, or ACTIVE where its own number is the lower. HEALTH is kept, raises PARTNER_UNFIT, and may begin a yield;
RENEW ends a guard; YIELD is answered with CLAIM by an ACTIVE module or by an eligible STANDBY, which becomes ACTIVE;
CLAIM ends a yield with STOPPED; STOPPED enables the outputs. The timers do what R577, R579 and R580 say; SWITCH
begins a yield of an ACTIVE module. A served write of WRD_PAIR_CFG starts or ends pair protection, and keeps PARTNER
while it runs; one of WRD_FLEET with SET writes the number to the levee where the configuration window is open. A role
change raises event 236. Nothing else changes. -/
def Obligations.PairProtection : Prop :=
  let set := fun (b : Nat) (t : State) => t.regField Reg.wrdEvent b 1 = 1
  let sent := fun (kind : Nat) (fatal : Bool) (s t : State) => ∃ b, t.pp.sent = b :: s.pp.sent ∧ t.pp.seq = (s.pp.seq + 1) % 2 ^ 32 ∧
    (8 ≤ s.imageDigest.length → 8 ≤ s.key.digest.length → b.length = 48) ∧ beAt b 0 2 = 1 ∧ beAt b 2 2 = s.myDevice % 65536 ∧ beAt b 4 1 = kind ∧
    (beAt b 6 2).testBit 5 = (fatal || decide (s.pp.role = .failed)) ∧ beAt b 8 4 = s.pp.seq % 2 ^ 32 ∧
    (∀ n, (n = 32 ∨ n = 33) ∧ s.laneSends (n + 32) = true →
      (t.portOut true n).sent.head?.map (fun o => o.bytes) = some (CipherFn.coreHeader 48 4 0 2 ++ b ++ zeros 2)) ∧
    (∀ n, ¬ ((n = 32 ∨ n = 33) ∧ s.laneSends (n + 32) = true) → t.portOut true n = s.portOut true n)
  let sentOnly := fun (p : Pp) (s t : State) => t = { s with pp := { p with sent := t.pp.sent, seq := t.pp.seq }, lineOut := t.lineOut }
  let only := fun (ps : List Part) => State.Changes (.pp :: .evt :: ps) (Reg.wrdEvent :: Reg.wrdPairCmd :: Reg.raiseWords) ((Reg.wrdCtr + 0x20) :: Reg.raiseCtrs)
  let turned := fun (ps : List Part) (cls : Nat) (s t : State) => (s.pp.role ≠ t.pp.role → set 7 t ∧ State.Raised 236 s t ∧
    (cls = 1 → t.counter (Reg.wrdCtr + 0x20) = s.counter (Reg.wrdCtr + 0x20) + 1)) ∧ (s.pp.role = t.pp.role → t = { s with pp := t.pp, lineOut := t.lineOut }) ∧ only ps s t
  let still := fun (p : Pp) (r : Role) (burgee outputs : Bool) =>
    ({ p with role := r, burgee := burgee, outputs := outputs, guard := false, yielding := false, bySwitch := false } : Pp)
  let heard := fun (b : Bytes) (s u : State) =>
    let p := { s.pp with fresh := true, peerRole := beAt b 5 1 }
    let q := { p with lost := false }
    if s.pairOn = false then u = { s with pp := p }
    else if s.pp.role = .starting ∧ beAt b 5 1 = 1 then u.pp = still q .standby false false ∧ turned [] 0 s u
    else if s.pp.role = .starting ∧ (beAt b 5 1 = 4 ∨ beAt b 5 1 = 2) ∧ s.myDevice < beAt b 2 2 then u.pp = still q .active true true ∧ turned [] 0 s u
    else u = { s with pp := q }
  let rx := fun (x : Instr) (kind : Nat) (lane : Fin 2) (given : Bytes) (s : State) (effect : Bytes → State → State → Prop) => ∃ t, exec x s = .next t ∧
    (let taken := fun (b : Bytes) (v : State) =>
       let tally := fun (a : Nat) => t.counter a = v.counter a + 1 ∧ State.Changes [] [] [a] v t
       if b.length ≠ 48 then tally (Reg.framer (32 + lane.val) + 0x70)
       else if beAt b 0 2 ≠ 1 ∨ beAt b 4 1 ≠ kind then t = v
       else if (kind = 0 ∨ kind = 3) ∧ beAt b 2 2 ≠ v.regField Reg.wrdPairCfg 0 16 then tally (Reg.wrdCtr + 0x40)
       else ∃ u, heard b v u ∧ effect b u t
     if given ≠ [] then (if (s.framer (32 + lane.val)).sync ≠ .sync then t = s else taken given s)
     else match s.takePassed (32 + lane.val) [4] with
       | none => t = s
       | some r =>
         let b := slice r.1.2.2 6 (Ndoath.len r.1.2.2)
         if b.length = 48 ∧ beAt b 0 2 = 1 ∧ beAt b 4 1 ≠ kind ∧ beAt b 4 1 ≤ 4 then t = s else taken b r.2)
  (∀ (lane : Fin 2) (b : Bytes) (s : State), rx (.healthRx lane b) 0 lane b s (fun b u t =>
    let flags := beAt b 6 2
    t.pp.peer = some { device := beAt b 2 2, role := beAt b 5 1, flags := flags, imageTag := beAt b 12 8, configTag := beAt b 20 8, rate := beAt b 28 2 } ∧
    t.counter (Reg.wrdCtr + 0x38) = u.counter (Reg.wrdCtr + 0x38) + 1 ∧
    (u.pairOn = true → beAt b 12 8 ≠ beNat (u.imageDigest.take 8) ∨ flags.testBit 1 = false → set 9 t ∧ State.Raised 237 u t) ∧
    (if u.pairOn = true ∧ u.pp.role = .active ∧ u.pp.yielding = false ∧ ((beAt b 5 1 = 1 ∧ beAt b 2 2 < u.myDevice) ∨ u.rate < beAt b 28 2) then
       sent 2 false u t ∧ t.pp = { u.pp with peer := t.pp.peer, sent := t.pp.sent, seq := t.pp.seq, yielding := true, bySwitch := false }
     else t.pp = { u.pp with peer := t.pp.peer } ∧ t.lineOut = u.lineOut) ∧
    State.Changes [.pp, .evt, .lineOut] (Reg.wrdEvent :: Reg.raiseWords) ((Reg.wrdCtr + 0x38) :: Reg.raiseCtrs) u t)) ∧
  (∀ (lane : Fin 2) (b : Bytes) (s : State), rx (.renewRx lane b) 1 lane b s (fun _ u t => t = { u with pp := { u.pp with guard := false } })) ∧
  (∀ (lane : Fin 2) (b : Bytes) (s : State), rx (.yieldRx lane b) 2 lane b s (fun b u t =>
    let fatal := (beAt b 6 2).testBit 5
    let told := fun (p : Pp) => sent 3 false { u with pp := p } t ∧ t.pp = { p with sent := t.pp.sent, seq := t.pp.seq, outputs := t.pp.outputs }
    if u.pp.role = .active then told u.pp ∧ t.pp.outputs = (u.pp.outputs || fatal) ∧ t = { u with pp := t.pp, lineOut := t.lineOut }
    else if u.pp.role = .standby ∧ u.running = true ∧ u.lev.locked = false ∧ u.evt.c4 = none ∧
        u.pp.peer.map (fun h => h.imageTag) = some (beNat (u.imageDigest.take 8)) then
      told (still u.pp .active true fatal) ∧ t.pp.outputs = fatal ∧ turned [.lineOut] 1 u t
    else t = u)) ∧
  (∀ (lane : Fin 2) (b : Bytes) (s : State), rx (.claimRx lane b) 3 lane b s (fun _ u t =>
    if u.pp.role = .active ∧ u.pp.yielding = true then
      sent 4 false u t ∧ t.pp = { still u.pp .standby false false with sent := t.pp.sent, seq := t.pp.seq } ∧ turned [.lineOut] 1 u t ∧
      t.regField Reg.wrdPairCmd 24 8 = (if u.pp.bySwitch then 0 else u.regField Reg.wrdPairCmd 24 8)
    else t = u)) ∧
  (∀ (lane : Fin 2) (b : Bytes) (s : State), rx (.stoppedRx lane b) 4 lane b s (fun _ u t =>
    t = if u.pp.role = .active then { u with pp := { u.pp with outputs := true } } else u)) ∧
  (∀ s : State, ∃ t, exec .healthSend s = .next t ∧
      (if s.pp.role = .solo then t = s else sent 0 false s t ∧ sentOnly s.pp s t)) ∧
  (∀ s : State, ∃ t, exec .renewSend s = .next t ∧
      (if s.pp.role = .active ∧ s.pp.burgee = true then sent 1 false s t ∧ sentOnly s.pp s t else t = s)) ∧
  (∀ s : State, exec .moduleLeaseLapse s = .next (if s.pp.role = .standby then { s with pp := { s.pp with guard := true } } else s)) ∧
  (∀ s : State, ∃ t, exec .moduleGuardEnd s = .next t ∧
      (if s.pp.guard = false ∨ s.pp.role ≠ .standby then t = s
       else if s.eligible then t.pp = still s.pp .active true true ∧ turned [] 1 s t
       else t = { s with pp := { s.pp with guard := false } })) ∧
  (∀ s : State, ∃ t, exec .partnerLostTimeout s = .next t ∧
      (if (s.pp.role = .standby ∨ s.pp.role = .active) ∧ s.pp.lost = false then
         t.pp = { s.pp with fresh := false, lost := true } ∧ set 8 t ∧ State.Raised 237 s t ∧ only [] s t
       else t = { s with pp := { s.pp with fresh := false } })) ∧
  (∀ s : State, ∃ t, exec .startingTimeout s = .next t ∧
      (if s.pp.role = .starting ∧ s.pp.fresh = false then t.pp = still s.pp .active true true ∧ turned [] 0 s t else t = s)) ∧
  (∀ s : State, ∃ t, exec .claimTimeout s = .next t ∧
      (if s.pp.yielding then
         t.pp = { s.pp with yielding := false, bySwitch := false } ∧
         t.regField Reg.wrdPairCmd 24 8 = (if s.pp.bySwitch then 0x62 else s.regField Reg.wrdPairCmd 24 8) ∧ State.Changes [.pp] [Reg.wrdPairCmd] [] s t
       else t = s)) ∧
  (∀ s : State, ∃ t, exec .yieldResend s = .next t ∧
      (if s.pp.role = .active ∧ s.pp.yielding = false ∧ s.pp.peerRole = 1 ∧ (s.pp.peer.map (fun h => h.device)).getD 65536 < s.myDevice then
         sent 2 false s t ∧ sentOnly { s.pp with yielding := true, bySwitch := false } s t
       else t = s)) ∧
  (∀ s : State, s.allows .pf0 Reg.wrdPairCmd = true →
    ∃ t, exec .pairSwitch s = .next t ∧ t.regField Reg.wrdPairCmd 24 8 = (if s.pp.role ≠ .active then 0x63 else 0x01) ∧
      (if s.pp.role = .active ∧ s.pp.yielding = false then
         sent 2 false s t ∧ t.pp = { s.pp with sent := t.pp.sent, seq := t.pp.seq, yielding := true, bySwitch := true }
       else t.pp = s.pp ∧ t.lineOut = s.lineOut) ∧ State.Changes [.pp, .lineOut] [Reg.wrdPairCmd] [] s t) ∧
  (∀ (r : Req) (v : Word) (s : State), s.allows r Reg.wrdPairCfg = true →
    ∃ t, exec (.pairEnableWrite r v) s = .next t ∧ t.regField Reg.wrdPairCfg 31 1 = v.toNat / 2 ^ 31 ∧
      (if s.pairOn then t.regField Reg.wrdPairCfg 0 16 = s.regField Reg.wrdPairCfg 0 16 ∧
         (v.toNat % 65536 ≠ s.regField Reg.wrdPairCfg 0 16 → State.Raised 250 s t)
       else t.regField Reg.wrdPairCfg 0 16 = v.toNat % 65536) ∧
      (if s.pairOn = false ∧ v.getLsbD 31 = true then
         t.pp = { s.pp with role := .starting, outputs := false, fresh := false, lost := false, peer := none, peerRole := 0 }
       else if s.pairOn = true ∧ v.getLsbD 31 = false then t.pp = { still s.pp .solo false true with byLock := false, lost := false }
       else t.pp = s.pp) ∧
      (s.pp.role ≠ t.pp.role → set 7 t ∧ State.Raised 236 s t) ∧
      State.Changes [.pp, .evt] (Reg.wrdPairCfg :: Reg.wrdEvent :: Reg.idnStopRefused :: Reg.idnEvent :: Reg.raiseWords) Reg.raiseCtrs s t) ∧
  (∀ (v : Word) (s : State), s.allows .pf0 Reg.wrdFleet = true →
    ∃ t, exec (.fleetSet v) s = .next t ∧ t.regField Reg.wrdFleet 0 16 = v.toNat % 65536 ∧
      (let result := t.regField Reg.wrdFleet 24 8
       if v.getLsbD 16 = false then t.lev = s.lev ∧ result = s.regField Reg.wrdFleet 24 8 ∧ t.evt = s.evt
       else if s.lev.configOpen = false then t.lev = s.lev ∧ result = 0x60 ∧ t.evt = s.evt
       else if v.toNat % 65536 = 0xFFFF then t.lev = s.lev ∧ result = 0x52 ∧ t.evt = s.evt
       else result = 0 ∧ set 10 t ∧ State.Raised 238 s t ∧
         ∃ r, t.lev = { s.lev with device := v.toNat % 65536, log := (r :: s.lev.log).take 128, nextSeq := s.lev.nextSeq + 1 } ∧ beAt r 12 1 = 11) ∧
      t.devNumber = s.devNumber ∧ State.Changes [.lev, .evt] (Reg.wrdFleet :: Reg.wrdEvent :: Reg.raiseWords) Reg.raiseCtrs s t)

/-- A unit at its safe point puts all its released shadows in force, and only those; no register reads otherwise for it; a
performance counter whose selection changes is cleared, and a profile that changes calls for a new digest. A served
APPLY, and a HOLD that ends, release every waiting shadow: a STOPPED framer's are in force at once, and every unit in
service is pending until its safe point. A request/acknowledge crossing that times out sets ACC_ERR and is captured
and raised as event 251, a read answering 0xFFFF_FFFF; another crossing has no timeout. A resync of a pointer crossing
drops and counts the frames with bytes in it, ends an output through a line lane, and counts in IDN_RESYNC; another
crossing has none. No other frame and nothing else changes. -/
def Obligations.LiveChange : Prop :=
  let released := fun (s t : State) =>
    let put := fun (e : ShEntry) => (List.range 34).any (fun n => decide ((s.framer n).sync = .stopped ∧ State.shUnit e.addr = some (.trunk n)))
    t.live.waiting = (s.live.waiting.filter (fun e => !put e)).map (fun e => { e with released := true }) ∧ t.live.pendingUnits = State.allUnits.filter s.unitServes ∧
    ∀ a, t.inForce a = if s.live.waiting.any (fun e => decide (e.addr = a) && put e) then s.regN a else s.inForce a
  (∀ (u : ShUnit) (s : State), ∃ t, exec (.safePointApply u) s = .next t ∧
      (let mine := fun (e : ShEntry) => e.released && decide (State.shUnit e.addr = some u)
       let goes := fun (a : Nat) => s.live.waiting.any (fun e => decide (e.addr = a) && mine e)
       (∀ a, t.inForce a = if goes a then s.regN a else s.inForce a) ∧
       t.live = { waiting := s.live.waiting.filter (fun e => !mine e), pendingUnits := s.live.pendingUnits.filter (fun v => decide (v ≠ u)) } ∧
       (∀ c < 512, let cleared := (List.range 4).any (fun k => goes (Reg.pmuCntCfg + 4 * c + k) && decide (s.inForce (Reg.pmuCntCfg + 4 * c + k) ≠ s.regN (Reg.pmuCntCfg + 4 * c + k)))
         Tab.get (fun _ => 0) t.pmu.counters c = if cleared then 0 else Tab.get (fun _ => 0) s.pmu.counters c) ∧
       t.pmu = { s.pmu with counters := t.pmu.counters } ∧
       t.key = { s.key with digestPending := s.key.digestPending || s.live.waiting.any (fun e => mine e && decide (Reg.chnProfile ≤ e.addr ∧ e.addr < Reg.chnPolicy)) }) ∧
      State.Only [.inforce, .live, .key, .pmu] s t) ∧
  (∀ s : State, s.allows .pf0 Reg.idnApply = true →
    ∃ t, exec .idnApply s = .next t ∧ released s t ∧ State.Changes [.inforce, .live] [] [] s t) ∧
  (∀ (hold : Bool) (s : State), s.allows .pf0 Reg.idnApply = true →
    ∃ t, exec (.holdWrite hold) s = .next t ∧ t.hold = hold ∧
      (if s.hold = true ∧ hold = false then released s t ∧ State.Changes [.inforce, .live] [Reg.idnApply] [] s t else State.Changes [] [Reg.idnApply] [] s t)) ∧
  (∀ (x : Fin 14) (inst : Fin 256) (write : Bool) (r : Req) (s : State),
    ∃ t, exec (.crossingTimeout x inst write r) s = .next t ∧
      (if 1 ≤ x.val ∧ x.val ≤ 7 then
         t.bus = (if write then s.bus else { s.bus with rdata := 0xFFFFFFFF }) ∧ t.regField Reg.idnStatus 31 1 = 1 ∧
         (s.regField Reg.idnStatus 31 1 = 0 → State.Raised 252 s t) ∧ t.regField Reg.idnEvent 3 1 = 1 ∧ State.Raised 251 s t ∧
         t.regField Reg.idnXingErr 31 1 = 1 ∧
         (s.regField Reg.idnXingErr 31 1 = 0 → t.regField Reg.idnXingErr 29 1 = b2n write ∧ t.regField Reg.idnXingErr 8 8 = inst.val ∧ t.regField Reg.idnXingErr 0 4 = x.val) ∧
         State.Changes [.bus, .evt] (Reg.idnStatus :: Reg.idnEvent :: Reg.idnXingErr :: Reg.raiseWords) Reg.raiseCtrs s t
       else t = s)) ∧
  (∀ (x : Fin 14) (inst : Fin 256) (held : List Nat) (s : State),
    ∃ t, exec (.resyncDone x inst held) s = .next t ∧
      (if 8 ≤ x.val then
         (∀ id ∈ held, State.Left id t) ∧ (∀ id, id ∉ held → t.frame id = s.frame id) ∧
         (∀ id f, held = [id] → x.val ≠ 9 → s.frame id = some f → f.stage ≠ .gone → f.verdict ≠ some .drop →
           t.counter (if f.dec then Reg.idnDropResyncDec else Reg.idnDropResyncEnc) = s.counter (if f.dec then Reg.idnDropResyncDec else Reg.idnDropResyncEnc) + 1) ∧
         (∀ p o, held = [] → x.val = 9 → 32 ≤ inst.val → inst.val < 64 → s.pairOf (inst.val - 32) = some p → s.inOutput true p = some o →
           (∃ y, (t.portOut true p).sent.head? = some y ∧ y.stomped = true) ∧ t.counter Reg.idnDropResyncEnc = s.counter Reg.idnDropResyncEnc + 1) ∧
         t.regField Reg.idnResync 24 8 = inst.val ∧ t.regField Reg.idnResync 20 4 = x.val ∧ t.regField Reg.idnResync 0 20 = (s.regField Reg.idnResync 0 20 + 1) % 2 ^ 20 ∧
         State.Only [.regs, .ctr, .lineOut, .frames, .engines, .chn, .tim, .hbm, .evt] s t
       else t = s))

/-- A served write of PMU_CONTROL sets FREEZE and OBSERVER_EN and with CLR_COUNTS, as a clear does, sets every counter,
wrap bit and sampling counter to 0. The tick puts the released selections in force. A served write of PMU_RING_CTRL
that sets ENABLE empties the ring, arms its threshold, and with EXTEND wakes a stack in self-refresh; while ENABLE is
1 the other fields stay, and else EXT_LOG2 is taken within 13 to 24. A served POP gives the oldest record, or zeros,
and takes it, which may pass the threshold; where the line it reads is uncorrectable its records are discarded and
counted, with event 243, and the oldest left is taken (log entry 110). An observer's access outside the 64 KiB window
or off a word is refused by name; in D3hot it has no effect; unserved it sets ACC_ERR; with OBSERVER_EN 0 it raises
event 244 and reads 0; a write does nothing; a read gives a selection, a wrap word, the low half of a counter with its
high half latched, or the latch, and 0 elsewhere. A counter of a clock that wraps becomes 0 with its wrap bit and
event 240. Nothing else changes. -/
def Obligations.PerformanceMonitor : Prop :=
  let wraps := (List.range 16).map (fun k => Reg.pmuWrap + 4 * k)
  let ctrs := [Reg.pmuCtr, Reg.pmuCtr + 0x08, Reg.pmuCtr + 0x10, Reg.pmuCtr + 0x18]
  let cleared := fun (s t : State) => t.pmu = { s.pmu with counters := [] } ∧ (∀ c, t.pmuCounter c = 0) ∧ (∀ a ∈ wraps, t.reg a = 0) ∧ (∀ a ∈ ctrs, t.counter a = 0)
  (∀ (v : Word) (s : State), s.allows .pf0 Reg.pmuControl = true →
    ∃ t, exec (.freezeWrite v) s = .next t ∧ t.regField Reg.pmuControl 0 1 = v.toNat % 2 ∧ t.regField Reg.pmuControl 31 1 = v.toNat / 2 ^ 31 ∧
      (if v.getLsbD 16 then cleared s t ∧ State.Changes [.pmu] (Reg.pmuControl :: wraps) ctrs s t else State.Changes [] [Reg.pmuControl] [] s t)) ∧
  (∀ s : State, s.allows .pf0 Reg.pmuControl = true →
    ∃ t, exec .pmuClrCounts s = .next t ∧ cleared s t ∧ State.Changes [.pmu] wraps ctrs s t) ∧
  (∀ s : State, ∃ t, exec .pmuSelectionApply s = .next t ∧ exec (.safePointApply .pmu) s = .next t ∧
      (∀ e ∈ s.live.waiting, e.released = true → State.shUnit e.addr = some .pmu → t.inForce e.addr = s.regN e.addr) ∧ State.Only [.inforce, .live, .key, .pmu] s t) ∧
  (∀ (r : Req) (v : Word) (s : State), s.allows r Reg.pmuRingCtrl = true →
    ∃ t, exec (.ringEnableWrite r v) s = .next t ∧ t.regField Reg.pmuRingCtrl 31 1 = v.toNat / 2 ^ 31 ∧
      (let e := v.toNat / 2 ^ 24 % 32
       let x := (if e < 13 then 13 else if 24 < e then 24 else e) + 32 * (v.toNat / 2 ^ 29 % 4)
       if s.regField Reg.pmuRingCtrl 31 1 = 1 then
         t.regField Reg.pmuRingCtrl 24 7 = s.regField Reg.pmuRingCtrl 24 7 ∧ (x ≠ s.regField Reg.pmuRingCtrl 24 7 → State.Raised 250 s t) ∧ t.pmu = s.pmu ∧ t.hbm = s.hbm
       else t.regField Reg.pmuRingCtrl 24 7 = x ∧
         (if v.getLsbD 31 then
            t.pmu = { s.pmu with ring := [], ext := [], extNext := 0, asks := [], lostMark := false, armed := true } ∧
            t.hbm = (if s.hbm.st = .selfRefresh ∧ t.regField Reg.pmuRingCtrl 29 1 = 1 then { s.hbm with st := .waking } else s.hbm)
          else t.pmu = s.pmu ∧ t.hbm = s.hbm)) ∧
      State.Changes [.pmu, .evt, .hbm] (Reg.pmuRingCtrl :: Reg.idnStopRefused :: Reg.idnEvent :: Reg.raiseWords) Reg.raiseCtrs s t) ∧
  (let popped := fun (s t : State) =>
       let n := s.ringCount - 1
       let limit := s.regField Reg.pmuRingThreshold 0 25
       let data := t.words Reg.pmuRingData 8
       let armed := if s.pmu.armed then !decide (limit ≤ n) else decide (2 * n < limit)
       let moved := fun (p : Pmu) => t.pmu = { p with armed := armed, counters := t.pmu.counters } ∧ (s.pmu.armed = true → limit ≤ n → State.Raised 241 s t)
       (match s.pmu.ext, s.pmu.ring with
        | r :: l, _ => data = Blob.toWords 8 r.2 ∧ moved { s.pmu with ext := l }
        | [], r :: l => data = Blob.toWords 8 r ∧ moved { s.pmu with ring := l, asks := s.pmu.asks.take l.length } ∧ t.pmu.counters = s.pmu.counters
        | [], [] => data = List.replicate 8 0 ∧ t.pmu = s.pmu) ∧
       State.Changes [.pmu, .evt] (Reg.pmuEvent :: (List.range 8).map (fun k => Reg.pmuRingData + 4 * k) ++ wraps ++ Reg.raiseWords) Reg.raiseCtrs s t
   ∀ (bad : Bool) (s : State), s.allows .pf0 Reg.pmuRingPop = true →
    ∃ t, exec (.pmuRingPop bad) s = .next t ∧
      (match s.pmu.ext with
       | e :: _ =>
         if bad = false then popped s t
         else ∃ u, popped u t ∧
           (let line := fun (k : Nat) => k % 2 ^ s.regField Reg.pmuRingCtrl 24 5 / 8
            let keep := s.pmu.ext.filter (fun y => decide (line y.1 ≠ line e.1))
            u.pmu = { s.pmu with ext := keep, armed := u.pmu.armed } ∧ State.Raised 243 s u ∧ State.Raised 217 s u ∧
            u.counter (Reg.pmuCtr + 0x18) = s.counter (Reg.pmuCtr + 0x18) + BitVec.ofNat 64 (s.pmu.ext.length - keep.length) ∧
            u.counter (State.hbmCtr 0x08) = s.counter (State.hbmCtr 0x08) + 1 ∧
            State.Changes [.pmu, .evt] (Reg.pmuEvent :: Reg.hbmErr :: Reg.hbmErrLo :: Reg.hbmErrHi :: Reg.hbmEvent :: Reg.raiseWords)
              ((Reg.pmuCtr + 0x18) :: State.hbmCtr 0x08 :: Reg.raiseCtrs) s u)
       | [] => popped s t)) ∧
  (∀ (off : Nat) (write : Bool) (v : Word) (s : State), off % 4 ≠ 0 ∨ 0x10000 ≤ off →
    exec (.observerAccess off write v) s = .refused (.badAddress (0x0E00000 + off))) ∧
  (∀ (off : Nat) (write : Bool) (v : Word) (s : State), off % 4 = 0 → off < 0x10000 →
    ∃ t, exec (.observerAccess off write v) s = .next t ∧
      (let a := 0x0E00000 + off
       let reads := fun (x : Word) => if write then t.bus = s.bus else t.bus = { s.bus with rdata := x }
       if s.pcie.perst = true ∨ State.d3hot s.pcie.cfg1 = true then t = s
       else if s.answers a = false then
         reads 0xFFFFFFFF ∧ t.regField Reg.idnStatus 31 1 = 1 ∧ (s.regField Reg.idnStatus 31 1 = 0 → State.Raised 252 s t) ∧
         State.Changes [.bus, .evt] (Reg.idnStatus :: Reg.idnEvent :: Reg.raiseWords) Reg.raiseCtrs s t
       else if s.observerOn = false then
         reads 0 ∧ t.regField Reg.pmuEvent 4 1 = 1 ∧ State.Raised 244 s t ∧ State.Changes [.bus, .evt] (Reg.pmuEvent :: Reg.raiseWords) Reg.raiseCtrs s t
       else if write then t = s
       else
         State.Only [.bus, .latch] s t ∧
         (if (Reg.pmuWrap ≤ a ∧ a < Reg.pmuWrap + 64) ∨ (Reg.pmuCntCfg ≤ a ∧ a < Reg.pmuCntCfg + 2048) then t = s.answer (s.regValue a)
          else if Reg.pmuCntLo ≤ a ∧ a < Reg.pmuCntLo + 4096 then
            (if a % 8 = 0 then t.bus.rdata = BitVec.ofNat 32 (s.pmuCounter ((a - Reg.pmuCntLo) / 8)) ∧
               t.latchOf .pf1 (a + 4) = BitVec.ofNat 32 (s.pmuCounter ((a - Reg.pmuCntLo) / 8) / 2 ^ 32)
             else t = s.answer (s.latchOf .pf1 a))
          else t = s.answer 0))) ∧
  (∀ (c : Fin 512) (s : State), s.pmuCounter c.val < 2 ^ 48 →
    ∃ t, exec (.counterWrap c) s = .next t ∧
      (if s.countsClock c.val then
         t.pmuCounter c.val = 0 ∧ (∀ k, k ≠ c.val → t.pmuCounter k = s.pmuCounter k) ∧ t.pmu = { s.pmu with counters := t.pmu.counters } ∧
         t.regField (Reg.pmuWrap + 4 * (c.val / 32)) (c.val % 32) 1 = 1 ∧ t.regField Reg.pmuEvent 0 1 = 1 ∧ State.Raised 240 s t
       else t = s) ∧ State.Changes [.pmu, .evt] (Reg.pmuEvent :: (Reg.pmuWrap + 4 * (c.val / 32)) :: Reg.raiseWords) Reg.raiseCtrs s t)

/-- A write by a requester that does not reach the register, or with other byte enables than all, or not taken now, has no
effect; unanswered it sets ACC_ERR. A served write of a register without a command sets its RW bits, clears the W1C
bits written 1 and keeps the rest; SH bits are set with the value in force unchanged until the safe point. One of a
register with a command is that command. A read answers the register, or 0xFFFF_FFFF with ACC_ERR. PF0's second window
reads and writes the MSI-X table and reads the pending bits; PF1's is the observer's. Configuration requests are
answered once bring-up has left POWER_OK, a write setting the enabled, writable bits of one word (layout: log entry 9;
D3hot: log entry 28). A link change is kept and raised as event 254. I2C READ and WRITE act like a requester's, or
give a status (its choice: log entry 34); messages are taken, refused as busy, or discarded with event 255. Nothing
else changes. -/
def Obligations.BusesAndRegisters : Prop :=
  let accErr := fun (bus : Bus) (s t : State) => t.bus = bus ∧ t.regField Reg.idnStatus 31 1 = 1 ∧ (s.regField Reg.idnStatus 31 1 = 0 → State.Raised 252 s t) ∧
    State.Changes [.bus, .evt] (Reg.idnStatus :: Reg.idnEvent :: Reg.raiseWords) Reg.raiseCtrs s t
  let ones := fun (b : Bus) => { b with rdata := 0xFFFFFFFF }
  let ofCommand := fun (a : Nat) => a ∈ [Reg.idnControl, Reg.idnApply, Reg.pwrControl, Reg.wrdControl, Reg.evtAck, Reg.evtHistPop, Reg.wrdPairCfg, Reg.wrdPairCmd,
      Reg.wrdFleet, Reg.levCmd, Reg.levUnlCtrl, Reg.keyCmd, Reg.keySlotSel, Reg.timSnap, Reg.timTsqPop, Reg.timCap + 8, Reg.timCap + 0x48, Reg.clsEnsignCmd,
      Reg.clsAccCmd, Reg.clsControl, Reg.lkpAccCmd, Reg.lkpLqPop, Reg.chnCmd, Reg.chnNotePop, Reg.cphTestCtrl, Reg.pmuControl, Reg.pmuRingCtrl, Reg.pmuRingPop,
      Reg.pldAccCmd, Reg.pldCntIndex, Reg.stwDoorbell, Reg.stwStatus] ∨ (Reg.evtPending ≤ a ∧ a < Reg.evtMask) ∨ (Reg.levTampLimits ≤ a ∧ a < Reg.levTampLimits + 40) ∨
    (Reg.timBase ≤ a ∧ a < Reg.timCap) ∨ (0x0500000 ≤ a ∧ a < 0x0508800 ∧ (a % 0x400 = 4 ∨ a % 0x400 = 8)) ∨ (Reg.stwReq ≤ a ∧ a < Reg.stwRsp)
  (∀ (r : Req) (a : Nat) (be : BitVec 4) (v : Word) (s : State), busAddr r a = true → r ≠ .pf1 → r ≠ .pf0Bar2 →
    s.reaches r a = false ∨ s.answers a = false ∨ s.takes a = false ∨ be ≠ 15 →
    ∃ t, exec (.registerWrite r a be v) s = .next t ∧ (if be = 15 ∧ s.reaches r a = true ∧ s.answers a = false then accErr s.bus s t else t = s)) ∧
  (∀ (r : Req) (a : Nat) (v : Word) (s : State), busAddr r a = true → r ≠ .pf1 → r ≠ .pf0Bar2 → s.allows r a = true → ¬ ofCommand a → (Reg.maskAt a).stop = 0 →
    (Reg.clears a).all (fun y => !v.getLsbD y.1) = true →
    ∃ t, exec (.registerWrite r a 15 v) s = .next t ∧
      (let m := Reg.maskAt a
       if s.hidden a then t = s
       else (∀ k < 32, (t.reg a).getLsbD k = if (m.rw ||| m.sh).testBit k then (Reg.norm a v.toNat).testBit k
           else if m.w1c.testBit k then (s.reg a).getLsbD k && !v.getLsbD k else (s.reg a).getLsbD k) ∧
         (if m.sh = 0 then State.Changes [] [a] [] s t
          else t.inForce a = s.inForce a ∧ (∃ e ∈ t.live.waiting, e.addr = a ∧ e.released = !s.hold) ∧ State.Changes [.inforce, .live] [a] [] s t))) ∧
  (∀ x ∈ ([(Reg.idnStatus, 0, 0x80000000), (Reg.idnEvent, 0, 0xFF), (Reg.pwrEvent, 0, 0xFF), (Reg.wrdEvent, 0, 0x7FF), (Reg.evtMask, 0xFFFFFFFF, 0), (Reg.levTampEvent, 0, 0xFF),
      (Reg.keyEvent, 0, 0x7F), (Reg.timEvent, 0, 0x3F), (Reg.lane 0 + 0x14, 0, 0xFF), (Reg.port true 0 + 0x0C, 0, 0x7F), (Reg.framer 0 + 0x0C, 0, 0xFFF), (Reg.clsEvent, 0, 0xFF),
      (Reg.lkpEvent, 0, 0x1F), (Reg.lkpAccData, 0xFFFFFFFF, 0), (Reg.chnEvent, 0, 0x3F), (Reg.chnData, 0xFFFFFFFF, 0), (Reg.cphCheck, 0, 0xC0000000), (Reg.hbmEvent, 0, 0x3F),
      (Reg.hbmErr, 0, 0xC0000000), (Reg.pmuEvent, 0, 0x1F), (Reg.polder 0 + 8, 0, 0x3F)] : List (Nat × Nat × Nat)),
    Reg.maskAt x.1 = { rw := x.2.1, sh := 0, stop := 0, w1c := x.2.2 } ∧ ¬ ofCommand x.1) ∧
  (∀ (v : Word) (s : State),
    (∀ x ∈ ([(Reg.pwrControl, .minLevelWrite .pf0 v), (Reg.wrdPairCfg, .pairEnableWrite .pf0 v), (Reg.wrdFleet, .fleetSet v), (Reg.timSnap, .timSnap v),
        (Reg.pmuControl, .freezeWrite v), (Reg.pmuRingCtrl, .ringEnableWrite .pf0 v)] : List (Nat × Instr)), ∃ t, exec (.registerWrite .pf0 x.1 15 v) s = .next t ∧ exec x.2 s = .next t) ∧
    (v.getLsbD 0 = true → ∀ x ∈ ([(Reg.wrdControl, .handover), (Reg.wrdPairCmd, .pairSwitch), (Reg.evtHistPop, .evtHistPop), (Reg.timTsqPop, .timTsqPop), (Reg.lkpLqPop, .lkpLqPop),
        (Reg.chnNotePop, .chnNotePop), (Reg.pmuRingPop, .pmuRingPop false), (Reg.stwDoorbell, .stwSend)] : List (Nat × Instr)),
      ∃ t, exec (.registerWrite .pf0 x.1 15 v) s = .next t ∧ exec x.2 s = .next t)) ∧
  (∀ (r : Req) (a : Nat) (s : State), busAddr r a = true → r ≠ .pf1 → r ≠ .pf0Bar2 →
    ∃ t, exec (.registerRead r a) s = .next t ∧
      (if s.reaches r a = false then t = s
       else if s.answers a = false then accErr (ones s.bus) s t
       else (s.pairValue a = none → State.isHigh a = false → ¬ (0x0200000 ≤ a ∧ a < 0x0400000) → a ≠ Reg.pldArbMax →
           t = s.answer (s.regValue a)) ∧
         (a = 0 → s.reg 0 = 0 → t = s.answer 0x06432F47) ∧ (a = Reg.pldArbMax → t.bus = (s.answer (s.regValue a)).bus ∧ t.arbMax = 0) ∧ State.Only [.lanes, .hostPorts, .linePorts, .latch, .bus, .arbMax] s t)) ∧
  (∀ (a : Nat) (be : BitVec 4) (v : Word) (write : Bool) (s : State), busAddr .pf0Bar2 a = true →
    ∃ t, exec (if write then .registerWrite .pf0Bar2 a be v else .registerRead .pf0Bar2 a) s = .next t ∧
      (if s.pcie.perst = true ∨ State.d3hot s.pcie.cfg0 = true ∨ (write = true ∧ be ≠ 15) then t = s
       else if s.running = false ∨ s.lev.locked = true ∨ s.vaultValid = false ∨ s.evt.c4.isSome = true then accErr (if write then s.bus else ones s.bus) s t
       else if write then
         (if a < 0x1000 then t.bar2Read a = v &&& (if a % 16 = 0 then 0xFFFFFFFC else if a % 16 = 12 then 1 else 0xFFFFFFFF) ∧
            (∀ b, b ≠ a → t.bar2Read b = s.bar2Read b) ∧ t = { s with pcie := { s.pcie with msix := t.pcie.msix } }
          else t = s)
       else t = s.answer (if a < 0x1000 then Tab.get State.msixReset s.pcie.msix a
         else if 0x2000 ≤ a ∧ a < 0x2020 then BitVec.ofNat 32 (s.evt.pba.toNat / 2 ^ (8 * (a - 0x2000))) else 0))) ∧
  (∀ (a : Nat) (be : BitVec 4) (v : Word) (s : State), busAddr .pf1 a = true →
    ∃ t u, exec (.registerWrite .pf1 a be v) s = .next t ∧ (if be = 15 then exec (.observerAccess (a - 0x0E00000) true v) s = .next t else t = s) ∧
      exec (.registerRead .pf1 a) s = .next u ∧ exec (.observerAccess (a - 0x0E00000) false v) s = .next u) ∧
  (∀ (pf1 write : Bool) (a : Nat) (v : Word) (be : BitVec 4) (s : State), a % 4 = 0 → a < 4096 →
    ∃ t, exec (.pcieConfigRequest pf1 write a v be) s = .next t ∧
      (let word := fun (u : State) (b : Nat) => Tab.get PciCfg.resetOf (u.cfgOf pf1) b
       if s.pcie.perst = true ∨ s.boot.state = .powerOk then t = s
       else if write then
         t = s.setCfg pf1 (t.cfgOf pf1) ∧
         (if a = 0x44 ∧ State.d3hot (s.cfgOf pf1) = true ∧ be.getLsbD 0 = true ∧ v.toNat % 4 = 0 then t.cfgOf pf1 = []
          else (∀ b, b ≠ a → word t b = word s b) ∧
            (a ≠ 0x44 → a ≠ 0x58 → ∀ k < 32, (word t a).getLsbD k =
              if (PciCfg.writable pf1 a).testBit k = true ∧ be.getLsbD (k / 8) = true then v.getLsbD k else (word s a).getLsbD k) ∧
            (a = 0x44 → be.getLsbD 0 = true → v.toNat % 4 = 3 → State.d3hot (t.cfgOf pf1) = true))
       else t = s.answer (s.cfgRead pf1 a) ∧
         (a = 0 → word s 0 = 0 → s.cfgRead pf1 a = if pf1 then 0x64331F7A else 0x64321F7A) ∧ (a = 8 → word s 8 = 0 → s.cfgRead pf1 a = if pf1 then 0x11010000 else 0x10800000)) ∧
      State.Only [.bus, .pcie] s t) ∧
  (∀ (up : Bool) (w sp : Fin 16) (s : State), ∃ t, exec (.pcieLinkChange up w sp) s = .next t ∧
      (if up = true ∧ ¬ ((w.val = 1 ∨ w.val = 2 ∨ w.val = 4) ∧ 1 ≤ sp.val ∧ sp.val ≤ 4) then t = s
       else t.pcie = { s.pcie with up := up, width := if up then w.val else 0, speed := if up then sp.val else 0 } ∧
         (up ≠ s.pcie.up → t.regField Reg.idnEvent 6 1 = 1 ∧ State.Raised 254 s t) ∧ (up = s.pcie.up → t.evt = s.evt)) ∧
      State.Changes [.pcie, .evt] (Reg.idnEvent :: Reg.raiseWords) Reg.raiseCtrs s t) ∧
  (let bad := fun (s t : State) => t.regField Reg.idnEvent 7 1 = 1 ∧ State.Raised 255 s t ∧ State.Changes [.evt] (Reg.idnEvent :: Reg.raiseWords) Reg.raiseCtrs s t
   let gives := fun (status : Nat) (data : Bytes) (s : State) => { s with bus := { s.bus with status := status, bytes := data } }
   let refusal := fun (a n : Nat) (s : State) =>
     if a % 4 ≠ 0 ∨ ¬ ((a + 4 * n ≤ 0x100) ∨ (Reg.levUnlCtrl ≤ a ∧ a + 4 * n ≤ 0x00301E4)) then 0x46
     else if (List.range n).all (fun k => s.answers (a + 4 * k)) = true then 0
     else if s.evt.c4.isSome then 0x67 else if s.running = true ∨ s.lev.locked = true then 0x55 else 0x64
   (∀ (a n : Nat) (s : State), ∃ t, exec (.i2cRead a n) s = .next t ∧
      (if n = 0 ∨ 16 < n then bad s t
       else if refusal a n s ≠ 0 then t = gives (refusal a n s) [] s
       else t.bus.status = 0 ∧ t.bus.rdata = s.bus.rdata ∧ t.bus.bytes.length = 4 * n ∧
         (∀ k < n, s.pairValue (a + 4 * k) = none → State.isHigh (a + 4 * k) = false →
           (t.bus.bytes.drop (4 * k)).take 4 = beBytes 4 (s.regValue (a + 4 * k)).toNat) ∧ State.Only [.bus, .latch] s t)) ∧
   (∀ (a : Nat) (v : Word) (s : State), ∃ t, exec (.i2cWrite a v) s = .next t ∧
      (if refusal a 1 s ≠ 0 then t = gives (refusal a 1 s) [] s
       else ∃ u, exec (.registerWrite .i2c a 15 v) s = .next u ∧ t = gives 0 [] u)) ∧
   (∀ (msg : Bytes) (s : State), ∃ t, exec (.i2cMbxSend msg) s = .next t ∧
      (if msg.length < 16 ∨ 4096 < msg.length then bad s t
       else if s.mbxI2c.busy then accErr { s.bus with status := 1, bytes := [] } s t
       else t = gives 0 [] { s with mbxI2c := t.mbxI2c } ∧ t.mbxI2c.busy = true ∧ t.mbxI2c.rspReady = false ∧ t.mbxI2c.req.take msg.length = msg ∧ t.mbxI2c.answer = none)) ∧
   (∀ s : State, exec .i2cMbxRecv s = .next (if s.mbxI2c.busy then gives 1 [] s else gives 0 (if s.mbxI2c.rsp = [] then List.replicate 16 0 else s.mbxI2c.rsp) s)) ∧
   (∀ s : State, ∃ t, exec .i2cProtocolError s = .next t ∧ bad s t))

/-- A served SEND while the mailbox is busy sets ACC_ERR; else the request is taken and the response cleared. A waiting
request of another command is left; one of a malformed header, a state of R631, an unknown command or a LENGTH it does
not take is answered so. IDENTITY, STATUS and FLASH_READ answer their bytes; FLASH_WRITE and FLASH_ERASE refuse the
running slot, and change the bytes of their range alone: programmed (which only clears bits, log entry 27) and read
back, or erased, or left free where the part fails, with 0x80 and event 253; a slot or range outside the flash gives a
free result. PFX_ADD and PFX_DELETE refuse as R632 replies, or put a prefix into the table's set, or take it out.
ATTEST answers the signed fields, once the digest is up to date, or 0x4F with a C4 fault where its key's cell fails
its code; the UNLOCK commands act as the exchange does. A response is delivered, or discarded after PERST_N, and
raises event 248 for the PCIe mailbox. Nothing else changes. -/
def Obligations.StewardMailboxes : Prop :=
  let answered := fun (b : Mbx) (req : Bytes) (r : Nat) (out : Bytes) =>
    { b with answer := some (req.take 4 ++ leBytes 2 out.length ++ [BitVec.ofNat 8 r, 1] ++ zeros 8 ++ out) }
  let refusal := fun (req : Bytes) (s : State) =>
    let c := leAt req 0 2
    let ident := decide (c = 0x01 ∨ c = 0x02)
    let unlock := decide (c = 0x60 ∨ c = 0x61)
    if leAt req 6 10 ≠ 0 ∨ 4080 < leAt req 4 2 then 0x66
    else if ident = false ∧ s.evt.c4.isSome = true then 0x67
    else if ident = false ∧ (unlock && s.vaultValid) = false ∧ (s.lev.locked = true ∨ (s.running = true ∧ s.vaultValid = false)) then 0x55
    else if ident = false ∧ (unlock && s.vaultValid) = false ∧ s.running = false then 0x64
    else if ident = false ∧ (unlock && s.vaultValid) = false ∧ s.stw.restarting = true then 0x01
    else if c ∉ [0x01, 0x02, 0x10, 0x11, 0x12, 0x20, 0x21, 0x30, 0x31, 0x32, 0x40, 0x41, 0x50, 0x60, 0x61] then 0x65
    else if Mail.takes c (leAt req 4 2) = true ∧ Mail.reservedOk c (Mail.payload req) = true then 0 else 0x66
  let runs := fun (c : Nat) (x : Instr) (m : MbxId) (s : State) (effect : Bytes → (Nat → Bytes → State → Prop) → State → Prop) => ∃ t, exec x s = .next t ∧
    (let b := s.mbx m
     let replies := fun (r : Nat) (out : Bytes) (t : State) => t.mbx m = answered b b.req r out ∧ ∀ n, n ≠ m → t.mbx n = s.mbx n
     if b.busy = false ∨ b.answer ≠ none ∨ leAt b.req 0 2 ≠ c then t = s
     else if refusal b.req s ≠ 0 then replies (refusal b.req s) [] t ∧ State.Only [.mbxPcie, .mbxI2c] s t
     else effect (Mail.payload b.req) replies t)
  let box := State.Only [.mbxPcie, .mbxI2c]
  let small := fun (rs cs : List Nat) (ps : List Part) (s t : State) => State.Changes (.mbxPcie :: .mbxI2c :: .evt :: ps) (rs ++ Reg.raiseWords) (cs ++ Reg.raiseCtrs) s t
  let range := fun (p : Bytes) => leAt p 0 1 * 0x4000000 + leAt p 4 4
  let outside := fun (p : Bytes) (n : Nat) => 1 < leAt p 0 1 ∨ 0x4000000 < leAt p 4 4 + n
  let failed := fun (s t : State) => t.regField Reg.idnEvent 5 1 = 1 ∧ State.Raised 253 s t
  (∀ s : State, s.allows .pf0 Reg.stwDoorbell = true → ∃ t, exec .stwSend s = .next t ∧
      (if s.mbxPcie.busy then t.mbxPcie = s.mbxPcie ∧ t.regField Reg.idnStatus 31 1 = 1 ∧ (s.regField Reg.idnStatus 31 1 = 0 → State.Raised 252 s t) ∧
         State.Changes [.evt] (Reg.idnStatus :: Reg.idnEvent :: Reg.raiseWords) Reg.raiseCtrs s t
       else t = { s with mbxPcie := { req := s.regBytes Reg.stwReq 1024, busy := true, answer := none, drop := false, rsp := [], rspReady := false } })) ∧
  (∀ (m : MbxId) (s : State), runs 0x01 (.mbxIdentity m) m s (fun _ replies t =>
    replies 0 ([0x00, 0xA0, 0x24, 0x28].flatMap (fun a => leBytes 4 (s.regValue a).toNat) ++ State.dieId ++ s.imageDigest ++ s.key.digest) t ∧ box s t)) ∧
  (∀ (m : MbxId) (s : State), runs 0x02 (.mbxStatus m) m s (fun _ replies t =>
    replies 0 ([0x04, 0x20, 0x10, 0x30].flatMap (fun a => leBytes 4 (s.regValue a).toNat)) t ∧ box s t)) ∧
  (∀ (m : MbxId) (s : State), s.flashOk = true → runs 0x10 (.mbxFlashRead m) m s (fun p replies t =>
    let n := leAt p 8 4
    (if n = 0 ∨ 4064 < n ∨ outside p n then replies Config.flashRefused.toNat [] t
     else replies 0 ((List.range n).map (fun k => Flash.at s.flash (range p + k))) t) ∧ box s t)) ∧
  (∀ (m : MbxId) (ok : Bool) (s : State), s.flashOk = true → runs 0x11 (.mbxFlashWrite m ok) m s (fun p replies t =>
    let d := p.drop 8
    let a := range p
    if outside p d.length then replies Config.flashRefused.toNat [] t ∧ box s t
    else if leAt p 0 1 = s.boot.slot then replies 0x4C [] t ∧ box s t
    else (∀ b, b < a ∨ a + d.length ≤ b → Flash.at t.flash b = Flash.at s.flash b) ∧
      (∀ k < d.length, Flash.at t.flash (a + k) = if ok then Flash.at s.flash (a + k) &&& d.getD k 0 else Config.flashByte s.freeIdx k) ∧
      (if ok = true ∧ ∀ k < d.length, Flash.at s.flash (a + k) &&& d.getD k 0 = d.getD k 0 then replies 0 [] t ∧ State.Only [.flash, .mbxPcie, .mbxI2c] s t
       else replies 0x80 [] t ∧ failed s t ∧ small [Reg.idnEvent] [] [.flash, .freeIdx] s t))) ∧
  (∀ (m : MbxId) (ok : Bool) (s : State), s.flashOk = true → runs 0x12 (.mbxFlashErase m ok) m s (fun p replies t =>
    let a := range p
    if leAt p 4 4 % 65536 ≠ 0 ∨ outside p 65536 then replies Config.flashRefused.toNat [] t ∧ box s t
    else if leAt p 0 1 = s.boot.slot then replies 0x4C [] t ∧ box s t
    else (∀ b, b < a ∨ a + 65536 ≤ b → Flash.at t.flash b = Flash.at s.flash b) ∧
      (∀ k < 65536, Flash.at t.flash (a + k) = if ok then 0xFF else Config.flashByte s.freeIdx k) ∧
      (if ok then replies 0 [] t ∧ State.Only [.flash, .mbxPcie, .mbxI2c] s t else replies 0x80 [] t ∧ failed s t ∧ small [Reg.idnEvent] [] [.flash, .freeIdx] s t))) ∧
  (∀ (m : MbxId) (add : Bool) (s : State), runs (if add then 0x40 else 0x41) (if add then .mbxPfxAdd m else .mbxPfxDelete m) m s (fun p replies t =>
    let n := leAt p 0 1
    let x : Prefix := if add then { len := leAt p 1 1, value := leAt p 8 16, result := BitVec.ofNat 32 (leAt p 4 4) } else { len := leAt p 1 1, value := leAt p 4 16, result := 0 }
    let no := fun (r : Nat) => replies r [] t ∧ t.lkp = s.lkp ∧ t.hbm = s.hbm
    let same := fun (q : Prefix) => decide (q.len = x.len ∧ q.value = x.value)
    (match Tab.find s.lkp.tables n with
     | none => no 0x46
     | some y =>
       if y.kind ≠ 1 then no 0x4A
       else if y.kbits < x.len ∨ y.lengths.foldl max 0 < x.len ∨ 2 ^ y.kbits ≤ x.value ∨ x.value % 2 ^ (y.kbits - x.len) ≠ 0 then no 0x52
       else if add = false ∧ y.prefixes.any same = false then no 0x49
       else match (if add then (y.addPrefix x).filter (fun z => Seed.poolsOk (s.lkp.setTable n z)) else y.delPrefix x) with
        | none => no 0x48
        | some z => replies 0 [] t ∧ (∀ k, k ≠ n → Tab.find t.lkp.tables k = Tab.find s.lkp.tables k) ∧ t.lkp = { s.lkp with tables := t.lkp.tables } ∧ t.hbm = { s.hbm with insertAt := some s.now } ∧
            Tab.find t.lkp.tables n = some z ∧ z.prefixes = y.prefixes.filter (fun q => !same q) ++ (if add then [x] else []) ∧
            z.kind = y.kind ∧ z.kbits = y.kbits ∧ z.lengths = y.lengths) ∧
    State.Only [.lkp, .hbm, .mbxPcie, .mbxI2c] s t)) ∧
  (∀ (m : MbxId) (s : State), s.key.digestPending = true → s.key.ak ≠ none → exec (.mbxAttest m) s = .next s) ∧
  (∀ (m : MbxId) (s : State), s.key.digestPending = false ∨ s.key.ak = none → runs 0x50 (.mbxAttest m) m s (fun p replies t =>
    match s.key.ak with
    | none => replies 0x55 [] t ∧ box s t
    | some c =>
      match s.fetch c false with
      | none => replies 0x4F [] t ∧ t.counter (Reg.keyCtr + 0x28) = s.counter (Reg.keyCtr + 0x28) + 1 ∧ State.Raised 196 s t ∧ State.Raised 197 s t ∧
          State.Only (.mbxPcie :: .mbxI2c :: Part.traffic) s t
      | some ak =>
      let dev := beBytes 2 (s.devNumber.getD 0)
      let ens := beBytes 2 (s.ensign % 4096)
      replies 0 (beBytes 2 1 ++ dev ++ ens ++ zeros 2 ++ State.dieId ++ s.imageDigest ++ s.key.digest ++
        Crypto.hmac384 ak (p ++ dev ++ State.dieId ++ s.imageDigest ++ ens ++ s.key.digest)) t ∧
      t.counter (Reg.keyCtr + 0x40) = s.counter (Reg.keyCtr + 0x40) + 1 ∧ t.regField Reg.keyEvent 6 1 = 1 ∧ State.Raised 198 s t ∧
      small [Reg.keyEvent] [Reg.keyCtr + 0x40] [] s t)) ∧
  (∀ (m : MbxId) (s : State), runs 0x60 (.mbxUnlockStart m) m s (fun p replies t =>
    let purpose := leAt p 0 1
    let no := fun (r : Nat) => replies r [] t ∧ t.lev = s.lev
    (if s.lev.checking.isSome then no 0x01
     else if purpose = 0 ∨ 2 < purpose then no 0x52
     else if s.vaultValid = false then no 0x5F
     else if 0 < s.lev.holdoff then no 0x5C
     else if purpose = 1 ∧ s.lev.locked = false then no 0x5A
     else ∃ c : Challenge, replies 0 c.bytes t ∧ c.purpose = purpose ∧ c.seq = s.lev.nextSeq ∧ c.bytes.take 8 = beBytes 8 s.lev.rtc ∧
       t.lev = { s.lev with chal := some c, chalCount := s.lev.chalCount + 1, seqLow := s.lev.nextSeq % 2 ^ 16, derivedForm := t.lev.derivedForm }) ∧
    State.Only [.freeIdx, .lev, .mbxPcie, .mbxI2c] s t)) ∧
  (∀ (m : MbxId) (s : State), runs 0x61 (.mbxUnlockRespond m) m s (fun p replies t =>
    if s.lev.checking.isSome then replies 0x01 [] t ∧ box s t
    else ∃ u, exec .unlockCheckDone { s with lev := { s.lev with checking := some p } } = .next u ∧ replies (u.regField Reg.levUnlCtrl 24 8) [] t ∧
      t.reg Reg.levUnlCtrl = s.reg Reg.levUnlCtrl ∧ (∀ a, a ≠ Reg.levUnlCtrl → t.reg a = u.reg a) ∧ State.Only [.regs, .mbxPcie, .mbxI2c] u t)) ∧
  (∀ (m : MbxId) (s : State), ∃ t, exec (.mailboxResponse m) s = .next t ∧
      (let b := s.mbx m
       let given : Option Bytes := match b.answer with
         | some a => some a
         | none => if b.busy = true ∧ refusal b.req s ≠ 0 ∧ ¬ (s.upd.waiting = some m ∧ refusal b.req s = 1) then
             (answered b b.req (refusal b.req s) []).answer else none
       match given with
       | none => t = s
       | some a => (∀ n, n ≠ m → t.mbx n = s.mbx n) ∧ t.upd = { s.upd with waiting := if s.upd.waiting = some m then none else s.upd.waiting } ∧
           (if b.drop then t.mbx m = { b with busy := false, answer := none, drop := false } ∧ State.Only [.upd, .mbxPcie, .mbxI2c] s t
            else t.mbx m = { b with busy := false, answer := none, rsp := a, rspReady := true } ∧
              (m = .pcie → t.regField Reg.stwStatus 24 8 = (a.getD 6 0).toNat ∧ t.regField Reg.idnEvent 0 1 = 1 ∧ State.Raised 248 s t) ∧
              (m = .i2c → State.Only [.upd, .mbxPcie, .mbxI2c] s t))) ∧
      small [Reg.stwStatus, Reg.idnEvent] [] [.upd] s t)

/-- IMG_STAGE is busy during an apply; it proves the slot not in use, and either gives its boot code or keeps the proven
image as staged. IMG_APPLY without a staged image gives a free result (log entry 2); it is refused with the first
refusal before any record is applied, or begins the first step whose records differ: PORT_POLICY stops the pairs
concerned, FIRMWARE restarts the steward. Rules wait for a classifier that is BUSY. A step done leads to the next, or
to the end: the image is the running and preferred one, R104 applies, and the request is answered; a step that fails
leaves image, slot and version as they were, with 0x42. A retired unit leaves service with its frames and a map of the
pairs lost; a returned one is in service, asleep or waking, a lane from DETECT where it may wake; a recalibrated lane
retrains from TRAIN. A unit out of range is BAD_INDEX. A watchdog raises event 249; a restart ends, but that of the
apply. -/
def Obligations.UpdatesAndUnits : Prop :=
  let reply := fun (req : Bytes) (r : Nat) (out : Bytes) => req.take 4 ++ leBytes 2 out.length ++ [BitVec.ofNat 8 r, 1] ++ zeros 8 ++ out
  let replies := fun (m : MbxId) (req : Bytes) (r : Nat) (out : Bytes) (s t : State) =>
    t.mbx m = { s.mbx m with answer := some (reply req r out) } ∧ ∀ n, n ≠ m → t.mbx n = s.mbx n
  let box := State.Only [.mbxPcie, .mbxI2c]
  let runs := fun (c : Nat) (x : Instr) (m : MbxId) (s : State) (effect : Bytes → (Nat → Bytes → State → Prop) → State → Prop) => ∃ t, exec x s = .next t ∧
    (match s.request m with
     | none => t = s
     | some req =>
       if leAt req 0 2 ≠ c then t = s
       else match s.mbxRefusal req with
        | some r => replies m req r [] s t ∧ box s t
        | none => effect (Mail.payload req) (fun r out t => replies m req r out s t) t)
  let ended := fun (j : Image) (s t : State) => t.run = some j ∧ t.boot.slot = j.slot ∧ t.lev.prefSlot = j.slot ∧
    t.lev.minSv = (if Image.raises j.header then max s.lev.minSv (Image.security j.header) else s.lev.minSv) ∧
    t.upd = { state := .idle, step := 0, staged := none, result := 0, waiting := none, records := [] }
  let told := fun (r : Nat) (s t : State) => ∀ m req, s.upd.waiting = some m → s.request m = some req → (t.mbx m).answer = some (reply req r [])
  let parts := .inforce :: .live :: .boot :: .upd :: .run :: .portPolicy :: .channelPolicy :: .cls :: .lkp :: .key :: .lev :: .wrd :: .mbxPcie :: .mbxI2c :: Part.traffic
  (∀ (m : MbxId) (s : State), runs 0x20 (.imgStage m) m s (fun _ replies t =>
    (if s.upd.state ≠ .idle then replies 0x01 [] t ∧ t.upd = s.upd
     else match s.provenImage (1 - s.boot.slot) with
      | .error c => replies c [] t ∧ t.upd = { s.upd with result := c }
      | .ok (j, _) => (∃ c, replies c [] t ∧ t.upd = { s.upd with result := c }) ∨ (∃ out, replies 0 out t ∧ out.length ≤ 4080 ∧ t.upd = { s.upd with staged := some j, result := 0 })) ∧
    (s.upd.state = .idle → Image.headerOk (Image.fetch s.flash (1 - s.boot.slot)).header = false → replies 0x81 [] t) ∧
    (∀ j r, s.upd.state = .idle → s.provenImage (1 - s.boot.slot) = .ok (j, r) → (∀ i, s.run = some i → Update.dirRules i = Update.dirRules j) → s.run ≠ none → t.upd.staged = some j) ∧
    State.Only [.upd, .mbxPcie, .mbxI2c] s t)) ∧
  (∀ (m : MbxId) (s : State), ∃ t, exec (.imgApply m) s = .next t ∧
    (match s.request m with
     | none => t = s
     | some req =>
       let no := fun (c : Nat) => replies m req c [] s t ∧ t.upd = { s.upd with result := c } ∧ State.Only [.upd, .mbxPcie, .mbxI2c] s t
       if leAt req 0 2 ≠ 0x21 ∨ s.upd.waiting = some m then t = s
       else match s.mbxRefusal req with
        | some r => replies m req r [] s t ∧ box s t
        | none =>
          if s.upd.state ≠ .idle then replies m req 0x01 [] s t ∧ box s t
          else match s.upd.staged, s.run with
           | some j, some i =>
             (match Update.records i s.flash, Update.records j s.flash with
              | some ro, some rn =>
                if (Image.fetch s.flash j.slot).header ≠ j.header ∨ (Image.fetch s.flash j.slot).dirBytes ≠ j.dirBytes then no 0x85
                else match (Update.steps i j).findSome? (s.stepRefusal ro rn) with
                 | some c => no c
                 | none =>
                   match (Update.steps i j).head? with
                   | some k => t.upd = { s.upd with state := .applying, step := k, waiting := some m, records := rn } ∧ t.mbx m = s.mbx m ∧
                       (k < 7 → t = { s with upd := t.upd }) ∧ (k = 8 → t = { s with upd := t.upd, stw := { s.stw with restarting := true } }) ∧
                       (k = 7 → State.Only (.upd :: Part.traffic) s t ∧
                         ∀ p ∈ s.movedPairs (State.movedLanes s.portPolicy ((Update.single rn 3).getD [])), (t.pair p).stopped = true)
                   | none => ended j s t ∧ replies m req 0 [] s t
              | _, _ => no 0x85)
           | _, _ => replies m req Config.noStageResult.toNat [] s t ∧ box s t) ∧
    State.Only parts s t) ∧
  (∀ s : State, ∃ t, exec .imgApplyStepDone s = .next t ∧
    (if (s.upd.step = 4 ∧ s.cls.ensignBusy = true) ∨ ¬ (s.upd.state = .applying ∧ s.stw.up = true ∧ s.stw.halted = false ∧ (s.stw.restarting = false ∨ s.upd.step = 8)) then t = s
     else match s.upd.staged, s.run with
      | some j, some i =>
        (match Update.records i s.flash with
         | none => t = s
         | some ro =>
           let rn := s.upd.records
           let k := s.upd.step
           match s.doStep k ro rn false with
           | .ok u =>
             (match (Update.steps i j).find? (fun n => decide (k < n)) with
              | some n => t.upd = { s.upd with state := .applying, step := n } ∧ t.run = s.run ∧ (n < 7 → t = { u with upd := t.upd })
              | none => ended j s t ∧ told 0 s t) ∧
             (k = 1 → ∀ n, (Update.ofType ro 8).any (fun e => decide (e.1 = n)) = true → (Update.ofType rn 8).any (fun e => decide (e.1 = n)) = false → t.key.valid n = false) ∧
             (k = 2 → ∀ b, Update.single rn 4 = some b → t.channelPolicy = b ∧ t.key.digestPending = true ∧ ∀ w < 32, t.reg (Reg.chnPolicy + 4 * w) = ChannelPolicy.policyWord b w) ∧
             (k = 6 → s.boardTable rn = none → u.boot.noTable = true ∧ ∀ l < 66, (u.lane l).stage = .doze ∨ (u.lane l).stage = .removed) ∧
             (k = 7 → ∀ b, Update.single rn 3 = some b → t.portPolicy = b ∧ t.key.digestPending = true) ∧ (k = 8 → t.stw.restarting = false)
           | .error _ => t.run = s.run ∧ t.boot.slot = s.boot.slot ∧ t.lev.prefSlot = s.lev.prefSlot ∧ t.lev.minSv = s.lev.minSv ∧
               t.upd = { state := .idle, step := 0, staged := none, result := 0x42, waiting := none, records := [] } ∧ told 0x42 s t)
      | _, _ => t = s) ∧
    State.Only parts s t) ∧
  (∀ (m : MbxId) (s : State), runs 0x30 (.unitRetire m) m s (fun p replies t =>
    let left := fun (pair : Nat) => ∀ i f, s.frame i = some f → f.pair = pair → State.Left i t
    (if s.unitOf p = none ∨ s.unitOf p = some (.warden .a) ∨ s.unitOf p = some (.warden .b) then replies 0x46 [] t ∧ box s t
     else ∃ map, replies 0 (leBytes 4 map) t ∧ ∀ n, map.testBit n = true → s.pairInService n = true) ∧
    (∀ l, s.unitOf p = some (.lane l) → if (s.lane l).retired = true ∨ (s.lane l).stage = .removed then box s t
      else (t.lane l).retired = true ∧ (t.lane l).stage = .doze ∧ ∀ q, l < 64 → s.pairOf (State.laneIdx l) = some q → left q) ∧
    (∀ q, s.unitOf p = some (.pair q) → if (s.pair q).retired then box s t
      else (t.pair q).retired = true ∧ (t.port false q).retired = true ∧ (t.port true q).retired = true ∧ left q) ∧
    (∀ q, s.unitOf p = some (.polder q) → if (s.polder q).state = .removed ∨ (s.polder q).state = .retired then box s t else (t.polder q).state = .retired) ∧
    (∀ e, s.unitOf p = some (.engine e) → (s.polder (e / 32)).inService.getLsbD (e % 32) = true → (s.polder (e / 32)).state ≠ .removed →
      (s.polder (e / 32)).state ≠ .retired → (t.polder (e / 32)).inService.getLsbD (e % 32) = false ∧
        ∀ k c, Tab.find (s.engine e).ctxs k = some c → State.Left c.frame t) ∧
    (∀ q, s.unitOf p = some (.pipe q) → t.cph.inService.testBit q = false) ∧
    (∀ g, s.unitOf p = some (.group g) → ∀ k < 4, t.cph.inService.testBit (4 * g + k) = false) ∧
    State.Only (.mbxPcie :: .mbxI2c :: Part.traffic) s t)) ∧
  (∀ (m : MbxId) (ok : Bool) (s : State), runs 0x31 (.unitReturn m ok) m s (fun p replies t =>
    (if s.unitOf p = none then replies 0x46 [] t ∧ box s t else replies 0 [] t) ∧
    (∀ l, s.unitOf p = some (.lane l) → if (s.lane l).retired = true ∨ (s.lane l).stage = .removed ∨ (s.lane l).stage = .doze then
        (t.lane l).retired = false ∧ ((t.lane l).stage = .doze ∨ (t.lane l).stage = .detect ∨ (ok = false ∧ (t.lane l).stage = .removed)) ∧
        ((s.lane l).present = true → s.lanesRunning = true → (64 ≤ l ∨ State.laneIdx l < State.lanesKept s.shedLevel) →
          (64 ≤ l ∨ ∀ q, s.pairOf (State.laneIdx l) = some q → (s.pair q).stopped = false ∧ (s.pair q).retired = false ∧
            ∀ k ∈ s.portLanes (decide (32 ≤ l)) q, k ≠ l → (s.lane k).retired = false ∧ (s.lane k).stage ≠ .removed) →
          (t.lane l).stage = if s.sideRef l = true ∧ ok = false then .removed else .detect)
      else box s t) ∧
    (∀ q, s.unitOf p = some (.pair q) → (t.pair q).retired = false) ∧
    (∀ q, s.unitOf p = some (.polder q) → if (s.polder q).state = .removed ∨ (s.polder q).state = .retired then (t.polder q).state = .asleep ∨ (t.polder q).state = .waking
      else box s t) ∧
    (∀ e, s.unitOf p = some (.engine e) → (t.polder (e / 32)).inService.getLsbD (e % 32) = true) ∧
    (∀ q, s.unitOf p = some (.pipe q) → t.cph.inService.testBit q = true) ∧
    (∀ g, s.unitOf p = some (.group g) → ∀ k < 4, t.cph.inService.testBit (4 * g + k) = true) ∧
    (∀ w, s.unitOf p = some (.warden w) → if s.warden w = .removed ∧ s.wrd.holder ≠ none then t.warden w = .returning else box s t) ∧
    State.Only (.wrd :: .mbxPcie :: .mbxI2c :: Part.traffic) s t)) ∧
  (∀ (m : MbxId) (s : State), runs 0x32 (.unitRecal m) m s (fun p replies t =>
    (match s.unitOf p with
     | some (.lane l) => replies 0 [] t ∧
         (if (s.lane l).stage ∈ [.train, .lock, .exchange, .active] then (t.lane l).stage = .train else box s t) ∧ ∀ k, k ≠ l → (t.lane k).stage = (s.lane k).stage
     | _ => replies 0x46 [] t ∧ box s t) ∧ State.Only (.mbxPcie :: .mbxI2c :: Part.traffic) s t)) ∧
  (∀ s : State, ∃ t, exec .stewardWatchdog s = .next t ∧
    (if s.stewardServes then t.regField Reg.idnEvent 1 1 = 1 ∧ State.Raised 249 s t ∧ (s.running = true → t.stands 249 = true) else t = s) ∧
    State.Changes [.evt] (Reg.idnEvent :: Reg.raiseWords) Reg.raiseCtrs s t) ∧
  (∀ s : State, exec .stewardRestartDone s =
    .next (if s.upd.state = .applying ∧ s.upd.step = 8 then s else { s with stw := { s.stw with restarting := false } }))

/-- In a state with a C4 fault latched, a step of any command keeps the latch, or leaves the module without a feed. A cold
reset by POR_N keeps it, stands in POWER_OK and asserts FAULT_N; and from a state in POWER_OK with a C4 fault latched
every step stays in POWER_OK, with the latch kept and FAULT_N asserted unless no feed is left. -/
def Obligations.C4LatchOutlastsResets : Prop :=
  (∀ s t : State, s.evt.c4.isSome = true → step s = .next t → t.evt.c4 = s.evt.c4 ∨ t.fed = false) ∧
  (∀ s : State, s.evt.c4.isSome = true → ∃ t, exec .porNAssert s = .next t ∧ t.evt.c4 = s.evt.c4 ∧ t.boot.state = .powerOk ∧ t.faultN = true) ∧
  (∀ s t : State, s.evt.c4.isSome = true → s.boot.state = .powerOk → step s = .next t →
    t.boot.state = .powerOk ∧ ((t.evt.c4 = s.evt.c4 ∧ t.faultN = true) ∨ t.fed = false))
end

