-- ==== Sys2Proof/Laws/Kept.lean ====
section
/-! SUPPORT. How the parts that hardly any command changes pass through updates, branches and folds. -/

namespace Sys2Proof.Machine.State

@[simp] theorem kept_mk (p fi nw ck rg fo lv ct lt bs fl pw bt ud rn pc cc dv ln hp lp ho lo pr fm dk ci po fr nf es ds cs pd en cn pa am lk ch cp ke
    le ti hb ev wd pp pm pe mp mi st dg) :
    State.kept ⟨p, fi, nw, ck, rg, fo, lv, ct, lt, bs, fl, pw, bt, ud, rn, pc, cc, dv, ln, hp, lp, ho, lo, pr, fm, dk, ci, po, fr, nf, es, ds,
      cs, pd, en, cn, pa, am, lk, ch, cp, ke, le, ti, hb, ev, wd, pp, pm, pe, mp, mi, st, dg⟩ = (p, fl, le.minSv) := rfl

@[simp] theorem kept_eta (s : State) : (s.pending, s.flash, s.lev.minSv) = s.kept := rfl

@[simp] theorem kept_ite {c : Prop} [Decidable c] (s t : State) : (if c then s else t).kept = if c then s.kept else t.kept := by
  split <;> rfl

@[simp] theorem kept_foldl {β : Type} {f : State → β → State} (h : ∀ t x, (f t x).kept = t.kept) (l : List β) (s : State) :
    (l.foldl f s).kept = s.kept := by
  induction l generalizing s with
  | nil => rfl
  | cons x r ih => exact (ih _).trans (h s x)

@[simp] theorem kept_foldl_snd {α β : Type} {f : α × State → β → α × State} (h : ∀ a x, (f a x).2.kept = a.2.kept) (l : List β)
    (a : α × State) : (l.foldl f a).2.kept = a.2.kept := by
  induction l generalizing a with
  | nil => rfl
  | cons x r ih => exact (ih _).trans (h a x)

@[simp] theorem kept_foldl_fst {α β : Type} {f : State × α → β → State × α} (h : ∀ a x, (f a x).1.kept = a.1.kept) (l : List β)
    (a : State × α) : (l.foldl f a).1.kept = a.1.kept := by
  induction l generalizing a with
  | nil => rfl
  | cons x r ih => exact (ih _).trans (h a x)

@[simp] theorem kept_repeat {f : State → State} (h : ∀ t, (f t).kept = t.kept) (n : Nat) (s : State) : (Nat.repeat f n s).kept = s.kept := by
  induction n generalizing s with
  | zero => rfl
  | succ n ih => exact (h _).trans (ih s)

theorem kept_foldl_opt {β : Type} {g : Option State → β → Option State} (h0 : ∀ x, g none x = none)
    (h : ∀ t x r, g (some t) x = some r → r.kept = t.kept) (l : List β) (s t : State) (e : l.foldl g (some s) = some t) : t.kept = s.kept := by
  induction l generalizing s with
  | nil => cases e; rfl
  | cons x r ih =>
    rw [List.foldl_cons] at e
    cases hx : g (some s) x with
    | none =>
      rw [hx] at e
      have : ∀ m : List β, m.foldl g none = none := by
        intro m
        induction m with
        | nil => rfl
        | cons y q iq => rw [List.foldl_cons, h0]; exact iq
      rw [this] at e
      cases e
    | some u => rw [hx] at e; exact (ih u e).trans (h s x u hx)

/-- What also the start of an image may change: the minimum security version rises. -/
def Rose (s t : State) : Prop := t.pending = s.pending ∧ t.flash = s.flash ∧ s.lev.minSv ≤ t.lev.minSv

theorem Rose.of {s t : State} (h : t.kept = s.kept) : Rose s t := by
  have h1 := congrArg Prod.fst h
  have h2 := congrArg (fun x => x.2.1) h
  have h3 := congrArg (fun x => x.2.2) h
  exact ⟨h1, h2, Nat.le_of_eq h3.symm⟩

theorem Rose.trans {s t u : State} (h : Rose s t) (g : Rose t u) : Rose s u :=
  ⟨g.1.trans h.1, g.2.1.trans h.2.1, Nat.le_trans h.2.2 g.2.2⟩

/-- More of what changes nothing of it. -/
theorem Rose.then_ {s t u : State} (h : Rose s t) (g : u.kept = t.kept) : Rose s u := h.trans (Rose.of g)

@[simp] theorem kept_setCond (l : Lev) (n : Nat) (b : Bool) : (l.setCond n b).minSv = l.minSv := rfl
@[simp] theorem kept_setFilter (l : Lev) (n : Nat) (f : TampFilter) : (l.setFilter n f).minSv = l.minSv := rfl
@[simp] theorem kept_write (l : Lev) (k n : Nat) (b : Bool) (d : Nat) : (l.write k n b d).minSv = l.minSv := rfl
@[simp] theorem kept_unfed (l : Lev) : (levUnfed l).minSv = l.minSv := by simp only [levUnfed]
@[simp] theorem kept_crystal (l : Lev) (n : Nat) : (l.crystal n).minSv = l.minSv := by unfold Lev.crystal; dsimp only; split <;> rfl
@[simp] theorem kept_secondTicks (l : Lev) : l.secondTicks.minSv = l.minSv := rfl
@[simp] theorem kept_levReset (l : Lev) : (levReset l).minSv = l.minSv := by
  rfl

end Sys2Proof.Machine.State
end

