-- ==== Sys2Proof/Laws/Tab.lean ====
section
/-! SUPPORT. The laws of tables: a read after a write, the other keys, and the canonical form kept. -/

namespace Sys2Proof.Tab

variable {α : Type}

@[simp] theorem find_nil (k : Nat) : find ([] : Tab α) k = none := rfl

@[simp] theorem find_ins_same (t : Tab α) (k : Nat) (v : α) : find (ins t k v) k = some v := by
  induction t with
  | nil => simp [ins, find]
  | cons e r ih =>
    obtain ⟨j, w⟩ := e
    simp only [ins]
    split
    · simp [find]
    · split
      · simp [find]
      · simp [find, *]

theorem find_ins_other (t : Tab α) {k m : Nat} (h : m ≠ k) (v : α) : find (ins t k v) m = find t m := by
  have h' : k ≠ m := fun e => h e.symm
  induction t with
  | nil => simp [ins, find, h']
  | cons e r ih =>
    obtain ⟨j, w⟩ := e
    simp only [ins]
    split
    · subst_vars; simp [find, h']
    · split
      · simp [find, h']
      · simp [find, ih]

@[simp] theorem find_del_same (t : Tab α) (k : Nat) : find (del t k) k = none := by
  induction t with
  | nil => rfl
  | cons e r ih =>
    obtain ⟨j, w⟩ := e
    simp only [del]
    split
    · exact ih
    · simp [find, *]

theorem find_del_other (t : Tab α) {k m : Nat} (h : m ≠ k) : find (del t k) m = find t m := by
  have h' : k ≠ m := fun e => h e.symm
  induction t with
  | nil => rfl
  | cons e r ih =>
    obtain ⟨j, w⟩ := e
    simp only [del]
    split
    · subst_vars; simp [find, h', ih]
    · simp [find, ih]

@[simp] theorem get_put_same [DecidableEq α] (d : Nat → α) (t : Tab α) (k : Nat) (v : α) : get d (put d t k v) k = v := by
  simp only [get, put]
  split
  · simp [*]
  · simp

theorem get_put_other [DecidableEq α] (d : Nat → α) (t : Tab α) {k m : Nat} (h : m ≠ k) (v : α) :
    get d (put d t k v) m = get d t m := by
  simp only [get, put]
  split
  · simp [find_del_other t h]
  · simp [find_ins_other t h]

/-- A read after a write, both cases at once. -/
theorem get_put [DecidableEq α] (d : Nat → α) (t : Tab α) (k m : Nat) (v : α) :
    get d (put d t k v) m = if m = k then v else get d t m := by
  split
  · subst_vars; simp
  · exact get_put_other d t ‹_› v

/-! ### The canonical form -/

theorem sorted_weaken (t : Tab α) {lo hi : Nat} (h : lo ≤ hi) (s : Sorted (some hi) t = true) : Sorted (some lo) t = true := by
  cases t with
  | nil => rfl
  | cons e r =>
    simp only [Sorted, Bool.and_eq_true, decide_eq_true_eq] at s ⊢
    exact ⟨by omega, s.2⟩

theorem sorted_none (t : Tab α) {lo : Nat} (s : Sorted (some lo) t = true) : Sorted none t = true := by
  cases t with
  | nil => rfl
  | cons e r =>
    simp only [Sorted, Bool.and_eq_true] at s ⊢
    exact ⟨trivial, s.2⟩

theorem sorted_del (t : Tab α) (k : Nat) {lo : Option Nat} (s : Sorted lo t = true) : Sorted lo (del t k) = true := by
  induction t generalizing lo with
  | nil => rfl
  | cons e r ih =>
    obtain ⟨j, w⟩ := e
    simp only [Sorted, Bool.and_eq_true] at s
    simp only [del]
    split
    · have := ih s.2
      cases lo with
      | none => exact sorted_none _ this
      | some l => exact sorted_weaken _ (by have := s.1; simp at this; omega) this
    · simp only [Sorted, Bool.and_eq_true]
      exact ⟨s.1, ih s.2⟩

theorem sorted_ins (t : Tab α) (k : Nat) (v : α) {lo : Option Nat} (s : Sorted lo t = true)
    (h : ∀ l, lo = some l → l < k) : Sorted lo (ins t k v) = true := by
  induction t generalizing lo with
  | nil =>
    cases lo with
    | none => rfl
    | some l => simp [ins, Sorted, h l rfl]
  | cons e r ih =>
    obtain ⟨j, w⟩ := e
    simp only [Sorted, Bool.and_eq_true] at s
    simp only [ins]
    split
    · subst_vars; simp only [Sorted, Bool.and_eq_true]; exact s
    · split
      · simp only [Sorted, Bool.and_eq_true, decide_eq_true_eq]
        refine ⟨?_, ‹_›, s.2⟩
        cases lo with
        | none => rfl
        | some l => simp [h l rfl]
      · simp only [Sorted, Bool.and_eq_true]
        exact ⟨s.1, ih s.2 (by intro l e; cases e; omega)⟩

theorem all_del (t : Tab α) (k : Nat) (p : Nat × α → Bool) (s : t.all p = true) : (del t k).all p = true := by
  induction t with
  | nil => rfl
  | cons e r ih =>
    obtain ⟨j, w⟩ := e
    simp only [List.all_cons, Bool.and_eq_true] at s
    simp only [del]
    split
    · exact ih s.2
    · simp [List.all_cons, s.1, ih s.2]

theorem all_ins (t : Tab α) (k : Nat) (v : α) (p : Nat × α → Bool) (s : t.all p = true) (h : p (k, v) = true) :
    (ins t k v).all p = true := by
  induction t with
  | nil => simp [ins, h]
  | cons e r ih =>
    obtain ⟨j, w⟩ := e
    simp only [List.all_cons, Bool.and_eq_true] at s
    simp only [ins]
    split
    · subst_vars; simp [List.all_cons, h, s.2]
    · split
      · simp [List.all_cons, h, s.1, s.2]
      · simp [List.all_cons, s.1, ih s.2]

/-- A write keeps the canonical form. -/
theorem wf_put [DecidableEq α] (d : Nat → α) (t : Tab α) (k : Nat) (v : α) (h : wf d t = true) : wf d (put d t k v) = true := by
  simp only [wf, Bool.and_eq_true] at h ⊢
  simp only [put]
  split
  · exact ⟨sorted_del t k h.1, all_del t k _ h.2⟩
  · exact ⟨sorted_ins t k v h.1 (by simp), all_ins t k v _ h.2 (by simpa using ‹¬v = d k›)⟩

/-- Writing several keys keeps the canonical form. -/
theorem wf_putAll [DecidableEq α] (d : Nat → α) (t : Tab α) (l : List (Nat × α)) (h : wf d t = true) :
    wf d (putAll d t l) = true := by
  induction l generalizing t with
  | nil => exact h
  | cons e r ih => exact ih _ (wf_put d t e.1 e.2 h)

end Sys2Proof.Tab
end

