-- ==== Sys2Proof/Laws/Flash.lean ====
section
/-! SUPPORT. The laws of the flash: a byte after a write and after an erase, and the canonical form kept. -/

namespace Sys2Proof.Tab

variable {α : Type}

theorem sorted_filter (p : Nat × α → Bool) (t : Tab α) {lo : Option Nat} (s : Sorted lo t = true) : Sorted lo (t.filter p) = true := by
  induction t generalizing lo with
  | nil => rfl
  | cons e r ih =>
    obtain ⟨j, w⟩ := e
    simp only [Sorted, Bool.and_eq_true] at s
    rw [List.filter_cons]
    split
    · simp only [Sorted, Bool.and_eq_true]
      exact ⟨s.1, ih s.2⟩
    · have := ih s.2
      cases lo with
      | none => exact sorted_none _ this
      | some l => exact sorted_weaken _ (by have := s.1; simp at this; omega) this

theorem wf_filter [DecidableEq α] (d : Nat → α) (p : Nat × α → Bool) (t : Tab α) (h : wf d t = true) : wf d (t.filter p) = true := by
  simp only [wf, Bool.and_eq_true, List.all_eq_true] at h ⊢
  exact ⟨sorted_filter p t h.1, fun x m => h.2 x (List.mem_filter.1 m).1⟩

theorem wf_nil [DecidableEq α] (d : Nat → α) : wf d [] = true := rfl

end Sys2Proof.Tab

namespace Sys2Proof.Machine

theorem Flash.wf_set (cells : List Host.Cell) (a : Nat) (b : Sys2Proof.Bytes) (h : Tab.wf (fun _ => 0xFF) cells = true) :
    Tab.wf (fun _ => 0xFF) (Flash.set cells a b) = true := by
  unfold Flash.set
  generalize List.range b.length = l
  induction l generalizing cells with
  | nil => exact h
  | cons x r ih => exact ih _ (Tab.wf_put _ _ _ _ h)

theorem Flash.wf_put (cells : List Host.Cell) (a : Nat) (b : Sys2Proof.Bytes) (h : Tab.wf (fun _ => 0xFF) cells = true) :
    Tab.wf (fun _ => 0xFF) (Flash.put cells a b) = true := Flash.wf_set _ _ _ h

theorem Flash.wf_erase (cells : List Host.Cell) (a n : Nat) (h : Tab.wf (fun _ => 0xFF) cells = true) :
    Tab.wf (fun _ => 0xFF) (Flash.erase cells a n) = true := Tab.wf_filter _ _ _ h

theorem Flash.at_set_other (cells : List Host.Cell) (a : Nat) (b : Sys2Proof.Bytes) {m : Nat} (h : m < a ∨ a + b.length ≤ m) :
    Flash.at (Flash.set cells a b) m = Flash.at cells m := by
  unfold Flash.set
  have : ∀ l : List Nat, (∀ i ∈ l, i < b.length) → ∀ t : List Host.Cell,
      Flash.at (l.foldl (fun t i => Tab.put (fun _ => (0xFF : BitVec 8)) t (a + i) (b.getD i 0)) t) m = Flash.at t m := by
    intro l
    induction l with
    | nil => intro _ _; rfl
    | cons x r ih =>
      intro hl t
      rw [List.foldl_cons, ih (fun i hi => hl i (List.mem_cons_of_mem _ hi))]
      have := hl x List.mem_cons_self
      exact Tab.get_put_other _ _ (by omega) _
  exact this _ (fun i hi => List.mem_range.1 hi) _

theorem Flash.at_set_same (cells : List Host.Cell) (a : Nat) (b : Sys2Proof.Bytes) {i : Nat} (h : i < b.length) :
    Flash.at (Flash.set cells a b) (a + i) = b.getD i 0 := by
  unfold Flash.set
  have : ∀ (n : Nat), n ≤ b.length → i < n →
      Flash.at ((List.range n).foldl (fun t i => Tab.put (fun _ => (0xFF : BitVec 8)) t (a + i) (b.getD i 0)) cells) (a + i) = b.getD i 0 := by
    intro n
    induction n with
    | zero => intro _ h; omega
    | succ n ih =>
      intro hn hi
      rw [List.range_succ, List.foldl_append]
      by_cases e : i = n
      · subst e; exact Tab.get_put_same _ _ _ _
      · have := ih (by omega) (by omega)
        exact (Tab.get_put_other _ _ (by omega) _).trans this
  exact this _ (Nat.le_refl _) h

theorem Flash.find_none {t : List Host.Cell} {lo k : Nat} (s : Tab.Sorted (some lo) t = true) (h : k ≤ lo) : Tab.find t k = none := by
  induction t generalizing lo with
  | nil => rfl
  | cons e r ih =>
    obtain ⟨j, w⟩ := e
    simp only [Tab.Sorted, Bool.and_eq_true, decide_eq_true_eq] at s
    simp only [Tab.find]
    rw [if_neg (by omega)]
    exact ih s.2 (by omega)

theorem Flash.at_drop {t : List Host.Cell} {lo : Option Nat} (s : Tab.Sorted lo t = true) (a m : Nat) (h : a ≤ m) :
    Flash.at (t.dropWhile (fun e => decide (e.1 < a))) m = Flash.at t m := by
  induction t generalizing lo with
  | nil => rfl
  | cons e r ih =>
    obtain ⟨j, w⟩ := e
    simp only [Tab.Sorted, Bool.and_eq_true] at s
    rw [List.dropWhile_cons]
    split
    · rename_i hj
      simp only [decide_eq_true_eq] at hj
      rw [ih s.2]
      simp only [Flash.at, Tab.get, Tab.find]
      rw [if_neg (by omega)]
    · rfl

theorem Flash.sorted_drop {t : List Host.Cell} {lo : Option Nat} (s : Tab.Sorted lo t = true) (a : Nat) :
    Tab.Sorted none (t.dropWhile (fun e => decide (e.1 < a))) = true := by
  induction t generalizing lo with
  | nil => rfl
  | cons e r ih =>
    have s' := s
    simp only [Tab.Sorted, Bool.and_eq_true] at s
    rw [List.dropWhile_cons]
    split
    · exact ih s.2
    · cases lo with
      | none => exact s'
      | some l => exact Tab.sorted_none _ s'

/-- A read of several bytes reads each of them. -/
theorem Flash.read_at {t : List Host.Cell} {lo : Option Nat} (s : Tab.Sorted lo t = true) (a n : Nat) :
    Flash.read t a n = (List.range n).map (fun i => Flash.at t (a + i)) := by
  induction n generalizing t lo a with
  | zero => rfl
  | succ n ih =>
    rw [Flash.read, List.range_succ_eq_map, List.map_cons, List.map_map]
    congr 1
    · rw [Nat.add_zero, ← Flash.at_drop s a a (Nat.le_refl _)]
      have hs := Flash.sorted_drop s a
      have hd : ∀ e r, t.dropWhile (fun e => decide (e.1 < a)) = e :: r → ¬ e.1 < a := by
        intro e r he
        have := List.head?_dropWhile_not (fun e : Host.Cell => decide (e.1 < a)) t
        rw [he] at this
        simpa using this
      revert hs hd
      generalize t.dropWhile (fun e => decide (e.1 < a)) = u
      intro hs hd
      cases u with
      | nil => rfl
      | cons e r =>
        have := hd e r rfl
        obtain ⟨j, w⟩ := e
        simp only [Flash.at, Tab.get, Tab.find]
        split
        · rfl
        · rename_i hne
          simp only [Tab.Sorted, Bool.and_eq_true] at hs
          rw [Flash.find_none hs.2 (by simp at this hne ⊢; omega)]
          rfl
    · rw [ih (Flash.sorted_drop s a)]
      apply List.map_congr_left
      intro i _
      show _ = Flash.at t (a + (i + 1))
      rw [Flash.at_drop s a _ (by omega)]
      congr 1
      omega

/-- What a change of the flash keeps: the queue, the minimum security version, and the flash's canonical form. -/
def State.Flashed (s t : State) : Prop := t.pending = s.pending ∧ t.lev.minSv = s.lev.minSv ∧ (s.flashOk = true → t.flashOk = true)

theorem State.Flashed.of {s t : State} (h : t.kept = s.kept) : State.Flashed s t := by
  have h2 : t.flash = s.flash := congrArg (fun x => x.2.1) h
  exact ⟨congrArg Prod.fst h, congrArg (fun x => x.2.2) h, fun g => by unfold State.flashOk at *; rw [h2]; exact g⟩

theorem State.Flashed.trans {s t u : State} (h : State.Flashed s t) (g : State.Flashed t u) : State.Flashed s u :=
  ⟨g.1.trans h.1, g.2.1.trans h.2.1, fun x => g.2.2 (h.2.2 x)⟩

theorem State.Flashed.then_ {s t u : State} (h : State.Flashed s t) (g : u.kept = t.kept) : State.Flashed s u := h.trans (.of g)

end Sys2Proof.Machine
end

