-- ==== Sys2Proof/Laws/Frame.lean ====
section
/-! SUPPORT. The laws of frames: reflexive, transitive, weakened, and carried through branches and folds. -/

namespace Sys2Proof.Machine.State

variable {s t u : State} {ps qs : List Part}

theorem Only.refl (ps : List Part) (s : State) : Only ps s s := by
  intro p _; cases p <;> rfl

theorem Only.trans (h : Only ps s t) (g : Only ps t u) : Only ps s u := by
  intro p hp
  have a := h p hp
  have b := g p hp
  cases p <;> exact Eq.trans b a

theorem Only.mono (h : Only ps s t) (m : ∀ p ∈ ps, p ∈ qs) : Only qs s t :=
  fun p hp => h p (fun q => hp (m p q))

theorem Only.ite {c : Prop} [Decidable c] (h : Only ps s t) (g : Only ps s u) : Only ps s (if c then t else u) := by
  split
  · exact h
  · exact g

theorem Only.foldl {β : Type} {f : State → β → State} (h : ∀ t x, Only ps t (f t x)) (l : List β) (s : State) :
    Only ps s (l.foldl f s) := by
  induction l generalizing s with
  | nil => exact Only.refl ps s
  | cons x r ih => exact Only.trans (h s x) (ih _)

/-- One more operation after `t`. -/
theorem Only.after (g : Only qs t u) (m : ∀ p ∈ qs, p ∈ ps) (h : Only ps s t) : Only ps s u := Only.trans h (Only.mono g m)

/-! ### One field more -/

theorem Only.freeIdx {x} (m : .freeIdx ∈ ps) (h : Only ps s t) : Only ps s { t with freeIdx := x } :=
  Only.trans h (by intro p hp; cases p <;> first | rfl | exact absurd m hp)

theorem Only.now {x} (m : .now ∈ ps) (h : Only ps s t) : Only ps s { t with now := x } :=
  Only.trans h (by intro p hp; cases p <;> first | rfl | exact absurd m hp)

theorem Only.clockOn {x} (m : .clockOn ∈ ps) (h : Only ps s t) : Only ps s { t with clockOn := x } :=
  Only.trans h (by intro p hp; cases p <;> first | rfl | exact absurd m hp)

theorem Only.regs {x} (m : .regs ∈ ps) (h : Only ps s t) : Only ps s { t with regs := x } :=
  Only.trans h (by intro p hp; cases p <;> first | rfl | exact absurd m hp)

theorem Only.inforce {x} (m : .inforce ∈ ps) (h : Only ps s t) : Only ps s { t with inforce := x } :=
  Only.trans h (by intro p hp; cases p <;> first | rfl | exact absurd m hp)

theorem Only.live {x} (m : .live ∈ ps) (h : Only ps s t) : Only ps s { t with live := x } :=
  Only.trans h (by intro p hp; cases p <;> first | rfl | exact absurd m hp)

theorem Only.ctr {x} (m : .ctr ∈ ps) (h : Only ps s t) : Only ps s { t with ctr := x } :=
  Only.trans h (by intro p hp; cases p <;> first | rfl | exact absurd m hp)

theorem Only.latch {x} (m : .latch ∈ ps) (h : Only ps s t) : Only ps s { t with latch := x } :=
  Only.trans h (by intro p hp; cases p <;> first | rfl | exact absurd m hp)

theorem Only.bus {x} (m : .bus ∈ ps) (h : Only ps s t) : Only ps s { t with bus := x } :=
  Only.trans h (by intro p hp; cases p <;> first | rfl | exact absurd m hp)

theorem Only.flash {x} (m : .flash ∈ ps) (h : Only ps s t) : Only ps s { t with flash := x } :=
  Only.trans h (by intro p hp; cases p <;> first | rfl | exact absurd m hp)

theorem Only.pwr {x} (m : .pwr ∈ ps) (h : Only ps s t) : Only ps s { t with pwr := x } :=
  Only.trans h (by intro p hp; cases p <;> first | rfl | exact absurd m hp)

theorem Only.boot {x} (m : .boot ∈ ps) (h : Only ps s t) : Only ps s { t with boot := x } :=
  Only.trans h (by intro p hp; cases p <;> first | rfl | exact absurd m hp)

theorem Only.upd {x} (m : .upd ∈ ps) (h : Only ps s t) : Only ps s { t with upd := x } :=
  Only.trans h (by intro p hp; cases p <;> first | rfl | exact absurd m hp)

theorem Only.run {x} (m : .run ∈ ps) (h : Only ps s t) : Only ps s { t with run := x } :=
  Only.trans h (by intro p hp; cases p <;> first | rfl | exact absurd m hp)

theorem Only.portPolicy {x} (m : .portPolicy ∈ ps) (h : Only ps s t) : Only ps s { t with portPolicy := x } :=
  Only.trans h (by intro p hp; cases p <;> first | rfl | exact absurd m hp)

theorem Only.channelPolicy {x} (m : .channelPolicy ∈ ps) (h : Only ps s t) : Only ps s { t with channelPolicy := x } :=
  Only.trans h (by intro p hp; cases p <;> first | rfl | exact absurd m hp)

theorem Only.devNumber {x} (m : .devNumber ∈ ps) (h : Only ps s t) : Only ps s { t with devNumber := x } :=
  Only.trans h (by intro p hp; cases p <;> first | rfl | exact absurd m hp)

theorem Only.lanes {x} (m : .lanes ∈ ps) (h : Only ps s t) : Only ps s { t with lanes := x } :=
  Only.trans h (by intro p hp; cases p <;> first | rfl | exact absurd m hp)

theorem Only.hostPorts {x} (m : .hostPorts ∈ ps) (h : Only ps s t) : Only ps s { t with hostPorts := x } :=
  Only.trans h (by intro p hp; cases p <;> first | rfl | exact absurd m hp)

theorem Only.linePorts {x} (m : .linePorts ∈ ps) (h : Only ps s t) : Only ps s { t with linePorts := x } :=
  Only.trans h (by intro p hp; cases p <;> first | rfl | exact absurd m hp)

theorem Only.hostOut {x} (m : .hostOut ∈ ps) (h : Only ps s t) : Only ps s { t with hostOut := x } :=
  Only.trans h (by intro p hp; cases p <;> first | rfl | exact absurd m hp)

theorem Only.lineOut {x} (m : .lineOut ∈ ps) (h : Only ps s t) : Only ps s { t with lineOut := x } :=
  Only.trans h (by intro p hp; cases p <;> first | rfl | exact absurd m hp)

theorem Only.pairs {x} (m : .pairs ∈ ps) (h : Only ps s t) : Only ps s { t with pairs := x } :=
  Only.trans h (by intro p hp; cases p <;> first | rfl | exact absurd m hp)

theorem Only.framers {x} (m : .framers ∈ ps) (h : Only ps s t) : Only ps s { t with framers := x } :=
  Only.trans h (by intro p hp; cases p <;> first | rfl | exact absurd m hp)

theorem Only.deskew {x} (m : .deskew ∈ ps) (h : Only ps s t) : Only ps s { t with deskew := x } :=
  Only.trans h (by intro p hp; cases p <;> first | rfl | exact absurd m hp)

theorem Only.circuits {x} (m : .circuits ∈ ps) (h : Only ps s t) : Only ps s { t with circuits := x } :=
  Only.trans h (by intro p hp; cases p <;> first | rfl | exact absurd m hp)

theorem Only.poolFree {x} (m : .poolFree ∈ ps) (h : Only ps s t) : Only ps s { t with poolFree := x } :=
  Only.trans h (by intro p hp; cases p <;> first | rfl | exact absurd m hp)

theorem Only.frames {x} (m : .frames ∈ ps) (h : Only ps s t) : Only ps s { t with frames := x } :=
  Only.trans h (by intro p hp; cases p <;> first | rfl | exact absurd m hp)

theorem Only.nextFrame {x} (m : .nextFrame ∈ ps) (h : Only ps s t) : Only ps s { t with nextFrame := x } :=
  Only.trans h (by intro p hp; cases p <;> first | rfl | exact absurd m hp)

theorem Only.encSeq {x} (m : .encSeq ∈ ps) (h : Only ps s t) : Only ps s { t with encSeq := x } :=
  Only.trans h (by intro p hp; cases p <;> first | rfl | exact absurd m hp)

theorem Only.decSeq {x} (m : .decSeq ∈ ps) (h : Only ps s t) : Only ps s { t with decSeq := x } :=
  Only.trans h (by intro p hp; cases p <;> first | rfl | exact absurd m hp)

theorem Only.cls {x} (m : .cls ∈ ps) (h : Only ps s t) : Only ps s { t with cls := x } :=
  Only.trans h (by intro p hp; cases p <;> first | rfl | exact absurd m hp)

theorem Only.polders {x} (m : .polders ∈ ps) (h : Only ps s t) : Only ps s { t with polders := x } :=
  Only.trans h (by intro p hp; cases p <;> first | rfl | exact absurd m hp)

theorem Only.engines {x} (m : .engines ∈ ps) (h : Only ps s t) : Only ps s { t with engines := x } :=
  Only.trans h (by intro p hp; cases p <;> first | rfl | exact absurd m hp)

theorem Only.counts {x} (m : .counts ∈ ps) (h : Only ps s t) : Only ps s { t with counts := x } :=
  Only.trans h (by intro p hp; cases p <;> first | rfl | exact absurd m hp)

theorem Only.pldAcc {x} (m : .pldAcc ∈ ps) (h : Only ps s t) : Only ps s { t with pldAcc := x } :=
  Only.trans h (by intro p hp; cases p <;> first | rfl | exact absurd m hp)

theorem Only.arbMax {x} (m : .arbMax ∈ ps) (h : Only ps s t) : Only ps s { t with arbMax := x } :=
  Only.trans h (by intro p hp; cases p <;> first | rfl | exact absurd m hp)

theorem Only.lkp {x} (m : .lkp ∈ ps) (h : Only ps s t) : Only ps s { t with lkp := x } :=
  Only.trans h (by intro p hp; cases p <;> first | rfl | exact absurd m hp)

theorem Only.chn {x} (m : .chn ∈ ps) (h : Only ps s t) : Only ps s { t with chn := x } :=
  Only.trans h (by intro p hp; cases p <;> first | rfl | exact absurd m hp)

theorem Only.cph {x} (m : .cph ∈ ps) (h : Only ps s t) : Only ps s { t with cph := x } :=
  Only.trans h (by intro p hp; cases p <;> first | rfl | exact absurd m hp)

theorem Only.key {x} (m : .key ∈ ps) (h : Only ps s t) : Only ps s { t with key := x } :=
  Only.trans h (by intro p hp; cases p <;> first | rfl | exact absurd m hp)

theorem Only.lev {x} (m : .lev ∈ ps) (h : Only ps s t) : Only ps s { t with lev := x } :=
  Only.trans h (by intro p hp; cases p <;> first | rfl | exact absurd m hp)

theorem Only.tim {x} (m : .tim ∈ ps) (h : Only ps s t) : Only ps s { t with tim := x } :=
  Only.trans h (by intro p hp; cases p <;> first | rfl | exact absurd m hp)

theorem Only.hbm {x} (m : .hbm ∈ ps) (h : Only ps s t) : Only ps s { t with hbm := x } :=
  Only.trans h (by intro p hp; cases p <;> first | rfl | exact absurd m hp)

theorem Only.evt {x} (m : .evt ∈ ps) (h : Only ps s t) : Only ps s { t with evt := x } :=
  Only.trans h (by intro p hp; cases p <;> first | rfl | exact absurd m hp)

theorem Only.wrd {x} (m : .wrd ∈ ps) (h : Only ps s t) : Only ps s { t with wrd := x } :=
  Only.trans h (by intro p hp; cases p <;> first | rfl | exact absurd m hp)

theorem Only.pp {x} (m : .pp ∈ ps) (h : Only ps s t) : Only ps s { t with pp := x } :=
  Only.trans h (by intro p hp; cases p <;> first | rfl | exact absurd m hp)

theorem Only.pmu {x} (m : .pmu ∈ ps) (h : Only ps s t) : Only ps s { t with pmu := x } :=
  Only.trans h (by intro p hp; cases p <;> first | rfl | exact absurd m hp)

theorem Only.pcie {x} (m : .pcie ∈ ps) (h : Only ps s t) : Only ps s { t with pcie := x } :=
  Only.trans h (by intro p hp; cases p <;> first | rfl | exact absurd m hp)

theorem Only.mbxPcie {x} (m : .mbxPcie ∈ ps) (h : Only ps s t) : Only ps s { t with mbxPcie := x } :=
  Only.trans h (by intro p hp; cases p <;> first | rfl | exact absurd m hp)

theorem Only.mbxI2c {x} (m : .mbxI2c ∈ ps) (h : Only ps s t) : Only ps s { t with mbxI2c := x } :=
  Only.trans h (by intro p hp; cases p <;> first | rfl | exact absurd m hp)

theorem Only.stw {x} (m : .stw ∈ ps) (h : Only ps s t) : Only ps s { t with stw := x } :=
  Only.trans h (by intro p hp; cases p <;> first | rfl | exact absurd m hp)

theorem Only.dbg {x} (m : .dbg ∈ ps) (h : Only ps s t) : Only ps s { t with dbg := x } :=
  Only.trans h (by intro p hp; cases p <;> first | rfl | exact absurd m hp)

end Sys2Proof.Machine.State
end

