-- ==== Sys2Proof/Laws/KeptBase.lean ====
section
/-! SUPPORT. What the shared operations, accesses, cells, links, mailboxes, units and the clock keep: the queue, the flash and the minimum security version. -/

namespace Sys2Proof.Machine.State

/-! ### Machine/Ops.lean -/

@[simp] theorem setReg_kept (s : State) (x1) (x2) : (setReg s x1 x2).kept = s.kept := by
  unfold State.setReg
  repeat' split
  all_goals simp_all

@[simp] theorem setField_kept (s : State) (x1) (x2) (x3) (x4) : (setField s x1 x2 x3 x4).kept = s.kept := by
  unfold State.setField
  repeat' split
  all_goals simp_all

@[simp] theorem msixCall_kept (s : State) (x1) : (msixCall s x1).kept = s.kept := by
  unfold State.msixCall
  repeat' split
  all_goals simp_all

@[simp] theorem pend_kept (s : State) (x1) : (pend s x1).kept = s.kept := by
  unfold State.pend
  repeat' split
  all_goals simp_all

@[simp] theorem stand_kept (s : State) (x1) (x2) (x3) (x4) (x5) : (stand s x1 x2 x3 x4 x5).kept = s.kept := by
  rfl

@[simp] theorem add_kept (s : State) (x1) (x2) : (add s x1 x2).kept = s.kept := by
  unfold State.add
  repeat' split
  all_goals simp_all

@[simp] theorem bump_kept (s : State) (x1) : (bump s x1).kept = s.kept := by
  unfold State.bump
  repeat' split
  all_goals simp_all

@[simp] theorem orReg_kept (s : State) (x1) (x2) : (orReg s x1 x2).kept = s.kept := by
  unfold State.orReg
  repeat' split
  all_goals simp_all

@[simp] theorem histWrite_kept (s : State) (x1) : (histWrite s x1).kept = s.kept := by
  unfold State.histWrite
  repeat' split
  all_goals simp_all

@[simp] theorem deliverCore_kept (s : State) (x1) (x2) (x3) (x4) (x5) (x6) (x7) : (deliverCore s x1 x2 x3 x4 x5 x6 x7).kept = s.kept := by
  unfold State.deliverCore
  iterate 3 (all_goals (repeat' split); all_goals (try simp_all))

@[simp] theorem uncountOut_kept (s : State) (x1) (x2) (x3) : (uncountOut s x1 x2 x3).kept = s.kept := by
  unfold State.uncountOut
  repeat' split
  all_goals simp_all

@[simp] theorem setPortOut_kept (s : State) (x1) (x2) (x3) : (setPortOut s x1 x2 x3).kept = s.kept := by
  unfold State.setPortOut
  repeat' split
  all_goals simp_all

@[simp] theorem setChIndex_kept (s : State) (x1) (x2) (x3) : (setChIndex s x1 x2 x3).kept = s.kept := by
  unfold State.setChIndex
  repeat' split
  all_goals simp_all

@[simp] theorem setRecord_kept (s : State) (x1) (x2) : (setRecord s x1 x2).kept = s.kept := by
  unfold State.setRecord
  repeat' split
  all_goals simp_all

@[simp] theorem unprotect_kept (s : State) (x1) : (unprotect s x1).kept = s.kept := by
  unfold State.unprotect
  iterate 3 (all_goals (repeat' split); all_goals (try simp_all))

@[simp] theorem raiseLow_kept (s : State) (x1) (x2) (x3) (x4) : (raiseLow s x1 x2 x3 x4).kept = s.kept := by
  unfold State.raiseLow
  repeat' split
  all_goals simp_all

@[simp] theorem tsqPut_kept (s : State) (x1) : (tsqPut s x1).kept = s.kept := by
  unfold State.tsqPut
  repeat' split
  all_goals simp_all

@[simp] theorem stompOn_kept (s : State) (x1) (x2) : (stompOn s x1 x2).kept = s.kept := by
  unfold State.stompOn
  repeat' split
  all_goals simp_all

@[simp] theorem stomp_kept (s : State) (x1) : (stomp s x1).kept = s.kept := by
  unfold State.stomp
  repeat' split
  all_goals simp_all

@[simp] theorem tsDropped_kept (s : State) (x1) : (tsDropped s x1).kept = s.kept := by
  unfold State.tsDropped
  repeat' split
  all_goals simp_all

@[simp] theorem setEngine_kept (s : State) (x1) (x2) : (setEngine s x1 x2).kept = s.kept := by
  unfold State.setEngine
  repeat' split
  all_goals simp_all

@[simp] theorem freeCtx_kept (s : State) (x1) : (freeCtx s x1).kept = s.kept := by
  unfold State.freeCtx
  repeat' split
  all_goals simp_all

@[simp] theorem setFrame_kept (s : State) (x1) (x2) : (setFrame s x1 x2).kept = s.kept := by
  unfold State.setFrame
  repeat' split
  all_goals simp_all

@[simp] theorem delFrame_kept (s : State) (x1) (x2) : (delFrame s x1 x2).kept = s.kept := by
  unfold State.delFrame
  repeat' split
  all_goals simp_all

@[simp] theorem dismiss_kept (s : State) (x1) (x2) : (dismiss s x1 x2).kept = s.kept := by
  unfold State.dismiss
  repeat' split
  all_goals simp_all

@[simp] theorem dropFrame_kept (s : State) (x1) (x2) : (dropFrame s x1 x2).kept = s.kept := by
  unfold State.dropFrame
  repeat' split
  all_goals simp_all

@[simp] theorem dropWhere_kept (s : State) (x1) (x2) : (dropWhere s x1 x2).kept = s.kept := by
  unfold State.dropWhere
  repeat' split
  all_goals simp_all

@[simp] theorem endOutputOn_kept (s : State) (x1) (x2) (x3) : (endOutputOn s x1 x2 x3).kept = s.kept := by
  unfold State.endOutputOn
  repeat' split
  all_goals simp_all

@[simp] theorem endOutput_kept (s : State) (x1) (x2) : (endOutput s x1 x2).kept = s.kept := by
  unfold State.endOutput
  repeat' split
  all_goals simp_all

@[simp] theorem endBoth_kept (s : State) (x1) (x2) (x3) : (endBoth s x1 x2 x3).kept = s.kept := by
  unfold State.endBoth
  repeat' split
  all_goals simp_all

@[simp] theorem endOutputs_kept (s : State) : (endOutputs s).kept = s.kept := by
  unfold State.endOutputs
  repeat' split
  all_goals simp_all

@[simp] theorem raisePad_kept (s : State) (x1) (x2) : (raisePad s x1 x2).kept = s.kept := by
  unfold State.raisePad
  iterate 3 (all_goals (repeat' split); all_goals (try simp_all))

@[simp] theorem trunkPut_kept (s : State) (x1) (x2) : (trunkPut s x1 x2).kept = s.kept := by
  unfold State.trunkPut
  repeat' split
  all_goals simp_all

@[simp] theorem framerSend_kept (s : State) (x1) (x2) : (framerSend s x1 x2).kept = s.kept := by
  unfold State.framerSend
  repeat' split
  all_goals simp_all

@[simp] theorem controlSend_kept (s : State) (x1) (x2) : (controlSend s x1 x2).kept = s.kept := by
  unfold State.controlSend
  repeat' split
  all_goals simp_all

@[simp] theorem roleChange_kept (s : State) (x1) (x2) : (roleChange s x1 x2).kept = s.kept := by
  unfold State.roleChange
  repeat' split
  all_goals simp_all

@[simp] theorem fatalYield_kept (s : State) (x1) : (fatalYield s x1).kept = s.kept := by
  unfold State.fatalYield
  repeat' split
  all_goals simp_all

@[simp] theorem latchC4_kept (s : State) (x1) : (latchC4 s x1).kept = s.kept := by
  unfold State.latchC4
  repeat' split
  all_goals simp_all

@[simp] theorem deliver_kept (s : State) (x1) (x2) (x3) (x4) (x5) (x6) (x7) : (deliver s x1 x2 x3 x4 x5 x6 x7).kept = s.kept := by
  unfold State.deliver
  repeat' split
  all_goals simp_all

@[simp] theorem raise_kept (s : State) (x1) (x2) (x3) (x4) : (raise s x1 x2 x3 x4).kept = s.kept := by
  unfold State.raise
  repeat' split
  all_goals simp_all

@[simp] theorem cause_kept (s : State) (x1) (x2) (x3) (x4) (x5) : (cause s x1 x2 x3 x4 x5).kept = s.kept := by
  unfold State.cause
  repeat' split
  all_goals simp_all

@[simp] theorem capture_kept (s : State) (x1) (x2) : (capture s x1 x2).kept = s.kept := by
  unfold State.capture
  repeat' split
  all_goals simp_all

@[simp] theorem setRegs_kept (s : State) (x1) : (setRegs s x1).kept = s.kept := by
  unfold State.setRegs
  repeat' split
  all_goals simp_all

@[simp] theorem setWords_kept (s : State) (x1) (x2) : (setWords s x1 x2).kept = s.kept := by
  unfold State.setWords
  repeat' split
  all_goals simp_all

@[simp] theorem setMbx_kept (s : State) (x1) (x2) : (setMbx s x1 x2).kept = s.kept := by
  unfold State.setMbx
  repeat' split
  all_goals simp_all

@[simp] theorem fresh_kept (s : State) : (fresh s).2.kept = s.kept := by
  unfold State.fresh
  repeat' split
  all_goals simp_all

theorem fresh_to {s : State}  {r} (h : fresh s = r) : r.2.kept = s.kept := h ▸ fresh_kept s

@[simp] theorem accErr_kept (s : State) : (accErr s).kept = s.kept := by
  unfold State.accErr
  repeat' split
  all_goals simp_all

@[simp] theorem setLane_kept (s : State) (x1) (x2) : (setLane s x1 x2).kept = s.kept := by
  unfold State.setLane
  repeat' split
  all_goals simp_all

@[simp] theorem addReg_kept (s : State) (x1) (x2) : (addReg s x1 x2).kept = s.kept := by
  unfold State.addReg
  repeat' split
  all_goals simp_all

@[simp] theorem setBase_kept (s : State) (x1) (x2) : (setBase s x1 x2).kept = s.kept := by
  unfold State.setBase
  repeat' split
  all_goals simp_all

@[simp] theorem setFramer_kept (s : State) (x1) (x2) : (setFramer s x1 x2).kept = s.kept := by
  unfold State.setFramer
  repeat' split
  all_goals simp_all

@[simp] theorem setCircuit_kept (s : State) (x1) (x2) : (setCircuit s x1 x2).kept = s.kept := by
  unfold State.setCircuit
  repeat' split
  all_goals simp_all

@[simp] theorem setPort_kept (s : State) (x1) (x2) (x3) : (setPort s x1 x2 x3).kept = s.kept := by
  unfold State.setPort
  repeat' split
  all_goals simp_all

@[simp] theorem setPolder_kept (s : State) (x1) (x2) : (setPolder s x1 x2).kept = s.kept := by
  unfold State.setPolder
  repeat' split
  all_goals simp_all

@[simp] theorem pmuAdd_kept (s : State) (x1) (x2) : (pmuAdd s x1 x2).kept = s.kept := by
  unfold State.pmuAdd
  repeat' split
  all_goals simp_all

@[simp] theorem pmuCount_kept (s : State) (x1) (x2) (x3) (x4) : (pmuCount s x1 x2 x3 x4).kept = s.kept := by
  unfold State.pmuCount
  repeat' split
  all_goals simp_all

@[simp] theorem sampleLost_kept (s : State) : (sampleLost s).kept = s.kept := by
  unfold State.sampleLost
  repeat' split
  all_goals simp_all

@[simp] theorem ringThreshold_kept (s : State) : (ringThreshold s).kept = s.kept := by
  unfold State.ringThreshold
  repeat' split
  all_goals simp_all

@[simp] theorem ringPut_kept (s : State) (x1) : (ringPut s x1).kept = s.kept := by
  unfold State.ringPut
  repeat' split
  all_goals simp_all

@[simp] theorem sample_kept (s : State) (x1) (x2) (x3) (x4) (x5) : (sample s x1 x2 x3 x4 x5).kept = s.kept := by
  unfold State.sample
  repeat' split
  all_goals simp_all

@[simp] theorem captureWith_kept (s : State) (x1) (x2) (x3) : (captureWith s x1 x2 x3).kept = s.kept := by
  unfold State.captureWith
  repeat' split
  all_goals simp_all

@[simp] theorem stopRefused_kept (s : State) (x1) : (stopRefused s x1).kept = s.kept := by
  unfold State.stopRefused
  repeat' split
  all_goals simp_all

@[simp] theorem clearCtr_kept (s : State) (x1) (x2) : (clearCtr s x1 x2).kept = s.kept := by
  unfold State.clearCtr
  repeat' split
  all_goals simp_all

@[simp] theorem clearRegs_kept (s : State) (x1) (x2) : (clearRegs s x1 x2).kept = s.kept := by
  unfold State.clearRegs
  repeat' split
  all_goals simp_all

@[simp] theorem suppress_kept (s : State) (x1) (x2) : (suppress s x1 x2).kept = s.kept := by
  unfold State.suppress
  repeat' split
  all_goals simp_all

@[simp] theorem etherPut_kept (s : State) (x1) (x2) (x3) : (etherPut s x1 x2 x3).kept = s.kept := by
  unfold State.etherPut
  repeat' split
  all_goals simp_all

@[simp] theorem setPair_kept (s : State) (x1) (x2) : (setPair s x1 x2).kept = s.kept := by
  unfold State.setPair
  repeat' split
  all_goals simp_all

@[simp] theorem dropPairRemoved_kept (s : State) (x1) : (dropPairRemoved s x1).kept = s.kept := by
  unfold State.dropPairRemoved
  repeat' split
  all_goals simp_all

/-! ### Machine/Access.lean -/

@[simp] theorem answer_kept (s : State) (x1) : (answer s x1).kept = s.kept := by
  unfold State.answer
  repeat' split
  all_goals simp_all

@[simp] theorem letIn_kept (s : State) (x1) (x2) (hx2 : ∀ t, (x2 t).kept = t.kept) : (letIn s x1 x2).kept = s.kept := by
  unfold State.letIn
  repeat' split
  all_goals simp_all [hx2]

@[simp] theorem wr_kept (s : State) (x1) (x2) (x3) (hx3 : ∀ t, (x3 t).kept = t.kept) : (wr s x1 x2 x3).kept = s.kept := by
  unfold State.wr
  repeat' split
  all_goals simp_all [hx3]

@[simp] theorem setLatch_kept (s : State) (x1) (x2) (x3) : (setLatch s x1 x2 x3).kept = s.kept := by
  unfold State.setLatch
  repeat' split
  all_goals simp_all

@[simp] theorem readReg_kept (s : State) (x1) (x2) : (readReg s x1 x2).2.kept = s.kept := by
  unfold State.readReg
  iterate 3 (all_goals (repeat' split); all_goals (try simp_all))

theorem readReg_to {s : State} {x1} {x2} {r} (h : readReg s x1 x2 = r) : r.2.kept = s.kept := h ▸ readReg_kept s x1 x2

@[simp] theorem busRead_kept (s : State) (x1) (x2) : (busRead s x1 x2).kept = s.kept := by
  unfold State.busRead
  iterate 3 (all_goals (repeat' split); all_goals (try simp_all))
  all_goals (first | done | (have h := readReg_to (by assumption); simp_all))

@[simp] theorem shadow_kept (s : State) (x1) (x2) : (shadow s x1 x2).kept = s.kept := by
  unfold State.shadow
  repeat' split
  all_goals simp_all

@[simp] theorem storeReg_kept (s : State) (x1) (x2) : (storeReg s x1 x2).kept = s.kept := by
  unfold State.storeReg
  repeat' split
  all_goals simp_all

@[simp] theorem clearCounts_kept (s : State) (x1) : (clearCounts s x1).kept = s.kept := by
  unfold State.clearCounts
  repeat' split
  all_goals simp_all

@[simp] theorem rd_kept (s : State) (x1) (x2) : (rd s x1 x2).kept = s.kept := by
  unfold State.rd
  repeat' split
  all_goals simp_all

/-! ### Machine/Secrets.lean -/

@[simp] theorem keyCause_kept (s : State) (x1) (x2) : (keyCause s x1 x2).kept = s.kept := by
  unfold State.keyCause
  repeat' split
  all_goals simp_all

@[simp] theorem keyBump_kept (s : State) (x1) : (keyBump s x1).kept = s.kept := by
  unfold State.keyBump
  repeat' split
  all_goals simp_all

@[simp] theorem cellFault_kept (s : State) (x1) (x2) : (cellFault s x1 x2).kept = s.kept := by
  unfold State.cellFault
  repeat' split
  all_goals simp_all

@[simp] theorem entropy_kept (s : State) (x1) : (entropy s x1).2.kept = s.kept := by
  unfold State.entropy
  repeat' split
  all_goals simp_all
  all_goals (first | done | (have h := fresh_to (by assumption); simp_all))

theorem entropy_to {s : State} {x1} {r} (h : entropy s x1 = r) : r.2.kept = s.kept := h ▸ entropy_kept s x1

@[simp] theorem reseed_kept (s : State) : (reseed s).kept = s.kept := by
  unfold State.reseed
  repeat' split
  all_goals simp_all
  all_goals (first | done | (have h := entropy_to (by assumption); simp_all))

@[simp] theorem draw_kept (s : State) (x1) : (draw s x1).2.kept = s.kept := by
  unfold State.draw
  iterate 3 (all_goals (repeat' split); all_goals (try simp_all))
  all_goals (first | done | (have h := fresh_to (by assumption); simp_all))

theorem draw_to {s : State} {x1} {r} (h : draw s x1 = r) : r.2.kept = s.kept := h ▸ draw_kept s x1

@[simp] theorem newCell_kept (s : State) (x1) : (newCell s x1).2.kept = s.kept := by
  unfold State.newCell
  repeat' split
  all_goals simp_all
  all_goals (first | done | (have h := draw_to (by assumption); simp_all))

theorem newCell_to {s : State} {x1} {r} (h : newCell s x1 = r) : r.2.kept = s.kept := h ▸ newCell_kept s x1

@[simp] theorem deviceFault_kept (s : State) : (deviceFault s).kept = s.kept := by
  unfold State.deviceFault
  repeat' split
  all_goals simp_all

@[simp] theorem seedDrbg_kept (s : State) : (seedDrbg s).kept = s.kept := by
  unfold State.seedDrbg
  repeat' split
  all_goals simp_all
  all_goals (first | done | (have h := entropy_to (by assumption); simp_all))

/-! ### Machine/Links.lean -/

@[simp] theorem framerCause_kept (s : State) (x1) (x2) (x3) (x4) : (framerCause s x1 x2 x3 x4).kept = s.kept := by
  unfold State.framerCause
  repeat' split
  all_goals simp_all

@[simp] theorem leaveSync_kept (s : State) (x1) (x2) (x3) : (leaveSync s x1 x2 x3).kept = s.kept := by
  unfold State.leaveSync
  repeat' split
  all_goals simp_all

@[simp] theorem framerFollow_kept (s : State) (x1) : (framerFollow s x1).kept = s.kept := by
  unfold State.framerFollow
  repeat' split
  all_goals simp_all

@[simp] theorem portCause_kept (s : State) (x1) (x2) (x3) (x4) : (portCause s x1 x2 x3 x4).kept = s.kept := by
  unfold State.portCause
  repeat' split
  all_goals simp_all

@[simp] theorem portFollow_kept (s : State) (x1) (x2) (x3) : (portFollow s x1 x2 x3).kept = s.kept := by
  unfold State.portFollow
  repeat' split
  all_goals simp_all

@[simp] theorem laneFollow_kept (s : State) (x1) (x2) : (laneFollow s x1 x2).kept = s.kept := by
  unfold State.laneFollow
  repeat' split
  all_goals simp_all

@[simp] theorem streamStop_kept (s : State) (x1) : (streamStop s x1).kept = s.kept := by
  unfold State.streamStop
  repeat' split
  all_goals simp_all

@[simp] theorem setStage_kept (s : State) (x1) (x2) : (setStage s x1 x2).kept = s.kept := by
  unfold State.setStage
  repeat' split
  all_goals simp_all

@[simp] theorem dozeLane_kept (s : State) (x1) : (dozeLane s x1).kept = s.kept := by
  unfold State.dozeLane
  repeat' split
  all_goals simp_all

@[simp] theorem dozePair_kept (s : State) (x1) : (dozePair s x1).kept = s.kept := by
  unfold State.dozePair
  repeat' split
  all_goals simp_all

@[simp] theorem pipeNeed_kept (s : State) (x1) : (pipeNeed s x1).kept = s.kept := by
  unfold State.pipeNeed
  repeat' split
  all_goals simp_all

@[simp] theorem polderNeed_kept (n) (a : Nat × State) (p) : (polderNeed n a p).2.kept = a.2.kept := by
  unfold State.polderNeed
  iterate 3 (all_goals (repeat' split); all_goals (try simp_all))

@[simp] theorem wakeUnits_kept (s : State) : (wakeUnits s).kept = s.kept := by
  unfold State.wakeUnits
  iterate 3 (all_goals (repeat' split); all_goals (try simp_all))

@[simp] theorem fit48_kept (s : State) : (fit48 s).kept = s.kept := by
  unfold State.fit48
  repeat' split
  all_goals simp_all

@[simp] theorem settle_kept (s : State) : (settle s).kept = s.kept := by
  unfold State.settle
  repeat' split
  all_goals simp_all

@[simp] theorem framerPort_kept (s : State) (x1) (x2) : (framerPort s x1 x2).kept = s.kept := by
  unfold State.framerPort
  repeat' split
  all_goals simp_all

@[simp] theorem moveLane_kept (s : State) (x1) (x2) (x3) : (moveLane s x1 x2 x3).kept = s.kept := by
  unfold State.moveLane
  repeat' split
  all_goals simp_all

@[simp] theorem dropLanePair_kept (s : State) (x1) : (dropLanePair s x1).kept = s.kept := by
  unfold State.dropLanePair
  repeat' split
  all_goals simp_all

@[simp] theorem holdSide_kept (s : State) (x1) : (holdSide s x1).kept = s.kept := by
  unfold State.holdSide
  repeat' split
  all_goals simp_all

@[simp] theorem laneCause_kept (s : State) (x1) (x2) (x3) : (laneCause s x1 x2 x3).kept = s.kept := by
  unfold State.laneCause
  repeat' split
  all_goals simp_all

@[simp] theorem removePort_kept (s : State) (x1) (x2) (x3) : (removePort s x1 x2 x3).kept = s.kept := by
  unfold State.removePort
  repeat' split
  all_goals simp_all

@[simp] theorem removeLane_kept (s : State) (x1) (x2) : (removeLane s x1 x2).kept = s.kept := by
  unfold State.removeLane
  iterate 3 (all_goals (repeat' split); all_goals (try simp_all))

@[simp] theorem unitsWoken_kept (s : State) : (unitsWoken s).kept = s.kept := by
  unfold State.unitsWoken
  repeat' split
  all_goals simp_all

@[simp] theorem loopFrom_kept (s : State) (x1) (x2) : (loopFrom s x1 x2).kept = s.kept := by
  unfold State.loopFrom
  repeat' split
  all_goals simp_all

@[simp] theorem laneDown_kept (s : State) (x1) (x2) : (laneDown s x1 x2).kept = s.kept := by
  unfold State.laneDown
  repeat' split
  all_goals simp_all

@[simp] theorem laneUp_kept (s : State) (x1) : (laneUp s x1).kept = s.kept := by
  unfold State.laneUp
  repeat' split
  all_goals simp_all

@[simp] theorem retireLane_kept (s : State) (x1) : (retireLane s x1).kept = s.kept := by
  unfold State.retireLane
  iterate 3 (all_goals (repeat' split); all_goals (try simp_all))

/-! ### Machine/Mail.lean -/

@[simp] theorem mbxAnswer_kept (s : State) (x1) (x2) (x3) (x4) : (mbxAnswer s x1 x2 x3 x4).kept = s.kept := by
  unfold State.mbxAnswer
  repeat' split
  all_goals simp_all

/-! ### Machine/Units.lean -/

@[simp] theorem coldReset_kept (s : State) (x1) : (coldReset s x1).kept = s.kept := by
  unfold State.coldReset
  repeat' split
  all_goals simp_all

@[simp] theorem cphCause_kept (s : State) (x1) (x2) (x3) : (cphCause s x1 x2 x3).kept = s.kept := by
  unfold State.cphCause
  repeat' split
  all_goals simp_all

@[simp] theorem takeBack_kept (s : State) (x1) (x2) : (takeBack s x1 x2).kept = s.kept := by
  unfold State.takeBack
  repeat' split
  all_goals simp_all

@[simp] theorem dropEngines_kept (s : State) (x1) : (dropEngines s x1).kept = s.kept := by
  unfold State.dropEngines
  iterate 3 (all_goals (repeat' split); all_goals (try simp_all))
  all_goals (iterate 2 first | refine (kept_foldl (fun t x => ?_) _ _).trans ?_ | refine (kept_foldl_snd (fun t x => ?_) _ _).trans ?_ | skip)
  iterate 3 (all_goals (repeat' split); all_goals (try simp_all))

@[simp] theorem engineOut_kept (s : State) (x1) : (engineOut s x1).kept = s.kept := by
  unfold State.engineOut
  repeat' split
  all_goals simp_all

@[simp] theorem pipeDrop_kept (s : State) (x1) : (pipeDrop s x1).kept = s.kept := by
  unfold State.pipeDrop
  repeat' split
  all_goals simp_all

@[simp] theorem pipesOut_kept (s : State) (x1) (x2) : (pipesOut s x1 x2).kept = s.kept := by
  unfold State.pipesOut
  iterate 3 (all_goals (repeat' split); all_goals (try simp_all))
  all_goals (iterate 2 first | refine (kept_foldl (fun t x => ?_) _ _).trans ?_ | refine (kept_foldl_snd (fun t x => ?_) _ _).trans ?_ | skip)
  iterate 3 (all_goals (repeat' split); all_goals (try simp_all))

@[simp] theorem warmBase_kept (s : State) : (warmBase s).kept = s.kept := by
  unfold State.warmBase
  repeat' split
  all_goals simp_all

@[simp] theorem warmDrop_kept (s : State) : (warmDrop s).kept = s.kept := by
  unfold State.warmDrop
  repeat' split
  all_goals simp_all

@[simp] theorem warmReset_kept (s : State) : (warmReset s).kept = s.kept := by
  unfold State.warmReset
  repeat' split
  all_goals simp_all

@[simp] theorem pldCause_kept (s : State) (x1) (x2) (x3) : (pldCause s x1 x2 x3).kept = s.kept := by
  unfold State.pldCause
  repeat' split
  all_goals simp_all

@[simp] theorem polderOut_kept (s : State) (x1) (x2) : (polderOut s x1 x2).kept = s.kept := by
  unfold State.polderOut
  repeat' split
  all_goals simp_all

@[simp] theorem removeGroup_kept (s : State) (x1) : (removeGroup s x1).kept = s.kept := by
  unfold State.removeGroup
  repeat' split
  all_goals simp_all

@[simp] theorem removePolder_kept (s : State) (x1) : (removePolder s x1).kept = s.kept := by
  unfold State.removePolder
  repeat' split
  all_goals simp_all

@[simp] theorem removeEngine_kept (s : State) (x1) : (removeEngine s x1).kept = s.kept := by
  unfold State.removeEngine
  repeat' split
  all_goals simp_all

/-! ### Machine/Clock.lean -/

@[simp] theorem timCause_kept (s : State) (x1) (x2) : (timCause s x1 x2).kept = s.kept := by
  unfold State.timCause
  repeat' split
  all_goals simp_all

@[simp] theorem pulseSkipped_kept (s : State) (x1) : (pulseSkipped s x1).kept = s.kept := by
  unfold State.pulseSkipped
  repeat' split
  all_goals simp_all

@[simp] theorem setPulse_kept (s : State) (x1) (x2) : (setPulse s x1 x2).kept = s.kept := by
  unfold State.setPulse
  repeat' split
  all_goals simp_all

@[simp] theorem pulseJump_kept (s : State) (x1) (x2) : (pulseJump s x1 x2).kept = s.kept := by
  unfold State.pulseJump
  repeat' split
  all_goals simp_all

@[simp] theorem pulsesJump_kept (s : State) (x1) (x2) : (pulsesJump s x1 x2).kept = s.kept := by
  unfold State.pulsesJump
  repeat' split
  all_goals simp_all

@[simp] theorem pulseBegin_kept (s : State) (x1) : (pulseBegin s x1).kept = s.kept := by
  unfold State.pulseBegin
  repeat' split
  all_goals simp_all

@[simp] theorem pulseEnd_kept (s : State) (x1) : (pulseEnd s x1).kept = s.kept := by
  unfold State.pulseEnd
  repeat' split
  all_goals simp_all

@[simp] theorem pulsesEnd_kept (s : State) : (pulsesEnd s).kept = s.kept := by
  unfold State.pulsesEnd
  repeat' split
  all_goals simp_all

@[simp] theorem tick_kept (s : State) : (tick s).kept = s.kept := by
  unfold State.tick
  iterate 3 (all_goals (repeat' split); all_goals (try simp_all))
  all_goals (iterate 2 first | refine (kept_foldl (fun t x => ?_) _ _).trans ?_ | refine (kept_foldl_snd (fun t x => ?_) _ _).trans ?_ | skip)
  iterate 3 (all_goals (repeat' split); all_goals (try simp_all))

end Sys2Proof.Machine.State
end

