-- ==== Sys2Proof/Laws/KeptLink.lean ====
section
/-! SUPPORT. What lookups, power, framing, lanes, time, the trunk and ports keep: the queue, the flash and the minimum security version. -/

namespace Sys2Proof.Machine.State

/-! ### Machine/Lookups.lean -/

@[simp] theorem lkpCause_kept (s : State) (x1) (x2) : (lkpCause s x1 x2).kept = s.kept := by
  unfold State.lkpCause
  repeat' split
  all_goals simp_all

@[simp] theorem lqPut_kept (s : State) (x1) : (lqPut s x1).kept = s.kept := by
  unfold State.lqPut
  repeat' split
  all_goals simp_all

@[simp] theorem ageWay_kept (s : State) (x1) (x2) : (ageWay s x1 x2).kept = s.kept := by
  unfold State.ageWay
  repeat' split
  all_goals simp_all

@[simp] theorem hbmWake_kept (s : State) : (hbmWake s).kept = s.kept := by
  unfold State.hbmWake
  repeat' split
  all_goals simp_all

@[simp] theorem countHit_kept (s : State) (x1) : (countHit s x1).kept = s.kept := by
  unfold State.countHit
  repeat' split
  all_goals simp_all

@[simp] theorem lkpPut_kept (s : State) (x1) (x2) (x3) (x4) : (lkpPut s x1 x2 x3 x4).kept = s.kept := by
  unfold State.lkpPut
  repeat' split
  all_goals simp_all

@[simp] theorem setTable_kept (s : State) (x1) (x2) : (setTable s x1 x2).kept = s.kept := by
  unfold State.setTable
  repeat' split
  all_goals simp_all

@[simp] theorem entryBad_kept (s : State) (x1) (x2) (x3) (x4) : (entryBad s x1 x2 x3 x4).1.kept = s.kept := by
  unfold State.entryBad
  iterate 3 (all_goals (repeat' split); all_goals (try simp_all))

theorem entryBad_to {s : State} {x1} {x2} {x3} {x4} {r} (h : entryBad s x1 x2 x3 x4 = r) : r.1.kept = s.kept := h ▸ entryBad_kept s x1 x2 x3 x4

@[simp] theorem entryFault_kept (s : State) (x1) (x2) (x3) : (entryFault s x1 x2 x3).kept = s.kept := by
  unfold State.entryFault
  repeat' split
  all_goals simp_all
  all_goals (first | done | (have h := entryBad_to (by assumption); simp_all))

@[simp] theorem lkpRefused_kept (s : State) (x1) : (lkpRefused s x1).kept = s.kept := by
  unfold State.lkpRefused
  repeat' split
  all_goals simp_all

@[simp] theorem lkpResult_kept (s : State) (x1) (x2) : (lkpResult s x1 x2).kept = s.kept := by
  unfold State.lkpResult
  repeat' split
  all_goals simp_all

@[simp] theorem lkpBegin_kept (s : State) (x1) : (lkpBegin s x1).kept = s.kept := by
  unfold State.lkpBegin
  iterate 3 (all_goals (repeat' split); all_goals (try simp_all))

@[simp] theorem lqPop_kept (s : State) : (lqPop s).kept = s.kept := by
  unfold State.lqPop
  repeat' split
  all_goals simp_all

@[simp] theorem inserted_kept (s : State) : (inserted s).kept = s.kept := by
  unfold State.inserted
  repeat' split
  all_goals simp_all

@[simp] theorem learnWrite_kept (s : State) (x1) (x2) (x3) (x4) : (learnWrite s x1 x2 x3 x4).kept = s.kept := by
  unfold State.learnWrite
  repeat' split
  all_goals simp_all

@[simp] theorem learnInsert_kept (s : State) (x1) (x2) : (learnInsert s x1 x2).kept = s.kept := by
  unfold State.learnInsert
  repeat' split
  all_goals simp_all

@[simp] theorem learnApply_kept (s : State) (x1) : (learnApply s x1).kept = s.kept := by
  unfold State.learnApply
  iterate 3 (all_goals (repeat' split); all_goals (try simp_all))

@[simp] theorem learnSend_kept (s : State) (x1) : (learnSend s x1).kept = s.kept := by
  unfold State.learnSend
  repeat' split
  all_goals simp_all

@[simp] theorem lkpInsert_kept (s : State) (x1) (x2) : (lkpInsert s x1 x2).kept = s.kept := by
  unfold State.lkpInsert
  iterate 3 (all_goals (repeat' split); all_goals (try simp_all))

@[simp] theorem lkpDelete_kept (s : State) (x1) (x2) : (lkpDelete s x1 x2).kept = s.kept := by
  unfold State.lkpDelete
  repeat' split
  all_goals simp_all

@[simp] theorem lkpLookup_kept (s : State) (x1) (x2) : (lkpLookup s x1 x2).kept = s.kept := by
  unfold State.lkpLookup
  repeat' split
  all_goals simp_all

@[simp] theorem lkpWrite_kept (s : State) (x1) (x2) : (lkpWrite s x1 x2).kept = s.kept := by
  unfold State.lkpWrite
  repeat' split
  all_goals simp_all

@[simp] theorem lkpApply_kept (s : State) (x1) : (lkpApply s x1).kept = s.kept := by
  unfold State.lkpApply
  repeat' split
  all_goals simp_all

@[simp] theorem lkpCommand_kept (s : State) (x1) : (lkpCommand s x1).kept = s.kept := by
  unfold State.lkpCommand
  repeat' split
  all_goals simp_all

@[simp] theorem lookDie_kept (s : State) (x1) (x2) (x3) : (lookDie s x1 x2 x3).2.kept = s.kept := by
  unfold State.lookDie
  iterate 3 (all_goals (repeat' split); all_goals (try simp_all))

theorem lookDie_to {s : State} {x1} {x2} {x3} {r} (h : lookDie s x1 x2 x3 = r) : r.2.kept = s.kept := h ▸ lookDie_kept s x1 x2 x3

@[simp] theorem lookHbm_kept (s : State) (x1) (x2) (x3) : (lookHbm s x1 x2 x3).2.kept = s.kept := by
  unfold State.lookHbm
  iterate 3 (all_goals (repeat' split); all_goals (try simp_all))

theorem lookHbm_to {s : State} {x1} {x2} {x3} {r} (h : lookHbm s x1 x2 x3 = r) : r.2.kept = s.kept := h ▸ lookHbm_kept s x1 x2 x3

/-! ### Machine/Power.lean -/

@[simp] theorem refreshWaits_kept (s : State) : (refreshWaits s).kept = s.kept := by
  unfold State.refreshWaits
  repeat' split
  all_goals simp_all

@[simp] theorem applyLevel_kept (s : State) (x1) (x2) : (applyLevel s x1 x2).kept = s.kept := by
  unfold State.applyLevel
  repeat' split
  all_goals simp_all

@[simp] theorem setFeed_kept (s : State) (x1) (x2) : (setFeed s x1 x2).kept = s.kept := by
  unfold State.setFeed
  repeat' split
  all_goals simp_all

@[simp] theorem sideLost_kept (s : State) (x1) : (sideLost s x1).kept = s.kept := by
  unfold State.sideLost
  repeat' split
  all_goals simp_all

@[simp] theorem pwrControlWrite_kept (s : State) (x1) : (pwrControlWrite s x1).kept = s.kept := by
  unfold State.pwrControlWrite
  iterate 3 (all_goals (repeat' split); all_goals (try simp_all))

@[simp] theorem railOut_kept (s : State) (x1) : (railOut s x1).kept = s.kept := by
  unfold State.railOut
  repeat' split
  all_goals simp_all

/-! ### Machine/Framing.lean -/

@[simp] theorem subReg_kept (s : State) (x1) (x2) : (subReg s x1 x2).kept = s.kept := by
  unfold State.subReg
  repeat' split
  all_goals simp_all

@[simp] theorem pmEnter_kept (s : State) (x1) (x2) (x3) (x4) (x5) (x6) : (pmEnter s x1 x2 x3 x4 x5 x6).1.kept = s.kept := by
  unfold State.pmEnter
  repeat' split
  all_goals simp_all

theorem pmEnter_to {s : State} {x1} {x2} {x3} {x4} {x5} {x6} {r} (h : pmEnter s x1 x2 x3 x4 x5 x6 = r) : r.1.kept = s.kept := h ▸ pmEnter_kept s x1 x2 x3 x4 x5 x6

@[simp] theorem enterFar_kept (s : State) (x1) (x2) : (enterFar s x1 x2).kept = s.kept := by
  unfold State.enterFar
  repeat' split
  all_goals simp_all
  all_goals (first | done | (have h := pmEnter_to (by assumption); simp_all))

@[simp] theorem closeFar_kept (s : State) (x1) : (closeFar s x1).kept = s.kept := by
  unfold State.closeFar
  repeat' split
  all_goals simp_all

@[simp] theorem closeNear_kept (s : State) (x1) : (closeNear s x1).kept = s.kept := by
  unfold State.closeNear
  repeat' split
  all_goals simp_all
  all_goals (first | done | (have h := pmEnter_to (by assumption); simp_all))

@[simp] theorem secondJump_kept (s : State) (x1) (x2) (x3) : (secondJump s x1 x2 x3).kept = s.kept := by
  unfold State.secondJump
  repeat' split
  all_goals simp_all

@[simp] theorem slip_kept (s : State) (x1) (x2) (x3) : (slip s x1 x2 x3).kept = s.kept := by
  unfold State.slip
  repeat' split
  all_goals simp_all

@[simp] theorem circuitJump_kept (s : State) (x1) (x2) : (circuitJump s x1 x2).kept = s.kept := by
  unfold State.circuitJump
  iterate 3 (all_goals (repeat' split); all_goals (try simp_all))

@[simp] theorem jump_kept (s : State) (x1) (x2) (x3) : (jump s x1 x2 x3).kept = s.kept := by
  unfold State.jump
  repeat' split
  all_goals simp_all

@[simp] theorem circuitDown_kept (s : State) (x1) : (circuitDown s x1).kept = s.kept := by
  unfold State.circuitDown
  repeat' split
  all_goals simp_all

@[simp] theorem emit_kept (s : State) (x1) (x2) : (emit s x1 x2).kept = s.kept := by
  unfold State.emit
  repeat' split
  all_goals simp_all

@[simp] theorem playInstant_kept (s : State) (x1) : (playInstant s x1).kept = s.kept := by
  unfold State.playInstant
  iterate 3 (all_goals (repeat' split); all_goals (try simp_all))

@[simp] theorem play_kept (s : State) (x1) : (play s x1).kept = s.kept := by
  unfold State.play
  repeat' split
  all_goals simp_all

@[simp] theorem arriveIdle_kept (s : State) (x1) (x2) : (arriveIdle s x1 x2).kept = s.kept := by
  unfold State.arriveIdle
  repeat' split
  all_goals simp_all

@[simp] theorem arrivePlaying_kept (s : State) (x1) (x2) : (arrivePlaying s x1 x2).kept = s.kept := by
  unfold State.arrivePlaying
  repeat' split
  all_goals simp_all

@[simp] theorem block_kept (s : State) (x1) (x2) : (block s x1 x2).kept = s.kept := by
  unfold State.block
  repeat' split
  all_goals simp_all

@[simp] theorem blockIcv_kept (s : State) (x1) (x2) : (blockIcv s x1 x2).kept = s.kept := by
  unfold State.blockIcv
  repeat' split
  all_goals simp_all

@[simp] theorem closeSecond_kept (s : State) (x1) : (closeSecond s x1).kept = s.kept := by
  unfold State.closeSecond
  repeat' split
  all_goals simp_all

@[simp] theorem spillway_kept (s : State) (x1) (x2) (x3) (x4) : (spillway s x1 x2 x3 x4).kept = s.kept := by
  unfold State.spillway
  repeat' split
  all_goals simp_all

/-! ### Machine/Lanes.lean -/

@[simp] theorem adapt_kept (s : State) (x1) (x2) : (adapt s x1 x2).kept = s.kept := by
  unfold State.adapt
  repeat' split
  all_goals simp_all
  all_goals (first | done | (have h := fresh_to (by assumption); simp_all))

@[simp] theorem askFarEnd_kept (s : State) (x1) (x2) : (askFarEnd s x1 x2).kept = s.kept := by
  unfold State.askFarEnd
  repeat' split
  all_goals simp_all
  all_goals (first | done | (have h := fresh_to (by assumption); simp_all))

@[simp] theorem countAdjust_kept (s : State) (x1) (x2) : (countAdjust s x1 x2).kept = s.kept := by
  unfold State.countAdjust
  repeat' split
  all_goals simp_all

@[simp] theorem streamStart_kept (s : State) (x1) (x2) : (streamStart s x1 x2).kept = s.kept := by
  unfold State.streamStart
  repeat' split
  all_goals simp_all

@[simp] theorem streamPut_kept (s : State) (x1) (x2) (x3) : (streamPut s x1 x2 x3).2.kept = s.kept := by
  unfold State.streamPut
  exact setFramer_kept _ _ _

theorem streamPut_to {s : State} {x1} {x2} {x3} {r} (h : streamPut s x1 x2 x3 = r) : r.2.kept = s.kept := h ▸ streamPut_kept s x1 x2 x3

@[simp] theorem streamFill_kept (s : State) (x1) (x2) : (streamFill s x1 x2).2.kept = s.kept := by
  exact (streamPut_kept _ _ _ _).trans (fresh_kept _)

theorem streamFill_to {s : State} {x1} {x2} {r} (h : streamFill s x1 x2 = r) : r.2.kept = s.kept := h ▸ streamFill_kept s x1 x2

@[simp] theorem streamNext_kept (s : State) (x1) : (streamNext s x1).2.kept = s.kept := by
  unfold State.streamNext
  dsimp only
  split
  · exact streamFill_kept _ _ _
  · split
    · exact streamFill_kept _ _ _
    · exact streamPut_kept _ _ _ _

theorem streamNext_to {s : State} {x1} {r} (h : streamNext s x1 = r) : r.2.kept = s.kept := h ▸ streamNext_kept s x1

@[simp] theorem streamTake_kept (x0) (x1) (x2) (s : State) : (streamTake x0 x1 x2 s).2.kept = s.kept := by
  induction x1 generalizing s x2 with
  | zero => rfl
  | succ k ih =>
    unfold State.streamTake
    split
    · rfl
    · exact (ih _ _).trans (streamNext_kept _ _)

theorem streamTake_to {s : State} {x0} {x1} {x2} {r} (h : streamTake x0 x1 x2 s = r) : r.2.kept = s.kept := h ▸ streamTake_kept x0 x1 x2 s

@[simp] theorem cutRow_kept (s : State) (x1) (x2) : (cutRow s x1 x2).kept = s.kept := by
  unfold State.cutRow
  repeat' split
  all_goals simp_all
  all_goals (first | done | (have h := streamTake_to (by assumption); simp_all))

@[simp] theorem deskewDrop_kept (s : State) (x1) (x2) : (deskewDrop s x1 x2).kept = s.kept := by
  unfold State.deskewDrop
  repeat' split
  all_goals simp_all

@[simp] theorem deskewLost_kept (s : State) (x1) : (deskewLost s x1).kept = s.kept := by
  unfold State.deskewLost
  repeat' split
  all_goals simp_all

@[simp] theorem deskewRows_kept (s : State) (x1) : (deskewRows s x1).kept = s.kept := by
  unfold State.deskewRows
  repeat' split
  all_goals simp_all

@[simp] theorem passWords_kept (s : State) (x1) (x2) : (passWords s x1 x2).kept = s.kept := by
  unfold State.passWords
  repeat' split
  all_goals simp_all

@[simp] theorem elasticPass_kept (s : State) (x1) (x2) (x3) : (elasticPass s x1 x2 x3).kept = s.kept := by
  unfold State.elasticPass
  repeat' split
  all_goals simp_all

@[simp] theorem testSet_kept (s : State) (x1) : (testSet s x1).kept = s.kept := by
  unfold State.testSet
  iterate 3 (all_goals (repeat' split); all_goals (try simp_all))

@[simp] theorem laneClear_kept (s : State) (x1) : (laneClear s x1).kept = s.kept := by
  unfold State.laneClear
  repeat' split
  all_goals simp_all

@[simp] theorem laneWrite_kept (s : State) (x1) (x2) : (laneWrite s x1 x2).kept = s.kept := by
  unfold State.laneWrite
  repeat' split
  all_goals simp_all

@[simp] theorem laneControl_kept (s : State) (x1) (x2) (x3) : (laneControl s x1 x2 x3).kept = s.kept := by
  unfold State.laneControl
  repeat' split
  all_goals simp_all

@[simp] theorem patternCheck_kept (s : State) (x1) (x2) : (patternCheck s x1 x2).kept = s.kept := by
  unfold State.patternCheck
  iterate 3 (all_goals (repeat' split); all_goals (try simp_all))

@[simp] theorem rxFeed_kept (s : State) (x1) (x2) : (rxFeed s x1 x2).kept = s.kept := by
  unfold State.rxFeed
  repeat' split
  all_goals simp_all

@[simp] theorem lineSend_kept (s : State) (x1) (x2) (x3) : (lineSend s x1 x2 x3).kept = s.kept := by
  unfold State.lineSend
  repeat' split
  all_goals simp_all

@[simp] theorem markerLost_kept (s : State) (x1) : (markerLost s x1).kept = s.kept := by
  unfold State.markerLost
  repeat' split
  all_goals simp_all

@[simp] theorem markerTake_kept (s : State) (x1) (x2) (x3) (x4) : (markerTake s x1 x2 x3 x4).kept = s.kept := by
  unfold State.markerTake
  repeat' split
  all_goals simp_all

@[simp] theorem prbsErrors_kept (s : State) (x1) (x2) : (prbsErrors s x1 x2).kept = s.kept := by
  unfold State.prbsErrors
  repeat' split
  all_goals simp_all

@[simp] theorem rxTake_kept (s : State) (x1) (x2) : (rxTake s x1 x2).kept = s.kept := by
  unfold State.rxTake
  iterate 3 (all_goals (repeat' split); all_goals (try simp_all))

@[simp] theorem sendBlock_kept (s : State) (x1) (x2) : (sendBlock s x1 x2).kept = s.kept := by
  unfold State.sendBlock
  repeat' split
  all_goals simp_all

@[simp] theorem sendPattern_kept (s : State) (x1) : (sendPattern s x1).kept = s.kept := by
  unfold State.sendPattern
  exact (lineSend_kept _ _ _ _).trans (fresh_kept _)

@[simp] theorem takeFom_kept (s : State) (x1) (x2) : (takeFom s x1 x2).kept = s.kept := by
  unfold State.takeFom
  repeat' split
  all_goals simp_all

/-! ### Machine/Timing.lean -/

@[simp] theorem setResult_kept (s : State) (x1) (x2) : (setResult s x1 x2).kept = s.kept := by
  unfold State.setResult
  repeat' split
  all_goals simp_all

@[simp] theorem applyBase_kept (s : State) (x1) (x2) : (applyBase s x1 x2).kept = s.kept := by
  unfold State.applyBase
  iterate 3 (all_goals (repeat' split); all_goals (try simp_all))

@[simp] theorem baseCtrl_kept (s : State) (x1) (x2) : (baseCtrl s x1 x2).kept = s.kept := by
  unfold State.baseCtrl
  repeat' split
  all_goals simp_all

@[simp] theorem setCap_kept (s : State) (x1) (x2) : (setCap s x1 x2).kept = s.kept := by
  unfold State.setCap
  repeat' split
  all_goals simp_all

@[simp] theorem capPop_kept (s : State) (x1) : (capPop s x1).kept = s.kept := by
  unfold State.capPop
  iterate 3 (all_goals (repeat' split); all_goals (try simp_all))

@[simp] theorem snap_kept (s : State) (x1) : (snap s x1).kept = s.kept := by
  unfold State.snap
  repeat' split
  all_goals simp_all

@[simp] theorem tsqPop_kept (s : State) : (tsqPop s).kept = s.kept := by
  unfold State.tsqPop
  repeat' split
  all_goals simp_all

@[simp] theorem pulseWrite_kept (s : State) (x1) (x2) : (pulseWrite s x1 x2).kept = s.kept := by
  unfold State.pulseWrite
  repeat' split
  all_goals simp_all

@[simp] theorem setCal_kept (s : State) (x1) (x2) : (setCal s x1 x2).kept = s.kept := by
  unfold State.setCal
  repeat' split
  all_goals simp_all

/-! ### Machine/Trunk.lean -/

@[simp] theorem circuitSwitch_kept (s : State) (x1) (x2) : (circuitSwitch s x1 x2).kept = s.kept := by
  unfold State.circuitSwitch
  repeat' split
  all_goals simp_all

@[simp] theorem circuitWrite_kept (s : State) (x1) (x2) : (circuitWrite s x1 x2).kept = s.kept := by
  unfold State.circuitWrite
  repeat' split
  all_goals simp_all

@[simp] theorem toHunt_kept (s : State) (x1) (x2) : (toHunt s x1 x2).kept = s.kept := by
  unfold State.toHunt
  repeat' split
  all_goals simp_all

@[simp] theorem failHeader_kept (s : State) (x1) : (failHeader s x1).kept = s.kept := by
  unfold State.failHeader
  iterate 3 (all_goals (repeat' split); all_goals (try simp_all))

@[simp] theorem forceNow_kept (s : State) (x1) : (forceNow s x1).kept = s.kept := by
  unfold State.forceNow
  repeat' split
  all_goals simp_all

@[simp] theorem forceHunt_kept (s : State) (x1) : (forceHunt s x1).kept = s.kept := by
  unfold State.forceHunt
  repeat' split
  all_goals simp_all

@[simp] theorem toSync_kept (s : State) (x1) (x2) : (toSync s x1 x2).kept = s.kept := by
  unfold State.toSync
  repeat' split
  all_goals simp_all

@[simp] theorem passHeader_kept (s : State) (x1) (x2) (x3) : (passHeader s x1 x2 x3).kept = s.kept := by
  unfold State.passHeader
  iterate 3 (all_goals (repeat' split); all_goals (try simp_all))

@[simp] theorem headerCheck_kept (s : State) (x1) : (headerCheck s x1).kept = s.kept := by
  unfold State.headerCheck
  iterate 3 (all_goals (repeat' split); all_goals (try simp_all))

@[simp] theorem forcedCheck_kept (s : State) (x1) : (forcedCheck s x1).kept = s.kept := by
  unfold State.forcedCheck
  repeat' split
  all_goals simp_all

@[simp] theorem framerClear_kept (s : State) (x1) : (framerClear s x1).kept = s.kept := by
  unfold State.framerClear
  repeat' split
  all_goals simp_all

@[simp] theorem monitorTake_kept (s : State) (x1) (x2) : (monitorTake s x1 x2).kept = s.kept := by
  unfold State.monitorTake
  iterate 3 (all_goals (repeat' split); all_goals (try simp_all))
  all_goals (iterate 2 first | refine (kept_foldl (fun t x => ?_) _ _).trans ?_ | refine (kept_foldl_snd (fun t x => ?_) _ _).trans ?_ | skip)
  iterate 3 (all_goals (repeat' split); all_goals (try simp_all))

theorem takePassed_kept (s : State) (x1) (x2) : ∀ r, takePassed s x1 x2 = some r → r.2.kept = s.kept := by
  unfold State.takePassed
  intro t h
  iterate 3 (all_goals (repeat' split at h); all_goals (try simp_all))
  all_goals (first | done | (subst h; simp) | (obtain rfl | rfl := h <;> simp))

/-! ### Machine/Ports.lean -/

@[simp] theorem addFrame_kept (s : State) (x1) : (addFrame s x1).kept = s.kept := by
  unfold State.addFrame
  repeat' split
  all_goals simp_all

@[simp] theorem addOctets_kept (s : State) (x1) : (addOctets s x1).kept = s.kept := by
  unfold State.addOctets
  repeat' split
  all_goals simp_all

@[simp] theorem pairEvent_kept (s : State) (x1) (x2) : (pairEvent s x1 x2).kept = s.kept := by
  unfold State.pairEvent
  repeat' split
  all_goals simp_all

@[simp] theorem fecCount_kept (s : State) (x1) (x2) : (fecCount s x1 x2).kept = s.kept := by
  unfold State.fecCount
  repeat' split
  all_goals simp_all

@[simp] theorem portWrite_kept (s : State) (x1) (x2) (x3) : (portWrite s x1 x2 x3).kept = s.kept := by
  unfold State.portWrite
  repeat' split
  all_goals simp_all

@[simp] theorem toSteward_kept (s : State) (x1) (x2) : (toSteward s x1 x2).kept = s.kept := by
  unfold State.toSteward
  repeat' split
  all_goals simp_all

@[simp] theorem received_kept (s : State) (x1) (x2) (x3) : (received s x1 x2 x3).2.kept = s.kept := by
  unfold State.received
  iterate 3 (all_goals (repeat' split); all_goals (try simp_all))

theorem received_to {s : State} {x1} {x2} {x3} {r} (h : received s x1 x2 x3 = r) : r.2.kept = s.kept := h ▸ received_kept s x1 x2 x3

@[simp] theorem trunkArrive_kept (s : State) (x1) (x2) (x3) (x4) (x5) (x6) : (trunkArrive s x1 x2 x3 x4 x5 x6).kept = s.kept := by
  unfold State.trunkArrive
  repeat' split
  all_goals simp_all

end Sys2Proof.Machine.State
end

