-- ==== Sys2Proof/Laws/KeptFlow.lean ====
section
/-! SUPPORT. What classification, bring-up, the engines, the store and the cipher keep: the queue, the flash and the minimum security version. -/

namespace Sys2Proof.Machine.State

/-! ### Machine/Classify.lean -/

@[simp] theorem clsCause_kept (s : State) (x1) (x2) : (clsCause s x1 x2).kept = s.kept := by
  unfold State.clsCause
  repeat' split
  all_goals simp_all

@[simp] theorem ensignResult_kept (s : State) (x1) : (ensignResult s x1).kept = s.kept := by
  unfold State.ensignResult
  repeat' split
  all_goals simp_all

@[simp] theorem slotState_kept (s : State) (x1) (x2) : (slotState s x1 x2).kept = s.kept := by
  unfold State.slotState
  repeat' split
  all_goals simp_all

@[simp] theorem abandonSlot_kept (s : State) (x1) : (abandonSlot s x1).kept = s.kept := by
  unfold State.abandonSlot
  repeat' split
  all_goals simp_all

@[simp] theorem abandonEnsign_kept (s : State) : (abandonEnsign s).kept = s.kept := by
  unfold State.abandonEnsign
  repeat' split
  all_goals simp_all

@[simp] theorem accResult_kept (s : State) (x1) : (accResult s x1).kept = s.kept := by
  unfold State.accResult
  repeat' split
  all_goals simp_all

@[simp] theorem blockSlots_kept (s : State) (x1) : (blockSlots s x1).kept = s.kept := by
  unfold State.blockSlots
  repeat' split
  all_goals simp_all

@[simp] theorem numbered_kept (s : State) (x1) : (numbered s x1).2.kept = s.kept := by
  unfold State.numbered
  repeat' split
  all_goals simp_all

theorem numbered_to {s : State} {x1} {r} (h : numbered s x1 = r) : r.2.kept = s.kept := h ▸ numbered_kept s x1

@[simp] theorem clsCapture_kept (s : State) (x1) (x2) (x3) : (clsCapture s x1 x2 x3).kept = s.kept := by
  unfold State.clsCapture
  repeat' split
  all_goals simp_all

@[simp] theorem nodeBad_kept (s : State) (x1) (x2) (x3) : (nodeBad s x1 x2 x3).kept = s.kept := by
  unfold State.nodeBad
  repeat' split
  all_goals simp_all

@[simp] theorem nodeError_kept (s : State) (x1) (x2) : (nodeError s x1 x2).kept = s.kept := by
  unfold State.nodeError
  iterate 3 (all_goals (repeat' split); all_goals (try simp_all))

@[simp] theorem giveVerdict_kept (s : State) (x1) (x2) (x3) (x4) : (giveVerdict s x1 x2 x3 x4).kept = s.kept := by
  unfold State.giveVerdict
  repeat' split
  all_goals simp_all

@[simp] theorem giveDefault_kept (s : State) (x1) (x2) (x3) : (giveDefault s x1 x2 x3).kept = s.kept := by
  unfold State.giveDefault
  repeat' split
  all_goals simp_all

@[simp] theorem followBad_kept (s : State) (x1) (x2) : (followBad s x1 x2).kept = s.kept := by
  unfold State.followBad
  repeat' split
  all_goals simp_all

@[simp] theorem followLook_kept (s : State) (x1) (x2) (x3) : (followLook s x1 x2 x3).2.kept = s.kept := by
  unfold State.followLook
  dsimp only
  split
  · rfl
  · split
    · exact followBad_kept s _ _
    · split <;> rfl

theorem followLook_to {s : State} {x1} {x2} {x3} {r} (h : followLook s x1 x2 x3 = r) : r.2.kept = s.kept := h ▸ followLook_kept s x1 x2 x3

@[simp] theorem find_kept (s : State) (x1) (x2) (x3) : (find s x1 x2 x3).2.kept = s.kept := by
  unfold State.find
  dsimp only
  have h : (match laterFrag x2 with
      | none => ((none, 0, s) : Option Bool × Nat × State)
      | some i =>
        match s.followLook x1 i x3 with
        | (some c, t) => (some true, c, t.bump (clsCtr x1.dec 0x58))
        | (none, t) => (some false, 0, t.bump (clsCtr x1.dec 0x60))).2.2.kept = s.kept := by
    split
    · rfl
    · split
      · simpa using followLook_to (by assumption)
      · simpa using followLook_to (by assumption)
  simp only [kept_ite, pmuCount_kept, ite_self]
  exact h

theorem find_to {s : State} {x1} {x2} {x3} {r} (h : find s x1 x2 x3 = r) : r.2.kept = s.kept := h ▸ find_kept s x1 x2 x3

@[simp] theorem tcamBad_kept (s : State) (x1) (x2) : (tcamBad s x1 x2).kept = s.kept := by
  unfold State.tcamBad
  repeat' split
  all_goals simp_all

@[simp] theorem resultBad_kept (s : State) (x1) (x2) : (resultBad s x1 x2).kept = s.kept := by
  unfold State.resultBad
  repeat' split
  all_goals simp_all

@[simp] theorem resultFixed_kept (s : State) (x1) (x2) : (resultFixed s x1 x2).kept = s.kept := by
  unfold State.resultFixed
  repeat' split
  all_goals simp_all

@[simp] theorem matchTcam_kept (s : State) (x1) (x2) (x3) : (matchTcam s x1 x2 x3).2.kept = s.kept := by
  unfold State.matchTcam
  repeat' split
  all_goals simp_all

theorem matchTcam_to {s : State} {x1} {x2} {x3} {r} (h : matchTcam s x1 x2 x3 = r) : r.2.kept = s.kept := h ▸ matchTcam_kept s x1 x2 x3

@[simp] theorem followNote_kept (s : State) (x1) (x2) (x3) : (followNote s x1 x2 x3).kept = s.kept := by
  unfold State.followNote
  repeat' split
  all_goals simp_all

@[simp] theorem hitCount_kept (s : State) (x1) (x2) : (hitCount s x1 x2).kept = s.kept := by
  unfold State.hitCount
  repeat' split
  all_goals simp_all

@[simp] theorem matched_kept (s : State) (x1) (x2) (x3) (x4) (x5) : (matched s x1 x2 x3 x4 x5).kept = s.kept := by
  unfold State.matched
  repeat' split
  all_goals simp_all

@[simp] theorem classify_kept (s : State) (x1) (x2) (x3) : (classify s x1 x2 x3).kept = s.kept := by
  unfold State.classify
  iterate 3 (all_goals (repeat' split); all_goals (try simp_all))
  all_goals (iterate 2 first | refine (kept_foldl (fun t x => ?_) _ _).trans ?_ | refine (kept_foldl_snd (fun t x => ?_) _ _).trans ?_ | skip)
  iterate 3 (all_goals (repeat' split); all_goals (try simp_all))
  iterate 4 (all_goals (try first | (have h := numbered_to (by assumption); dsimp only at h; rw [h]; try simp) | (have h := find_to (by assumption); dsimp only at h; rw [h]; try simp) | (have h := matchTcam_to (by assumption); dsimp only at h; rw [h]; try simp)))

@[simp] theorem clsBegin_kept (s : State) (x1) : (clsBegin s x1).kept = s.kept := by
  unfold State.clsBegin
  iterate 3 (all_goals (repeat' split); all_goals (try simp_all))

@[simp] theorem clsClear_kept (s : State) : (clsClear s).kept = s.kept := by
  unfold State.clsClear
  repeat' split
  all_goals simp_all

@[simp] theorem clsCommand_kept (s : State) (x1) : (clsCommand s x1).kept = s.kept := by
  unfold State.clsCommand
  repeat' split
  all_goals simp_all

@[simp] theorem clsFinish_kept (s : State) : (clsFinish s).kept = s.kept := by
  unfold State.clsFinish
  iterate 3 (all_goals (repeat' split); all_goals (try simp_all))

@[simp] theorem sweepDone_kept (s : State) : (sweepDone s).kept = s.kept := by
  unfold State.sweepDone
  repeat' split
  all_goals simp_all

@[simp] theorem openingDone_kept (s : State) : (openingDone s).kept = s.kept := by
  unfold State.openingDone
  repeat' split
  all_goals simp_all

@[simp] theorem commitSlot_kept (s : State) (x1) : (commitSlot s x1).kept = s.kept := by
  unfold State.commitSlot
  repeat' split
  all_goals simp_all

@[simp] theorem commitEnsign_kept (s : State) : (commitEnsign s).kept = s.kept := by
  unfold State.commitEnsign
  repeat' split
  all_goals simp_all

@[simp] theorem openEnsign_kept (s : State) (x1) : (openEnsign s x1).kept = s.kept := by
  unfold State.openEnsign
  repeat' split
  all_goals simp_all

@[simp] theorem patternBad_kept (s : State) (x1) : (patternBad s x1).kept = s.kept := by
  unfold State.patternBad
  repeat' split
  all_goals simp_all

/-! ### Machine/Image.lean -/

@[simp] theorem takeTimeConfig_kept (s : State) (x1) (x2) : (takeTimeConfig s x1 x2).kept = s.kept := by
  unfold State.takeTimeConfig
  repeat' split
  all_goals simp_all

@[simp] theorem takeEqualisation_kept (s : State) (x1) : (takeEqualisation s x1).kept = s.kept := by
  unfold State.takeEqualisation
  repeat' split
  all_goals simp_all

@[simp] theorem takeChannelPolicy_kept (s : State) (x1) : (takeChannelPolicy s x1).kept = s.kept := by
  unfold State.takeChannelPolicy
  repeat' split
  all_goals simp_all

/-! ### Machine/Boot.lean -/

@[simp] theorem halt_kept (s : State) (x1) : (halt s x1).kept = s.kept := by
  unfold State.halt
  repeat' split
  all_goals simp_all

@[simp] theorem startDrbg_kept (s : State) : (startDrbg s).kept = s.kept := by
  unfold State.startDrbg
  split
  rename_i _ _ _ h
  split
  rename_i _ _ _ g
  exact (draw_to g).trans ((draw_to h).trans (seedDrbg_kept _))

@[simp] theorem keyInCell_kept (s : State) (x1) (x2) : (keyInCell s x1 x2).kept = s.kept := by
  unfold State.keyInCell
  exact newCell_kept _ _

@[simp] theorem deriveKeys_kept (s : State) : (deriveKeys s).kept = s.kept := by
  unfold State.deriveKeys
  exact (keyInCell_kept _ _ _).trans ((keyInCell_kept _ _ _).trans ((keyInCell_kept _ _ _).trans ((keyInCell_kept _ _ _).trans
    ((keyInCell_kept _ _ _).trans ((keyInCell_kept _ _ _).trans ((startDrbg_kept _).trans (fresh_kept _)))))))

@[simp] theorem discardRecords_kept (s : State) : (discardRecords s).kept = s.kept := by
  unfold State.discardRecords
  repeat' split
  all_goals simp_all

@[simp] theorem openImport_kept (s : State) (x1) (x2) : (openImport s x1 x2).2.kept = s.kept := by
  unfold State.openImport
  repeat' split
  all_goals simp_all

theorem openImport_to {s : State} {x1} {x2} {r} (h : openImport s x1 x2 = r) : r.2.kept = s.kept := h ▸ openImport_kept s x1 x2

@[simp] theorem imageFail_kept (s : State) (x1) : (imageFail s x1).kept = s.kept := by
  unfold State.imageFail
  repeat' split
  all_goals simp_all

@[simp] theorem toBoot_kept (s : State) (x1) : (toBoot s x1).kept = s.kept := by
  unfold State.toBoot
  repeat' split
  all_goals simp_all

@[simp] theorem enterLanes_kept (s : State) : (enterLanes s).kept = s.kept := by
  unfold State.enterLanes
  repeat' split
  all_goals simp_all

theorem raiseMinSv_rose (s : State) : Rose s (raiseMinSv s) := by
  unfold State.raiseMinSv
  dsimp only
  split
  · rename_i h
    exact ⟨rfl, rfl, by simpa using Nat.le_of_lt h.2⟩
  · exact Rose.of rfl

theorem enterRun_rose (s : State) : Rose s (enterRun s) := by
  unfold State.enterRun
  refine Rose.then_ (Rose.then_ (Rose.trans ?_ (raiseMinSv_rose _)) (kept_foldl (fun t x => by simp) _ _)) (settle_kept _)
  exact Rose.of (by simp)

@[simp] theorem wardenOut_kept (s : State) (x1) : (wardenOut s x1).kept = s.kept := by
  unfold State.wardenOut
  repeat' split
  all_goals simp_all

@[simp] theorem firstWardens_kept (s : State) (x1) (x2) : (firstWardens s x1 x2).kept = s.kept := by
  unfold State.firstWardens
  repeat' split
  all_goals simp_all

@[simp] theorem importKey_kept (s : State) (x1) (x2) : (importKey s x1 x2).kept = s.kept := by
  unfold State.importKey
  iterate 3 (all_goals (repeat' split); all_goals (try simp_all))
  all_goals (iterate 2 first | refine (kept_foldl (fun t x => ?_) _ _).trans ?_ | refine (kept_foldl_snd (fun t x => ?_) _ _).trans ?_ | skip)
  iterate 3 (all_goals (repeat' split); all_goals (try simp_all))
  iterate 4 (all_goals (try first | (have h := openImport_to (by assumption); dsimp only at h; rw [h]; try simp) | (have h := newCell_to (by assumption); dsimp only at h; rw [h]; try simp)))

@[simp] theorem restartBoot_kept (s : State) : (restartBoot s).kept = s.kept := by
  unfold State.restartBoot
  repeat' split
  all_goals simp_all

theorem loadSeeds_kept (s : State) (x1) : ∀ t, loadSeeds s x1 = some t → t.kept = s.kept := by
  intro t h
  unfold State.loadSeeds at h
  refine kept_foldl_opt (fun _ => rfl) ?_ _ _ _ h
  intro t x r h
  dsimp only at h
  split at h
  · cases h
  · cases h; simp

@[simp] theorem loadPrograms_kept (s : State) (x1) (x2) : (loadPrograms s x1 x2).kept = s.kept := by
  unfold State.loadPrograms
  iterate 3 (all_goals (repeat' split); all_goals (try simp_all))
  all_goals (iterate 2 first | refine (kept_foldl (fun t x => ?_) _ _).trans ?_ | refine (kept_foldl_snd (fun t x => ?_) _ _).trans ?_ | skip)
  iterate 3 (all_goals (repeat' split); all_goals (try simp_all))

theorem loadEngines_kept (s : State) : ∀ t, loadEngines s = .ok t → t.kept = s.kept := by
  unfold State.loadEngines
  intro t h
  iterate 3 (all_goals (repeat' split at h); all_goals (try simp_all))
  all_goals (first | done | (subst h; simp) | (obtain rfl | rfl := h <;> simp))
  all_goals (first | done | (have h := loadSeeds_kept _ _ _ (by assumption); simp_all))

@[simp] theorem unsealKeys_kept (s : State) (x1) (x2) : (unsealKeys s x1 x2).kept = s.kept := by
  unfold State.unsealKeys
  iterate 3 (all_goals (repeat' split); all_goals (try simp_all))
  all_goals (iterate 2 first | refine (kept_foldl (fun t x => ?_) _ _).trans ?_ | refine (kept_foldl_snd (fun t x => ?_) _ _).trans ?_ | skip)
  iterate 3 (all_goals (repeat' split); all_goals (try simp_all))

/-! ### Machine/Store.lean -/

@[simp] theorem chnCause_kept (s : State) (x1) (x2) : (chnCause s x1 x2).kept = s.kept := by
  unfold State.chnCause
  repeat' split
  all_goals simp_all

@[simp] theorem noteQueue_kept (s : State) (x1) (x2) : (noteQueue s x1 x2).kept = s.kept := by
  unfold State.noteQueue
  repeat' split
  all_goals simp_all

@[simp] theorem chEffect_kept (s : State) (x1) (x2) : (chEffect s x1 x2).kept = s.kept := by
  unfold State.chEffect
  repeat' split
  all_goals simp_all

@[simp] theorem cacheTake_kept (s : State) (x1) : (cacheTake s x1).kept = s.kept := by
  unfold State.cacheTake
  iterate 3 (all_goals (repeat' split); all_goals (try simp_all))

@[simp] theorem recordFault_kept (s : State) (x1) (x2) : (recordFault s x1 x2).kept = s.kept := by
  unfold State.recordFault
  iterate 3 (all_goals (repeat' split); all_goals (try simp_all))

@[simp] theorem bindServed_kept (s : State) (x1) (x2) (x3) : (bindServed s x1 x2 x3).1.kept = s.kept := by
  unfold State.bindServed
  repeat' split
  all_goals simp_all

theorem bindServed_to {s : State} {x1} {x2} {x3} {r} (h : bindServed s x1 x2 x3 = r) : r.1.kept = s.kept := h ▸ bindServed_kept s x1 x2 x3

@[simp] theorem bindTo_kept (s : State) (x1) (x2) : (bindTo s x1 x2).2.2.kept = s.kept := by
  unfold State.bindTo
  iterate 3 (all_goals (repeat' split); all_goals (try simp_all))
  all_goals (first | done | (have h := bindServed_to (by assumption); simp_all))

theorem bindTo_to {s : State} {x1} {x2} {r} (h : bindTo s x1 x2 = r) : r.2.2.kept = s.kept := h ▸ bindTo_kept s x1 x2

@[simp] theorem hbmCause_kept (s : State) (x1) (x2) : (hbmCause s x1 x2).kept = s.kept := by
  unfold State.hbmCause
  repeat' split
  all_goals simp_all

@[simp] theorem hbmCapture_kept (s : State) (x1) (x2) (x3) : (hbmCapture s x1 x2 x3).kept = s.kept := by
  unfold State.hbmCapture
  repeat' split
  all_goals simp_all

@[simp] theorem hbmFixed_kept (s : State) (x1) (x2) (x3) : (hbmFixed s x1 x2 x3).kept = s.kept := by
  unfold State.hbmFixed
  repeat' split
  all_goals simp_all

@[simp] theorem hbmBad_kept (s : State) (x1) (x2) : (hbmBad s x1 x2).kept = s.kept := by
  unfold State.hbmBad
  repeat' split
  all_goals simp_all

@[simp] theorem farFault_kept (s : State) (x1) (x2) : (farFault s x1 x2).kept = s.kept := by
  unfold State.farFault
  repeat' split
  all_goals simp_all

@[simp] theorem reorderBad_kept (s : State) (x1) : (reorderBad s x1).kept = s.kept := by
  unfold State.reorderBad
  repeat' split
  all_goals simp_all

/-! ### Machine/Engines.lean -/

@[simp] theorem hbmAsk_kept (s : State) (x1) : (hbmAsk s x1).kept = s.kept := by
  unfold State.hbmAsk
  repeat' split
  all_goals simp_all

@[simp] theorem park_kept (s : State) (x1) (x2) (x3) (x4) (x5) : (park s x1 x2 x3 x4 x5).kept = s.kept := by
  unfold State.park
  repeat' split
  all_goals simp_all

@[simp] theorem setCtx_kept (s : State) (x1) (x2) (x3) : (setCtx s x1 x2 x3).kept = s.kept := by
  unfold State.setCtx
  repeat' split
  all_goals simp_all

@[simp] theorem dispatchTo_kept (s : State) (x1) (x2) (x3) : (dispatchTo s x1 x2 x3).kept = s.kept := by
  unfold State.dispatchTo
  repeat' split
  all_goals simp_all

@[simp] theorem endProgram_kept (s : State) (x1) (x2) (x3) (x4) (x5) (x6) (x7) (x8) (x9) : (endProgram s x1 x2 x3 x4 x5 x6 x7 x8 x9).kept = s.kept := by
  unfold State.endProgram
  repeat' split
  all_goals simp_all

@[simp] theorem endDrop_kept (s : State) (x1) (x2) (x3) (x4) (x5) (x6) (x7) : (endDrop s x1 x2 x3 x4 x5 x6 x7).kept = s.kept := by
  unfold State.endDrop
  repeat' split
  all_goals simp_all

@[simp] theorem lineCount_kept (s : State) (x1) (x2) : (lineCount s x1 x2).kept = s.kept := by
  unfold State.lineCount
  repeat' split
  all_goals simp_all

@[simp] theorem grantLines_kept (s : State) (x1) : (grantLines s x1).2.kept = s.kept := by
  unfold State.grantLines
  iterate 3 (all_goals (repeat' split); all_goals (try simp_all))

theorem grantLines_to {s : State} {x1} {r} (h : grantLines s x1 = r) : r.2.kept = s.kept := h ▸ grantLines_kept s x1

@[simp] theorem granted_kept (s : State) (x1) : (granted s x1).kept = s.kept := by
  unfold State.granted
  repeat' split
  all_goals simp_all

@[simp] theorem lineChecked_kept (s : State) (x1) (x2) (x3) (x4) : (lineChecked s x1 x2 x3 x4).kept = s.kept := by
  unfold State.lineChecked
  repeat' split
  all_goals simp_all

@[simp] theorem progFault_kept (s : State) (x1) (x2) (x3) (x4) (x5) (x6) : (progFault s x1 x2 x3 x4 x5 x6).kept = s.kept := by
  unfold State.progFault
  repeat' split
  all_goals simp_all

@[simp] theorem ringWrite_kept (s : State) : (ringWrite s).kept = s.kept := by
  unfold State.ringWrite
  iterate 3 (all_goals (repeat' split); all_goals (try simp_all))

/-! ### Machine/Words.lean -/

@[simp] theorem bindFar_kept (s : State) (x1) (x2) (x3) (x4) (x5) : (bindFar s x1 x2 x3 x4 x5).kept = s.kept := by
  unfold State.bindFar
  repeat' split
  all_goals simp_all

@[simp] theorem bound_kept (s : State) (x1) (x2) (x3) (x4) (x5) (x6) : (bound s x1 x2 x3 x4 x5 x6).1.kept = s.kept := by
  unfold State.bound
  repeat' split
  all_goals simp_all

theorem bound_to {s : State} {x1} {x2} {x3} {x4} {x5} {x6} {r} (h : bound s x1 x2 x3 x4 x5 x6 = r) : r.1.kept = s.kept := h ▸ bound_kept s x1 x2 x3 x4 x5 x6

@[simp] theorem farAnswer_kept (s : State) (x1) (x2) (x3) (x4) (x5) (x6) : (farAnswer s x1 x2 x3 x4 x5 x6).kept = s.kept := by
  unfold State.farAnswer
  repeat' split
  all_goals simp_all
  all_goals (first | done | (have h := bindTo_to (by assumption); simp_all) | (have h := bound_to (by assumption); simp_all))

@[simp] theorem resume_kept (s : State) (x1) (x2) (x3) (x4) : (resume s x1 x2 x3 x4).kept = s.kept := by
  unfold State.resume
  repeat' split
  all_goals simp_all

/-! ### Machine/Polders.lean -/

@[simp] theorem cntSnapshot_kept (s : State) : (cntSnapshot s).kept = s.kept := by
  unfold State.cntSnapshot
  repeat' split
  all_goals simp_all

@[simp] theorem pldResult_kept (s : State) (x1) : (pldResult s x1).kept = s.kept := by
  unfold State.pldResult
  repeat' split
  all_goals simp_all

@[simp] theorem pldBegin_kept (s : State) (x1) : (pldBegin s x1).kept = s.kept := by
  unfold State.pldBegin
  iterate 3 (all_goals (repeat' split); all_goals (try simp_all))

@[simp] theorem pldCommand_kept (s : State) (x1) : (pldCommand s x1).kept = s.kept := by
  unfold State.pldCommand
  repeat' split
  all_goals simp_all

@[simp] theorem pldReadOut_kept (s : State) (x1) : (pldReadOut s x1).kept = s.kept := by
  unfold State.pldReadOut
  repeat' split
  all_goals simp_all

@[simp] theorem updBlock_kept (s : State) (x1) (x2) (x3) : (updBlock s x1 x2 x3).kept = s.kept := by
  unfold State.updBlock
  repeat' split
  all_goals simp_all

@[simp] theorem pldFinish_kept (s : State) : (pldFinish s).kept = s.kept := by
  unfold State.pldFinish
  iterate 3 (all_goals (repeat' split); all_goals (try simp_all))

@[simp] theorem storeErr_kept (s : State) (x1) (x2) (x3) (x4) : (storeErr s x1 x2 x3 x4).kept = s.kept := by
  unfold State.storeErr
  repeat' split
  all_goals simp_all

@[simp] theorem storeError_kept (s : State) (x1) (x2) (x3) : (storeError s x1 x2 x3).kept = s.kept := by
  unfold State.storeError
  repeat' split
  all_goals simp_all

/-! ### Machine/Channels.lean -/

@[simp] theorem stopChannels_kept (s : State) (x1) : (stopChannels s x1).kept = s.kept := by
  unfold State.stopChannels
  have h : ∀ (far : Bool) (t : State) (e : Nat × ChIndex), (match e.2.body with
      | none => t
      | some r =>
        let h := Handle.mk far e.1 e.2.gen
        let f := t.stopRecord h r x1
        if f.body = r then t else t.chEffect h f).kept = t.kept := by
    intro far t e
    split
    · rfl
    · dsimp only
      split <;> simp
  exact (kept_foldl (h true) _ _).trans (kept_foldl (h false) _ _)

@[simp] theorem invalidate_kept (s : State) (x1) (x2) : (invalidate s x1 x2).kept = s.kept := by
  unfold State.invalidate
  repeat' split
  all_goals simp_all

@[simp] theorem stewardAnswer_kept (s : State) (x1) (x2) : (stewardAnswer s x1 x2).kept = s.kept := by
  unfold State.stewardAnswer
  repeat' split
  all_goals simp_all

@[simp] theorem chRefused_kept (s : State) : (chRefused s).kept = s.kept := by
  unfold State.chRefused
  repeat' split
  all_goals simp_all

@[simp] theorem destroyAt_kept (s : State) (x1) (x2) (x3) : (destroyAt s x1 x2 x3).kept = s.kept := by
  unfold State.destroyAt
  repeat' split
  all_goals simp_all

@[simp] theorem domainFault_kept (s : State) (x1) (x2) : (domainFault s x1 x2).kept = s.kept := by
  unfold State.domainFault
  repeat' split
  all_goals simp_all

@[simp] theorem chAccept_kept (s : State) (x1) (x2) (x3) (x4) (x5) : (chAccept s x1 x2 x3 x4 x5).kept = s.kept := by
  unfold State.chAccept
  repeat' split
  all_goals simp_all

@[simp] theorem chBegin_kept (s : State) (x1) : (chBegin s x1).kept = s.kept := by
  unfold State.chBegin
  repeat' split
  all_goals simp_all

@[simp] theorem chCommand_kept (s : State) (x1) (x2) : (chCommand s x1 x2).kept = s.kept := by
  unfold State.chCommand
  repeat' split
  all_goals simp_all

@[simp] theorem chReadFault_kept (s : State) (x1) (x2) : (chReadFault s x1 x2).kept = s.kept := by
  unfold State.chReadFault
  repeat' split
  all_goals simp_all

@[simp] theorem chDone_kept (s : State)  : (chDone s ).state.kept = s.kept := by
  unfold State.chDone
  iterate 3 (all_goals (repeat' split); all_goals (try simp_all))

@[simp] theorem chNo_kept (s : State) (x) : (chNo s x).state.kept = s.kept := by
  unfold State.chNo
  iterate 3 (all_goals (repeat' split); all_goals (try simp_all))

@[simp] theorem chCreate_kept (s : State) (x) : (chCreate s x).state.kept = s.kept := by
  unfold State.chCreate
  iterate 3 (all_goals (repeat' split); all_goals (try simp_all))

@[simp] theorem loadFail_kept (s : State) (x) : (loadFail s x).state.kept = s.kept := by
  unfold State.loadFail
  split
  · rfl
  · exact chEffect_kept _ _ _

@[simp] theorem chLoad_kept (s : State) (x) (y) (z) (w) : (chLoad s x y z w).state.kept = s.kept := by
  unfold State.chLoad
  dsimp only
  iterate 5 (all_goals (try split))
  all_goals first | rfl | exact loadFail_kept _ _ | skip
  · exact (loadFail_kept _ _).trans (domainFault_kept _ _ _)
  · split
    · exact loadFail_kept _ _
    · simp only [chDone_kept, kept_ite, bump_kept, chEffect_kept, newCell_kept, ite_self]

@[simp] theorem chErase_kept (s : State) (x) (y) : (chErase s x y).state.kept = s.kept := by
  unfold State.chErase
  iterate 3 (all_goals (repeat' split); all_goals (try simp_all))

@[simp] theorem chSetMark_kept (s : State) (x) (y) : (chSetMark s x y).state.kept = s.kept := by
  unfold State.chSetMark
  iterate 3 (all_goals (repeat' split); all_goals (try simp_all))

@[simp] theorem chSetPn_kept (s : State) (x) (y) : (chSetPn s x y).state.kept = s.kept := by
  simp only [chSetPn, apply_ite ChAnswer.state, kept_ite, chDone_kept, chNo_kept, setRecord_kept, ite_self]

@[simp] theorem chOn_kept (s : State) (x) (y) (z) (w) : (chOn s x y z w).state.kept = s.kept := by
  simp only [chOn, apply_ite ChAnswer.state, kept_ite, chDone_kept, chNo_kept, setRecord_kept, destroyAt_kept, chLoad_kept, chErase_kept,
    chSetMark_kept, chSetPn_kept, ite_self]

@[simp] theorem chApply_kept (s : State) (x) (y) (z) : (chApply s x y z).state.kept = s.kept := by
  unfold State.chApply
  iterate 3 (all_goals (repeat' split); all_goals (try simp_all))

@[simp] theorem chReport_kept (c : ChnCmd) (a : ChAnswer) : (chReport c a).kept = a.state.kept := by
  unfold State.chReport
  iterate 3 (all_goals (repeat' split); all_goals (try simp_all))

@[simp] theorem chFinish_kept (s : State) (x1) (x2) (x3) (x4) : (chFinish s x1 x2 x3 x4).kept = s.kept := by
  unfold State.chFinish
  dsimp only
  rw [chReport_kept]
  split
  · exact (chNo_kept _ _).trans (chReadFault_kept _ _ _)
  · exact (chApply_kept _ _ _ _).trans (chReadFault_kept _ _ _)

@[simp] theorem notePop_kept (s : State) : (notePop s).kept = s.kept := by
  unfold State.notePop
  repeat' split
  all_goals simp_all

@[simp] theorem releaseKey_kept (s : State) (x1) (x2) (x3) : (releaseKey s x1 x2 x3).kept = s.kept := by
  unfold State.releaseKey
  iterate 3 (all_goals (repeat' split); all_goals (try simp_all))

@[simp] theorem sweepVisit_kept (s : State) (x1) (x2) : (sweepVisit s x1 x2).kept = s.kept := by
  unfold State.sweepVisit
  iterate 3 (all_goals (repeat' split); all_goals (try simp_all))

/-! ### Machine/Cipher.lean -/

@[simp] theorem assocCell_kept (s : State) (x1) : (assocCell s x1).kept = s.kept := by
  unfold State.assocCell
  repeat' split
  all_goals simp_all

@[simp] theorem beginCipher_kept (s : State) (x1) (x2) (x3) (x4) : (beginCipher s x1 x2 x3 x4).kept = s.kept := by
  unfold State.beginCipher
  repeat' split
  all_goals simp_all

@[simp] theorem correct_kept (s : State) (x1) (x2) : (correct s x1 x2).2.kept = s.kept := by
  unfold State.correct
  iterate 3 (all_goals (repeat' split); all_goals (try simp_all))

theorem correct_to {s : State} {x1} {x2} {r} (h : correct s x1 x2 = r) : r.2.kept = s.kept := h ▸ correct_kept s x1 x2

@[simp] theorem countRound_kept (s : State) : (countRound s).kept = s.kept := by
  unfold State.countRound
  repeat' split
  all_goals simp_all
  all_goals (first | done | (have h := fresh_to (by assumption); simp_all))

@[simp] theorem countSealed_kept (s : State) (x1) (x2) (x3) : (countSealed s x1 x2 x3).kept = s.kept := by
  unfold State.countSealed
  iterate 3 (all_goals (repeat' split); all_goals (try simp_all))

@[simp] theorem decideDestroyed_kept (s : State) (x1) : (decideDestroyed s x1).2.kept = s.kept := by
  unfold State.decideDestroyed
  repeat' split
  all_goals simp_all

theorem decideDestroyed_to {s : State} {x1} {r} (h : decideDestroyed s x1 = r) : r.2.kept = s.kept := h ▸ decideDestroyed_kept s x1

@[simp] theorem decideFrame_kept (s : State) (x1) (x2) : (decideFrame s x1 x2).2.kept = s.kept := by
  unfold State.decideFrame
  iterate 3 (all_goals (repeat' split); all_goals (try simp_all))
  all_goals (first | done | (have h := decideDestroyed_to (by assumption); simp_all))

theorem decideFrame_to {s : State} {x1} {x2} {r} (h : decideFrame s x1 x2 = r) : r.2.kept = s.kept := h ▸ decideFrame_kept s x1 x2

@[simp] theorem deliverRx_kept (s : State) (x1) (x2) (x3) : (deliverRx s x1 x2 x3).kept = s.kept := by
  unfold State.deliverRx
  repeat' split
  all_goals simp_all

@[simp] theorem gone_kept (s : State) (x1) (x2) : (gone s x1 x2).kept = s.kept := by
  unfold State.gone
  repeat' split
  all_goals simp_all

@[simp] theorem tsDeparted_kept (s : State) (x1) (x2) : (tsDeparted s x1 x2).kept = s.kept := by
  unfold State.tsDeparted
  repeat' split
  all_goals simp_all

@[simp] theorem etherOut_kept (s : State) (x1) (x2) (x3) (x4) : (etherOut s x1 x2 x3 x4).kept = s.kept := by
  unfold State.etherOut
  repeat' split
  all_goals simp_all

@[simp] theorem departDec_kept (s : State) (x1) (x2) (x3) : (departDec s x1 x2 x3).kept = s.kept := by
  unfold State.departDec
  repeat' split
  all_goals simp_all
  all_goals (first | done | (have h := correct_to (by assumption); simp_all))

@[simp] theorem sealOut_kept (s : State) (x1) (x2) : (sealOut s x1 x2).2.2.kept = s.kept := by
  unfold State.sealOut
  iterate 3 (all_goals (repeat' split); all_goals (try simp_all))
  all_goals (first | done | (have h := correct_to (by assumption); simp_all))

theorem sealOut_to {s : State} {x1} {x2} {r} (h : sealOut s x1 x2 = r) : r.2.2.kept = s.kept := h ▸ sealOut_kept s x1 x2

@[simp] theorem usedSlots_kept (s : State) (x1) (x2) : (usedSlots s x1 x2).kept = s.kept := by
  unfold State.usedSlots
  repeat' split
  all_goals simp_all

@[simp] theorem trunkSend_kept (s : State) (x1) (x2) (x3) (x4) : (trunkSend s x1 x2 x3 x4).kept = s.kept := by
  unfold State.trunkSend
  repeat' split
  all_goals simp_all

@[simp] theorem departEnc_kept (s : State) (x1) (x2) (x3) : (departEnc s x1 x2 x3).kept = s.kept := by
  unfold State.departEnc
  iterate 3 (all_goals (repeat' split); all_goals (try simp_all))
  all_goals (first | done | (have h := sealOut_to (by assumption); simp_all))

@[simp] theorem dropDecided_kept (s : State) (x1) (x2) : (dropDecided s x1 x2).kept = s.kept := by
  unfold State.dropDecided
  repeat' split
  all_goals simp_all

@[simp] theorem pipeError_kept (s : State) (x1) (x2) : (pipeError s x1 x2).kept = s.kept := by
  unfold State.pipeError
  repeat' split
  all_goals simp_all

@[simp] theorem wakeFail_kept (s : State) (x1) : (wakeFail s x1).kept = s.kept := by
  unfold State.wakeFail
  repeat' split
  all_goals simp_all

@[simp] theorem groupWoken_kept (s : State) (x1) (x2) : (groupWoken s x1 x2).kept = s.kept := by
  unfold State.groupWoken
  repeat' split
  all_goals simp_all

@[simp] theorem testResult_kept (s : State) (x1) : (testResult s x1).kept = s.kept := by
  unfold State.testResult
  repeat' split
  all_goals simp_all

@[simp] theorem testStart_kept (s : State) (x1) : (testStart s x1).kept = s.kept := by
  unfold State.testStart
  repeat' split
  all_goals simp_all

@[simp] theorem inject_kept (s : State) (x1) (x2) (x3) : (inject s x1 x2 x3).kept = s.kept := by
  unfold State.inject
  repeat' split
  all_goals simp_all

@[simp] theorem sendOn_kept (s : State) (x1) (x2) (x3) (x4) : (sendOn s x1 x2 x3 x4).kept = s.kept := by
  unfold State.sendOn
  repeat' split
  all_goals simp_all

@[simp] theorem leaveEngine_kept (s : State) (x1) (x2) (x3) : (leaveEngine s x1 x2 x3).kept = s.kept := by
  unfold State.leaveEngine
  repeat' split
  all_goals simp_all

@[simp] theorem roundBoundary_kept (s : State) : (roundBoundary s).kept = s.kept := by
  unfold State.roundBoundary
  repeat' split
  all_goals simp_all

@[simp] theorem rxDecide_kept (s : State) (x1) (x2) (x3) : (rxDecide s x1 x2 x3).kept = s.kept := by
  unfold State.rxDecide
  iterate 3 (all_goals (repeat' split); all_goals (try simp_all))
  all_goals (first | done | (have h := decideFrame_to (by assumption); simp_all) | (have h := correct_to (by assumption); simp_all))

@[simp] theorem spendRest_kept (s : State) (x1) (x2) : (spendRest s x1 x2).kept = s.kept := by
  unfold State.spendRest
  repeat' split
  all_goals simp_all

@[simp] theorem testDone_kept (s : State) (x1) : (testDone s x1).kept = s.kept := by
  unfold State.testDone
  repeat' split
  all_goals simp_all

@[simp] theorem writeBack_kept (s : State) (x1) : (writeBack s x1).kept = s.kept := by
  unfold State.writeBack
  iterate 3 (all_goals (repeat' split); all_goals (try simp_all))

end Sys2Proof.Machine.State
end

