-- ==== Sys2Proof/Laws/KeptSystem.lean ====
section
/-! SUPPORT. What keys, the levee, HBM, events, the partner, mailboxes, monitoring, updates and register accesses keep: the queue, the flash and the minimum security version. -/

namespace Sys2Proof.Machine.State

/-! ### Machine/KeyUnit.lean -/

@[simp] theorem keyAborted_kept (s : State) (x1) (x2) : (keyAborted s x1 x2).kept = s.kept := by
  unfold State.keyAborted
  repeat' split
  all_goals simp_all

@[simp] theorem keyResult_kept (s : State) (x1) : (keyResult s x1).kept = s.kept := by
  unfold State.keyResult
  repeat' split
  all_goals simp_all

@[simp] theorem keyReport_kept (s : State) (x1) (x2) (x3) : (keyReport s x1 x2 x3).kept = s.kept := by
  unfold State.keyReport
  repeat' split
  all_goals simp_all

@[simp] theorem abortCmd_kept (s : State) (x1) : (abortCmd s x1).kept = s.kept := by
  unfold State.abortCmd
  repeat' split
  all_goals simp_all

@[simp] theorem abortMail_kept (s : State) (x1) : (abortMail s x1).kept = s.kept := by
  unfold State.abortMail
  repeat' split
  all_goals simp_all

@[simp] theorem abortKeys_kept (s : State) : (abortKeys s).kept = s.kept := by
  unfold State.abortKeys
  repeat' split
  all_goals simp_all

@[simp] theorem writeDomain_kept (s : State) (x1) (x2) : (writeDomain s x1 x2).kept = s.kept := by
  unfold State.writeDomain
  repeat' split
  all_goals simp_all

@[simp] theorem drawKey_kept (s : State) (x1) : (drawKey s x1).2.kept = s.kept := by
  unfold State.drawKey
  repeat' split
  all_goals simp_all
  all_goals (first | done | (have h := draw_to (by assumption); simp_all))

theorem drawKey_to {s : State} {x1} {r} (h : drawKey s x1 = r) : r.2.kept = s.kept := h ▸ drawKey_kept s x1

@[simp] theorem keyRefused_kept (s : State) : (keyRefused s).kept = s.kept := by
  unfold State.keyRefused
  repeat' split
  all_goals simp_all

@[simp] theorem keyAccept_kept (s : State) (x1) (x2) (x3) (x4) : (keyAccept s x1 x2 x3 x4).kept = s.kept := by
  unfold State.keyAccept
  repeat' split
  all_goals simp_all

@[simp] theorem keyBegin_kept (s : State) (x1) : (keyBegin s x1).kept = s.kept := by
  unfold State.keyBegin
  repeat' split
  all_goals simp_all

@[simp] theorem slotSnapshot_kept (s : State) (x1) : (slotSnapshot s x1).kept = s.kept := by
  unfold State.slotSnapshot
  repeat' split
  all_goals simp_all

theorem inTurn_kept {α : Type} (f : α → State → α × State) (h : ∀ a t, (f a t).2.kept = t.kept) (l : List α) (s : State) :
    (inTurn f l s).2.kept = s.kept := by
  induction l generalizing s with
  | nil => rfl
  | cons a r ih => exact (ih _).trans (h a s)

@[simp] theorem keyInto_kept (s : State) (x1) (x2) (x3) : (keyInto s x1 x2 x3).kept = s.kept := by
  unfold State.keyInto
  repeat' split
  all_goals simp_all
  all_goals (first | done | (have h := newCell_to (by assumption); simp_all))

@[simp] theorem keyApply_kept (s : State) (x1) (x2) : (keyApply s x1 x2).2.2.kept = s.kept := by
  unfold State.keyApply
  iterate 3 (all_goals (repeat' split); all_goals (try simp_all))
  all_goals (first | done | (have h := drawKey_to (by assumption); simp_all))

theorem keyApply_to {s : State} {x1} {x2} {r} (h : keyApply s x1 x2 = r) : r.2.2.kept = s.kept := h ▸ keyApply_kept s x1 x2

@[simp] theorem keyCell_kept (s : State) (x1) : (keyCell s x1).kept = s.kept := by
  unfold State.keyCell
  repeat' split
  all_goals simp_all

@[simp] theorem keyCommand_kept (s : State) (x1) (x2) : (keyCommand s x1 x2).kept = s.kept := by
  unfold State.keyCommand
  repeat' split
  all_goals simp_all

@[simp] theorem keyRun_kept (s : State) (x1) (x2) : (keyRun s x1 x2).2.2.kept = s.kept := by
  unfold State.keyRun
  repeat' split
  all_goals simp_all
  all_goals (first | done | (have h := keyApply_to (by assumption); simp_all))

theorem keyRun_to {s : State} {x1} {x2} {r} (h : keyRun s x1 x2 = r) : r.2.2.kept = s.kept := h ▸ keyRun_kept s x1 x2

@[simp] theorem keyFinish_kept (s : State) (x1) (x2) (x3) : (keyFinish s x1 x2 x3).kept = s.kept := by
  unfold State.keyFinish
  iterate 3 (all_goals (repeat' split); all_goals (try simp_all))
  all_goals (first | done | (have h := keyRun_to (by assumption); simp_all))

@[simp] theorem recompute_kept (s : State) : (recompute s).kept = s.kept := by
  unfold State.recompute
  repeat' split
  all_goals simp_all

@[simp] theorem remaskCell_kept (x0) (s : State) : (remaskCell x0 s).2.kept = s.kept := by
  unfold State.remaskCell
  repeat' split
  all_goals simp_all
  all_goals (first | done | (have h := draw_to (by assumption); simp_all))

theorem remaskCell_to {s : State} {x0} {r} (h : remaskCell x0 s = r) : r.2.kept = s.kept := h ▸ remaskCell_kept x0 s

@[simp] theorem remaskSlot_kept (x0) (s : State) : (remaskSlot x0 s).2.kept = s.kept := by
  exact remaskCell_kept _ _

theorem remaskSlot_to {s : State} {x0} {r} (h : remaskSlot x0 s = r) : r.2.kept = s.kept := h ▸ remaskSlot_kept x0 s

@[simp] theorem remaskChannel_kept (x0) (s : State) : (remaskChannel x0 s).2.kept = s.kept := by
  unfold State.remaskChannel
  split
  · rfl
  · exact inTurn_kept _ (fun a t => remaskSlot_kept a t) _ _

theorem remaskChannel_to {s : State} {x0} {r} (h : remaskChannel x0 s = r) : r.2.kept = s.kept := h ▸ remaskChannel_kept x0 s

@[simp] theorem remaskHeld_kept (x0) (s : State) : (remaskHeld x0 s).2.kept = s.kept := by
  exact remaskCell_kept _ _

theorem remaskHeld_to {s : State} {x0} {r} (h : remaskHeld x0 s = r) : r.2.kept = s.kept := h ▸ remaskHeld_kept x0 s

@[simp] theorem remaskChannels_kept (s : State) : (remaskChannels s).kept = s.kept := by
  exact (inTurn_kept _ (fun a t => remaskHeld_kept a t) _ _).trans
    ((inTurn_kept _ (fun a t => remaskChannel_kept a t) _ _).trans (inTurn_kept _ (fun a t => remaskChannel_kept a t) _ _))

@[simp] theorem remaskKey_kept (x0) (s : State) : (remaskKey x0 s).2.kept = s.kept := by
  unfold State.remaskKey
  split
  · rfl
  · exact remaskCell_kept _ _

theorem remaskKey_to {s : State} {x0} {r} (h : remaskKey x0 s = r) : r.2.kept = s.kept := h ▸ remaskKey_kept x0 s

@[simp] theorem remaskDomain_kept (x0) (s : State) : (remaskDomain x0 s).2.kept = s.kept := by
  exact remaskKey_kept _ _

theorem remaskDomain_to {s : State} {x0} {r} (h : remaskDomain x0 s = r) : r.2.kept = s.kept := h ▸ remaskDomain_kept x0 s

@[simp] theorem remaskDead_kept (x0) (s : State) : (remaskDead x0 s).2.kept = s.kept := by
  exact remaskCell_kept _ _

theorem remaskDead_to {s : State} {x0} {r} (h : remaskDead x0 s = r) : r.2.kept = s.kept := h ▸ remaskDead_kept x0 s

@[simp] theorem remaskDomains_kept (s : State) : (remaskDomains s).kept = s.kept := by
  exact (inTurn_kept _ (fun a t => remaskDead_kept a t) _ _).trans (inTurn_kept _ (fun a t => remaskDomain_kept a t) _ _)

@[simp] theorem remaskDevice_kept (s : State) : (remaskDevice s).kept = s.kept := by
  exact inTurn_kept _ (fun a t => remaskKey_kept a t) _ _

@[simp] theorem remaskAll_kept (s : State) : (remaskAll s).kept = s.kept := by
  unfold State.remaskAll
  repeat' split
  all_goals simp_all

/-! ### Machine/Tamper.lean -/

@[simp] theorem abortUnseal_kept (s : State) : (abortUnseal s).kept = s.kept := by
  unfold State.abortUnseal
  repeat' split
  all_goals simp_all
  all_goals (first | done | (have h := fresh_to (by assumption); simp_all))

@[simp] theorem levLog_kept (s : State) (x1) (x2) (x3) : (levLog s x1 x2 x3).kept = s.kept := by
  unfold State.levLog
  repeat' split
  all_goals simp_all

@[simp] theorem levCause_kept (s : State) (x1) (x2) (x3) : (levCause s x1 x2 x3).kept = s.kept := by
  unfold State.levCause
  repeat' split
  all_goals simp_all

@[simp] theorem destroyAll_kept (s : State) : (destroyAll s).kept = s.kept := by
  unfold State.destroyAll
  refine (kept_foldl (fun t e => ?_) _ _).trans (kept_foldl (fun t e => ?_) _ _) <;> split <;> simp

@[simp] theorem wipe_kept (s : State) : (wipe s).kept = s.kept := by
  unfold State.wipe
  repeat' split
  all_goals simp_all

@[simp] theorem stopCipher_kept (s : State) : (stopCipher s).kept = s.kept := by
  unfold State.stopCipher
  repeat' split
  all_goals simp_all

@[simp] theorem takeZeroize_kept (s : State) (x1) : (takeZeroize s x1).kept = s.kept := by
  unfold State.takeZeroize
  repeat' split
  all_goals simp_all

@[simp] theorem takeLock_kept (s : State) (x1) : (takeLock s x1).kept = s.kept := by
  simp only [takeLock, kept_ite, kept_mk, kept_eta, levLog_kept, levCause_kept, abortKeys_kept, stopCipher_kept, fatalYield_kept, halt_kept,
    ite_self]

@[simp] theorem fire_kept (s : State) (x1) : (fire s x1).kept = s.kept := by
  unfold State.fire
  iterate 3 (all_goals (repeat' split); all_goals (try simp_all))
  all_goals (iterate 2 first | refine (kept_foldl (fun t x => ?_) _ _).trans ?_ | refine (kept_foldl_snd (fun t x => ?_) _ _).trans ?_ | skip)
  iterate 3 (all_goals (repeat' split); all_goals (try simp_all))

@[simp] theorem debugOpen_kept (s : State) : (debugOpen s).kept = s.kept := by
  unfold State.debugOpen
  repeat' split
  all_goals simp_all

@[simp] theorem noteSource_kept (s : State) (x1) (x2) (x3) : (noteSource s x1 x2 x3).kept = s.kept := by
  unfold State.noteSource
  repeat' split
  all_goals simp_all

@[simp] theorem endDisagree_kept (s : State) : (endDisagree s).kept = s.kept := by
  unfold State.endDisagree
  repeat' split
  all_goals simp_all

@[simp] theorem fireRipe_kept (s : State) : (fireRipe s).kept = s.kept := by
  unfold State.fireRipe
  have h : ∀ (l : List Nat) (v : Lev), (l.foldl (fun v n => v.setFilter n { v.filter n with marks := [] }) v).minSv = v.minSv := by
    intro l
    induction l with
    | nil => intro v; rfl
    | cons x r ih => intro v; exact ih _
  simp only [fire_kept, kept_mk, h, kept_eta]

@[simp] theorem levBegin_kept (s : State) (x1) : (levBegin s x1).kept = s.kept := by
  unfold State.levBegin
  repeat' split
  all_goals simp_all

@[simp] theorem refreshTemps_kept (s : State) : (refreshTemps s).kept = s.kept := by
  unfold State.refreshTemps
  repeat' split
  all_goals simp_all

@[simp] theorem writeSetting_kept (s : State) (x1) (x2) (x3) : (writeSetting s x1 x2 x3).kept = s.kept := by
  unfold State.writeSetting
  repeat' split
  all_goals simp_all

@[simp] theorem unlResult_kept (s : State) (x1) : (unlResult s x1).kept = s.kept := by
  unfold State.unlResult
  repeat' split
  all_goals simp_all

@[simp] theorem unlockStart_kept (s : State) (x1) : (unlockStart s x1).2.kept = s.kept := by
  unfold State.unlockStart
  repeat' split
  all_goals simp_all
  all_goals (first | done | (have h := fresh_to (by assumption); simp_all))

theorem unlockStart_to {s : State} {x1} {r} (h : unlockStart s x1 = r) : r.2.kept = s.kept := h ▸ unlockStart_kept s x1

@[simp] theorem unlCommand_kept (s : State) (x1) (x2) : (unlCommand s x1 x2).kept = s.kept := by
  unfold State.unlCommand
  repeat' split
  all_goals simp_all
  all_goals (first | done | (have h := unlockStart_to (by assumption); simp_all))

theorem setRtc_kept (s : State) (l : Lev) (v : Nat) (h : l.minSv = s.lev.minSv) :
    ((({ s with lev := { l with rtc := v } }).levLog 8 0 v).setField Reg.levCmd 24 8 0).kept = s.kept := by
  rw [setField_kept, levLog_kept, kept_mk, h]
  rfl

@[simp] theorem levFinish_kept (s : State) (x1) : (levFinish s x1).kept = s.kept := by
  unfold State.levFinish
  extract_lets
  split
  · exact setRtc_kept s { s.lev with cmd := none } _ rfl
  · split
    · exact setField_kept _ _ _ _ _
    · exact (setField_kept _ _ _ _ _).trans (setWords_kept _ _ _)

@[simp] theorem remaskVault_kept (s : State) : (remaskVault s).kept = s.kept := by
  unfold State.remaskVault
  repeat' split
  all_goals simp_all
  all_goals (first | done | (have h := fresh_to (by assumption); simp_all))

@[simp] theorem qualify_kept (s : State) (x1) : (qualify s x1).kept = s.kept := by
  unfold State.qualify
  repeat' split
  all_goals simp_all

@[simp] theorem watch_kept (s : State) (x1) : (watch s x1).kept = s.kept := by
  unfold State.watch
  repeat' split
  all_goals simp_all

@[simp] theorem levSecond_kept (s : State) : (levSecond s).kept = s.kept := by
  unfold State.levSecond
  iterate 3 (all_goals (repeat' split); all_goals (try simp_all))
  all_goals (iterate 2 first | refine (kept_foldl (fun t x => ?_) _ _).trans ?_ | refine (kept_foldl_snd (fun t x => ?_) _ _).trans ?_ | skip)
  iterate 3 (all_goals (repeat' split); all_goals (try simp_all))

@[simp] theorem liftLock_kept (s : State) : (liftLock s).kept = s.kept := by
  unfold State.liftLock
  repeat' split
  all_goals simp_all

@[simp] theorem unlockCheck_kept (s : State) (x1) : (unlockCheck s x1).2.kept = s.kept := by
  unfold State.unlockCheck
  repeat' split
  all_goals simp_all

theorem unlockCheck_to {s : State} {x1} {r} (h : unlockCheck s x1 = r) : r.2.kept = s.kept := h ▸ unlockCheck_kept s x1

@[simp] theorem sampleTemps_kept (s : State) (x1) (x2) : (sampleTemps s x1 x2).kept = s.kept := by
  unfold State.sampleTemps
  repeat' split
  all_goals simp_all

@[simp] theorem unlDone_kept (s : State) (x1) : (unlDone s x1).kept = s.kept := by
  unfold State.unlDone
  repeat' split
  all_goals simp_all
  all_goals (first | done | (have h := unlockCheck_to (by assumption); simp_all))

/-! ### Machine/HbmUnit.lean -/

@[simp] theorem discardRing_kept (s : State) (x1) : (discardRing s x1).kept = s.kept := by
  unfold State.discardRing
  repeat' split
  all_goals simp_all

@[simp] theorem scrubBad_kept (s : State) (x1) : (scrubBad s x1).kept = s.kept := by
  unfold State.scrubBad
  repeat' split
  all_goals simp_all

@[simp] theorem scrub_kept (s : State) (x1) (x2) (x3) : (scrub s x1 x2 x3).kept = s.kept := by
  unfold State.scrub
  repeat' split
  all_goals simp_all

/-! ### Machine/Events.lean -/

@[simp] theorem ackSource_kept (s : State) (x1) : (ackSource s x1).kept = s.kept := by
  unfold State.ackSource
  repeat' split
  all_goals simp_all

theorem execFeedAbsent_kept (s : State) (f t) (h : execFeedAbsent f s = .next t) : t.kept = s.kept := by
  unfold execFeedAbsent at h
  iterate 3 (all_goals (repeat' split at h); all_goals (try simp_all))
  all_goals (first | done | (subst h; simp) | (simp only [execBothFeedsLost, Host.Outcome.next.injEq] at h; subst h; simp))

@[simp] theorem cutFeed_kept (s : State) (x1) : (cutFeed s x1).kept = s.kept := by
  unfold State.cutFeed
  dsimp only
  rw [setFeed_kept]
  split
  · exact execFeedAbsent_kept _ _ _ (by assumption)
  · rfl

@[simp] theorem dropBurgee_kept (s : State) : (dropBurgee s).kept = s.kept := by
  unfold State.dropBurgee
  repeat' split
  all_goals simp_all

@[simp] theorem restartSteward_kept (s : State) : (restartSteward s).kept = s.kept := by
  unfold State.restartSteward
  repeat' split
  all_goals simp_all

@[simp] theorem goSolo_kept (s : State) : (goSolo s).kept = s.kept := by
  unfold State.goSolo
  repeat' split
  all_goals simp_all

@[simp] theorem escalated_kept (s : State) (x1) (x2) (x3) : (escalated s x1 x2 x3).kept = s.kept := by
  unfold State.escalated
  repeat' split
  all_goals simp_all

@[simp] theorem escalate_kept (s : State) (x1) (x2) : (escalate s x1 x2).kept = s.kept := by
  unfold State.escalate
  repeat' split
  all_goals simp_all

@[simp] theorem guardEnd_kept (s : State) : (guardEnd s).kept = s.kept := by
  unfold State.guardEnd
  repeat' split
  all_goals simp_all

@[simp] theorem handover_kept (s : State) : (handover s).kept = s.kept := by
  unfold State.handover
  repeat' split
  all_goals simp_all

@[simp] theorem histPop_kept (s : State) : (histPop s).kept = s.kept := by
  unfold State.histPop
  repeat' split
  all_goals simp_all

@[simp] theorem loseWarden_kept (s : State) (x1) : (loseWarden s x1).kept = s.kept := by
  unfold State.loseWarden
  repeat' split
  all_goals simp_all

@[simp] theorem msixSend_kept (s : State) (x1) : (msixSend s x1).kept = s.kept := by
  unfold State.msixSend
  repeat' split
  all_goals simp_all

@[simp] theorem setWarden_kept (s : State) (x1) (x2) : (setWarden s x1 x2).kept = s.kept := by
  unfold State.setWarden
  repeat' split
  all_goals simp_all

@[simp] theorem wardenCheck_kept (s : State) (x1) (x2) : (wardenCheck s x1 x2).kept = s.kept := by
  unfold State.wardenCheck
  repeat' split
  all_goals simp_all

/-! ### Machine/PairLink.lean -/

@[simp] theorem becomeActive_kept (s : State) (x1) (x2) : (becomeActive s x1 x2).kept = s.kept := by
  unfold State.becomeActive
  repeat' split
  all_goals simp_all

@[simp] theorem becomeStandby_kept (s : State) (x1) : (becomeStandby s x1).kept = s.kept := by
  unfold State.becomeStandby
  repeat' split
  all_goals simp_all

@[simp] theorem chooseRole_kept (s : State) (x1) : (chooseRole s x1).kept = s.kept := by
  unfold State.chooseRole
  repeat' split
  all_goals simp_all

@[simp] theorem pairResult_kept (s : State) (x1) : (pairResult s x1).kept = s.kept := by
  unfold State.pairResult
  repeat' split
  all_goals simp_all

@[simp] theorem claimIn_kept (s : State) : (claimIn s).kept = s.kept := by
  have h : ∀ t : State, ((({ t with pp := { t.pp with outputs := false, burgee := false } } : State).controlSend 4 false).becomeStandby 1).kept
      = t.kept := by
    intro t
    rw [becomeStandby_kept, controlSend_kept]
    rfl
  have g : (if s.pp.bySwitch then s.pairResult 0 else s).kept = s.kept := by
    rw [kept_ite, pairResult_kept, ite_self]
  unfold State.claimIn
  split
  · exact (h _).trans g
  · rfl

@[simp] theorem heard_kept (s : State) (x1) : (heard s x1).kept = s.kept := by
  unfold State.heard
  repeat' split
  all_goals simp_all

@[simp] theorem controlTake_kept (s : State) (x1) (x2) (x3) (x4) (hx4 : ∀ t y0, (x4 t y0).kept = t.kept) : (controlTake s x1 x2 x3 x4).kept = s.kept := by
  unfold State.controlTake
  repeat' split
  all_goals simp_all [hx4]

@[simp] theorem fleet_kept (s : State) (x1) : (fleet s x1).kept = s.kept := by
  unfold State.fleet
  repeat' split
  all_goals simp_all

@[simp] theorem startYield_kept (s : State) (x1) : (startYield s x1).kept = s.kept := by
  unfold State.startYield
  repeat' split
  all_goals simp_all

@[simp] theorem health_kept (s : State) (x1) : (health s x1).kept = s.kept := by
  unfold State.health
  repeat' split
  all_goals simp_all

@[simp] theorem pairEnable_kept (s : State) (x1) : (pairEnable s x1).kept = s.kept := by
  unfold State.pairEnable
  repeat' split
  all_goals simp_all

@[simp] theorem switch_kept (s : State) : (switch s).kept = s.kept := by
  unfold State.switch
  repeat' split
  all_goals simp_all

@[simp] theorem receive_kept (s : State) (x1) (x2) (x3) (x4) (hx4 : ∀ t y0, (x4 t y0).kept = t.kept) : (receive s x1 x2 x3 x4).kept = s.kept := by
  unfold State.receive
  repeat' split
  all_goals simp_all [hx4]
  all_goals (first | done | (have h := takePassed_kept _ _ _ _ (by assumption); simp_all))

@[simp] theorem yieldIn_kept (s : State) (x1) : (yieldIn s x1).kept = s.kept := by
  unfold State.yieldIn
  repeat' split
  all_goals simp_all

/-! ### Machine/LiveChange.lean -/

@[simp] theorem selectCounter_kept (s : State) (x1) (x2) : (selectCounter s x1 x2).kept = s.kept := by
  unfold State.selectCounter
  split <;> rfl

@[simp] theorem reachSafePoint_kept (s : State) (x1) : (reachSafePoint s x1).kept = s.kept := by
  unfold State.reachSafePoint
  repeat' split
  all_goals simp_all

@[simp] theorem stoppedFramers_kept (s : State) : (stoppedFramers s).kept = s.kept := by
  unfold State.stoppedFramers
  repeat' split
  all_goals simp_all

@[simp] theorem release_kept (s : State) : (release s).kept = s.kept := by
  unfold State.release
  repeat' split
  all_goals simp_all

@[simp] theorem applyWrite_kept (s : State) (x1) (x2) : (applyWrite s x1 x2).kept = s.kept := by
  unfold State.applyWrite
  repeat' split
  all_goals simp_all

@[simp] theorem crossingLost_kept (s : State) (x1) (x2) (x3) : (crossingLost s x1 x2 x3).kept = s.kept := by
  unfold State.crossingLost
  repeat' split
  all_goals simp_all

@[simp] theorem resync_kept (s : State) (x1) (x2) (x3) : (resync s x1 x2 x3).kept = s.kept := by
  unfold State.resync
  iterate 3 (all_goals (repeat' split); all_goals (try simp_all))
  all_goals (iterate 2 first | refine (kept_foldl (fun t x => ?_) _ _).trans ?_ | refine (kept_foldl_snd (fun t x => ?_) _ _).trans ?_ | skip)
  iterate 3 (all_goals (repeat' split); all_goals (try simp_all))

/-! ### Machine/Mailbox.lean -/

@[simp] theorem mbxTake_kept (s : State) (x1) (x2) : (mbxTake s x1 x2).kept = s.kept := by
  unfold State.mbxTake
  repeat' split
  all_goals simp_all

@[simp] theorem doorbell_kept (s : State) : (doorbell s).kept = s.kept := by
  unfold State.doorbell
  repeat' split
  all_goals simp_all

@[simp] theorem flashError_kept (s : State) : (flashError s).2.2.kept = s.kept := by
  unfold State.flashError
  repeat' split
  all_goals simp_all

theorem flashError_to {s : State}  {r} (h : flashError s = r) : r.2.2.kept = s.kept := h ▸ flashError_kept s

theorem flashErase_flashed (ok : Bool) (p : Bytes) (s : State) : Flashed s (flashErase ok p s).2.2 := by
  have e : ∀ (t : State) (c : List Host.Cell), t.kept = s.kept → (s.flashOk = true → Tab.wf (fun _ => 0xFF) c = true) →
      Flashed s { t with flash := c } := by
    intro t c h g
    exact ⟨congrArg Prod.fst h, congrArg (fun x => x.2.2) h, g⟩
  unfold State.flashErase
  split
  · exact .of rfl
  · split
    · exact .of rfl
    · split
      · exact e s _ rfl (Flash.wf_erase _ _ _)
      · exact (e _ _ (fresh_kept s) (Flash.wf_set _ _ _)).then_ (flashError_kept _)

@[simp] theorem flashRead_kept (x0) (s : State) : (flashRead x0 s).2.2.kept = s.kept := by
  unfold State.flashRead
  iterate 3 (all_goals (repeat' split); all_goals (try simp_all))

theorem flashRead_to {s : State} {x0} {r} (h : flashRead x0 s = r) : r.2.2.kept = s.kept := h ▸ flashRead_kept x0 s

theorem flashWrite_flashed (ok : Bool) (p : Bytes) (s : State) : Flashed s (flashWrite ok p s).2.2 := by
  have e : ∀ (t : State) (c : List Host.Cell), t.kept = s.kept → (s.flashOk = true → Tab.wf (fun _ => 0xFF) c = true) →
      Flashed s { t with flash := c } := by
    intro t c h g
    exact ⟨congrArg Prod.fst h, congrArg (fun x => x.2.2) h, g⟩
  unfold State.flashWrite
  dsimp only
  split
  · exact .of rfl
  · split
    · split
      · exact e s _ rfl (Flash.wf_put _ _ _)
      · exact (e s _ rfl (Flash.wf_put _ _ _)).then_ (flashError_kept _)
    · exact (e _ _ (fresh_kept s) (Flash.wf_set _ _ _)).then_ (flashError_kept _)

@[simp] theorem mbxAttestOf_kept (x0) (s : State) : (mbxAttestOf x0 s).2.2.kept = s.kept := by
  unfold State.mbxAttestOf
  repeat' split
  all_goals simp_all

theorem mbxAttestOf_to {s : State} {x0} {r} (h : mbxAttestOf x0 s = r) : r.2.2.kept = s.kept := h ▸ mbxAttestOf_kept x0 s

@[simp] theorem mbxDeliver_kept (s : State) (x1) (x2) : (mbxDeliver s x1 x2).kept = s.kept := by
  unfold State.mbxDeliver
  repeat' split
  all_goals simp_all

@[simp] theorem mbxRespond_kept (s : State) (x1) : (mbxRespond s x1).kept = s.kept := by
  unfold State.mbxRespond
  repeat' split
  all_goals simp_all

theorem mbxRun_flashed (s : State) (m : MbxId) (c : Nat) (f : Bytes → State → Nat × Bytes × State)
    (h : ∀ b t, Flashed t (f b t).2.2) : Flashed s (mbxRun s m c f) := by
  unfold State.mbxRun
  split
  · exact .of rfl
  · split
    · split
      · exact .of (mbxAnswer_kept _ _ _ _ _)
      · exact (h _ s).then_ (mbxAnswer_kept _ _ _ _ _)
    · exact .of rfl

@[simp] theorem mbxRun_kept (s : State) (m : MbxId) (c : Nat) (f : Bytes → State → Nat × Bytes × State)
    (h : ∀ b t, (f b t).2.2.kept = t.kept) : (mbxRun s m c f).kept = s.kept := by
  unfold State.mbxRun
  split
  · rfl
  · split
    · split
      · exact mbxAnswer_kept _ _ _ _ _
      · exact (mbxAnswer_kept _ _ _ _ _).trans (h _ s)
    · rfl

@[simp] theorem mbxUnlock_kept (x0) (s : State) : (mbxUnlock x0 s).2.2.kept = s.kept := by
  unfold State.mbxUnlock
  repeat' split
  all_goals simp_all
  all_goals (first | done | (have h := unlockStart_to (by assumption); simp_all))

theorem mbxUnlock_to {s : State} {x0} {r} (h : mbxUnlock x0 s = r) : r.2.2.kept = s.kept := h ▸ mbxUnlock_kept x0 s

@[simp] theorem mbxUnlockAnswer_kept (x0) (s : State) : (mbxUnlockAnswer x0 s).2.2.kept = s.kept := by
  unfold State.mbxUnlockAnswer
  repeat' split
  all_goals simp_all
  all_goals (first | done | (have h := unlockCheck_to (by assumption); simp_all))

theorem mbxUnlockAnswer_to {s : State} {x0} {r} (h : mbxUnlockAnswer x0 s = r) : r.2.2.kept = s.kept := h ▸ mbxUnlockAnswer_kept x0 s

@[simp] theorem pfxAdd_kept (x0) (s : State) : (pfxAdd x0 s).2.2.kept = s.kept := by
  unfold State.pfxAdd
  iterate 3 (all_goals (repeat' split); all_goals (try simp_all))

theorem pfxAdd_to {s : State} {x0} {r} (h : pfxAdd x0 s = r) : r.2.2.kept = s.kept := h ▸ pfxAdd_kept x0 s

@[simp] theorem pfxDelete_kept (x0) (s : State) : (pfxDelete x0 s).2.2.kept = s.kept := by
  unfold State.pfxDelete
  iterate 3 (all_goals (repeat' split); all_goals (try simp_all))

theorem pfxDelete_to {s : State} {x0} {r} (h : pfxDelete x0 s = r) : r.2.2.kept = s.kept := h ▸ pfxDelete_kept x0 s

/-! ### Machine/Perf.lean -/

@[simp] theorem pmuClear_kept (s : State) : (pmuClear s).kept = s.kept := by
  unfold State.pmuClear
  repeat' split
  all_goals simp_all

@[simp] theorem pmuControlWrite_kept (s : State) (x1) : (pmuControlWrite s x1).kept = s.kept := by
  unfold State.pmuControlWrite
  repeat' split
  all_goals simp_all

@[simp] theorem ringFresh_kept (s : State) : (ringFresh s).kept = s.kept := by
  unfold State.ringFresh
  repeat' split
  all_goals simp_all

@[simp] theorem ringEnable_kept (s : State) (v : Word) : (ringEnable s v).kept = s.kept := by
  have g : (s.storeReg Reg.pmuRingCtrl v).kept = s.kept := storeReg_kept s Reg.pmuRingCtrl v
  unfold State.ringEnable
  revert g
  generalize s.storeReg Reg.pmuRingCtrl v = t
  intro g
  rw [← g, kept_ite, ringFresh_kept]
  exact ite_self _

@[simp] theorem ringData_kept (s : State) (x1) : (ringData s x1).kept = s.kept := by
  unfold State.ringData
  repeat' split
  all_goals simp_all

@[simp] theorem ringPop_kept (s : State) : (ringPop s).kept = s.kept := by
  unfold State.ringPop
  repeat' split
  all_goals simp_all

@[simp] theorem observer_kept (s : State) (x1) (x2) : (observer s x1 x2).kept = s.kept := by
  unfold State.observer
  repeat' split
  all_goals simp_all
  all_goals (first | done | (have h := readReg_to (by assumption); simp_all))

@[simp] theorem ringBad_kept (s : State) : (ringBad s).kept = s.kept := by
  unfold State.ringBad
  repeat' split
  all_goals simp_all

/-! ### Machine/Service.lean -/

@[simp] theorem recalLane_kept (s : State) (x1) : (recalLane s x1).kept = s.kept := by
  unfold State.recalLane
  repeat' split
  all_goals simp_all

@[simp] theorem endTest_kept (s : State) (x1) : (endTest s x1).kept = s.kept := by
  unfold State.endTest
  repeat' split
  all_goals simp_all

@[simp] theorem retireEngine_kept (s : State) (x1) : (retireEngine s x1).kept = s.kept := by
  unfold State.retireEngine
  repeat' split
  all_goals simp_all

@[simp] theorem retirePort_kept (s : State) (x1) (x2) : (retirePort s x1 x2).kept = s.kept := by
  unfold State.retirePort
  repeat' split
  all_goals simp_all

@[simp] theorem retirePair_kept (s : State) (x1) : (retirePair s x1).kept = s.kept := by
  unfold State.retirePair
  repeat' split
  all_goals simp_all

@[simp] theorem retirePipes_kept (s : State) (x1) (x2) : (retirePipes s x1 x2).kept = s.kept := by
  unfold State.retirePipes
  repeat' split
  all_goals simp_all

@[simp] theorem retirePolder_kept (s : State) (x1) : (retirePolder s x1).kept = s.kept := by
  unfold State.retirePolder
  repeat' split
  all_goals simp_all

@[simp] theorem retireUnit_kept (s : State) (x1) : (retireUnit s x1).kept = s.kept := by
  unfold State.retireUnit
  repeat' split
  all_goals simp_all

@[simp] theorem wakeLane_kept (s : State) (x1) (x2) : (wakeLane s x1 x2).kept = s.kept := by
  unfold State.wakeLane
  repeat' split
  all_goals simp_all

@[simp] theorem returnPort_kept (s : State) (x1) (x2) : (returnPort s x1 x2).kept = s.kept := by
  unfold State.returnPort
  repeat' split
  all_goals simp_all

@[simp] theorem returnLane_kept (s : State) (x1) (x2) : (returnLane s x1 x2).kept = s.kept := by
  unfold State.returnLane
  iterate 3 (all_goals (repeat' split); all_goals (try simp_all))

@[simp] theorem returnPair_kept (s : State) (x1) (x2) : (returnPair s x1 x2).kept = s.kept := by
  unfold State.returnPair
  repeat' split
  all_goals simp_all

@[simp] theorem returnPipes_kept (s : State) (x1) : (returnPipes s x1).kept = s.kept := by
  unfold State.returnPipes
  repeat' split
  all_goals simp_all

@[simp] theorem returnPolder_kept (s : State) (x1) : (returnPolder s x1).kept = s.kept := by
  unfold State.returnPolder
  repeat' split
  all_goals simp_all

@[simp] theorem returnUnit_kept (s : State) (x1) (x2) : (returnUnit s x1 x2).kept = s.kept := by
  unfold State.returnUnit
  repeat' split
  all_goals simp_all

@[simp] theorem unitRecal_kept (x0) (s : State) : (unitRecal x0 s).2.2.kept = s.kept := by
  unfold State.unitRecal
  repeat' split
  all_goals simp_all

theorem unitRecal_to {s : State} {x0} {r} (h : unitRecal x0 s = r) : r.2.2.kept = s.kept := h ▸ unitRecal_kept x0 s

@[simp] theorem unitRetire_kept (x0) (s : State) : (unitRetire x0 s).2.2.kept = s.kept := by
  unfold State.unitRetire
  repeat' split
  all_goals simp_all

theorem unitRetire_to {s : State} {x0} {r} (h : unitRetire x0 s = r) : r.2.2.kept = s.kept := h ▸ unitRetire_kept x0 s

@[simp] theorem unitReturn_kept (x0) (x1) (s : State) : (unitReturn x0 x1 s).2.2.kept = s.kept := by
  unfold State.unitReturn
  repeat' split
  all_goals simp_all

theorem unitReturn_to {s : State} {x0} {x1} {r} (h : unitReturn x0 x1 s = r) : r.2.2.kept = s.kept := h ▸ unitReturn_kept x0 x1 s

/-! ### Machine/Update.lean -/

@[simp] theorem clsQuiet_kept (s : State) : (clsQuiet s).kept = s.kept := by
  unfold State.clsQuiet
  repeat' split
  all_goals simp_all

@[simp] theorem renewKey_kept (s : State) (x1) (x2) : (renewKey s x1 x2).kept = s.kept := by
  unfold State.renewKey
  iterate 3 (all_goals (repeat' split); all_goals (try simp_all))
  all_goals (iterate 2 first | refine (kept_foldl (fun t x => ?_) _ _).trans ?_ | refine (kept_foldl_snd (fun t x => ?_) _ _).trans ?_ | skip)
  iterate 3 (all_goals (repeat' split); all_goals (try simp_all))
  iterate 4 (all_goals (try first | (have h := openImport_to (by assumption); dsimp only at h; rw [h]; try simp) | (have h := newCell_to (by assumption); dsimp only at h; rw [h]; try simp)))

theorem kept_bindfold {β : Type} {g : State → β → Option State} (h : ∀ t x r, g t x = some r → r.kept = t.kept) (l : List β) (s t : State)
    (e : l.foldl (fun acc x => acc.bind (fun u => g u x)) (some s) = some t) : t.kept = s.kept :=
  kept_foldl_opt (fun _ => rfl) (fun t x r e => h t x r e) l s t e

theorem stepKeys_kept (s : State) (x1) (x2) (x3) : ∀ t, stepKeys s x1 x2 x3 = some t → t.kept = s.kept := by
  intro t h
  unfold State.stepKeys at h
  dsimp only at h
  split at h
  · cases h
  · cases h
    refine (kept_foldl (fun t x => renewKey_kept t _ _) _ _).trans (kept_foldl (fun t x => ?_) _ _)
    split
    · exact invalidate_kept _ _ _
    · rfl

theorem stepPolicy_kept (s : State) (x1) : ∀ t, stepPolicy s x1 = some t → t.kept = s.kept := by
  unfold State.stepPolicy
  intro t h
  iterate 3 (all_goals (repeat' split at h); all_goals (try simp_all))
  all_goals (first | done | (subst h; simp) | (obtain rfl | rfl := h <;> simp))

@[simp] theorem seedAge_kept (s : State) (x1) (x2) : (seedAge s x1 x2).kept = s.kept := by
  unfold State.seedAge
  repeat' split
  all_goals simp_all

@[simp] theorem seedGone_kept (s : State) (x1) (x2) : (seedGone s x1 x2).kept = s.kept := by
  unfold State.seedGone
  repeat' split
  all_goals simp_all

@[simp] theorem seedDelete_kept (s : State) (x1) (x2) : (seedDelete s x1 x2).kept = s.kept := by
  unfold State.seedDelete
  repeat' split
  all_goals simp_all

theorem seedInsert_kept (s : State) (x1) (x2) : ∀ t, seedInsert s x1 x2 = some t → t.kept = s.kept := by
  intro t h
  unfold State.seedInsert at h
  split at h
  · cases h
  · split at h
    · cases h; exact lkpPut_kept _ _ _ _ _
    · split at h
      · cases h; exact lkpPut_kept _ _ _ _ _
      · cases h
        refine (lqPut_kept _ _).trans ((pmuCount_kept _ _ _ _ _).trans ((bump_kept _ _).trans (lkpPut_kept _ _ _ _ _)))
      · cases h

theorem seedExact_kept (s : State) (x1) (x2) (x3) : ∀ t, seedExact s x1 x2 x3 = some t → t.kept = s.kept := by
  intro t h
  unfold State.seedExact at h
  dsimp only at h
  exact (kept_bindfold (fun t x r e => seedInsert_kept t _ x r e) _ _ _ h).trans (kept_foldl (fun t x => seedDelete_kept t _ _) _ _)

theorem seedHash_kept (s : State) (x1) (x2) (x3) : ∀ t, seedHash s x1 x2 x3 = some t → t.kept = s.kept := by
  intro t h
  unfold State.seedHash at h
  split at h
  · cases h
  · obtain ⟨u, _, rfl⟩ := Option.map_eq_some_iff.1 h
    rfl

theorem seedTrie_kept (s : State) (x1) (x2) (x3) : ∀ t, seedTrie s x1 x2 x3 = some t → t.kept = s.kept := by
  intro t h
  unfold State.seedTrie at h
  split at h
  · cases h
  · obtain ⟨u, _, rfl⟩ := Option.map_eq_some_iff.1 h
    rfl

theorem seedTable_kept (s : State) (x1) (x2) (x3) : ∀ t, seedTable s x1 x2 x3 = some t → t.kept = s.kept := by
  intro t h
  unfold State.seedTable at h
  split at h
  · cases h; rfl
  · obtain ⟨u, _, rfl⟩ := Option.map_eq_some_iff.1 h
    exact (seedAge_kept _ _ _).trans rfl
  · cases h; exact seedGone_kept _ _ _
  · dsimp only at h
    obtain ⟨u, hu, h⟩ := Option.bind_eq_some_iff.1 h
    obtain ⟨v, hv, rfl⟩ := Option.map_eq_some_iff.1 hu
    have e : v.kept = s.kept := by
      split at hv
      · exact seedExact_kept _ _ _ _ _ hv
      · split at hv
        · exact seedHash_kept _ _ _ _ _ hv
        · exact seedTrie_kept _ _ _ _ _ hv
    split at h
    · cases h; exact (seedAge_kept _ _ _).trans e
    · cases h

theorem stepSeeds_kept (s : State) (x1) (x2) : ∀ t, stepSeeds s x1 x2 = some t → t.kept = s.kept := by
  intro t h
  unfold State.stepSeeds at h
  exact kept_bindfold (fun t x r e => seedTable_kept t _ _ _ r e) _ _ _ h

theorem mergePrograms_kept (s : State) (x1) (x2) : ∀ t, mergePrograms s x1 x2 = some t → t.kept = s.kept := by
  intro t h
  unfold State.mergePrograms at h
  refine kept_bindfold (fun t x r e => ?_) _ _ _ h
  split at e
  · cases e; rfl
  · obtain ⟨u, _, rfl⟩ := Option.map_eq_some_iff.1 e
    exact setPolder_kept _ _ _

theorem stepRules_kept (s : State) (x1) : ∀ t, (stepRules s x1 = .ok t ∨ stepRules s x1 = .error t) → t.kept = s.kept := by
  unfold State.stepRules
  intro t h
  iterate 3 (all_goals (repeat' split at h); all_goals (try simp_all))
  all_goals (first | done | (subst h; simp) | (obtain rfl | rfl := h <;> simp))
  all_goals (first | done | (have h := mergePrograms_kept _ _ _ _ (by assumption); simp_all))

@[simp] theorem stepTime_kept (s : State) (x1) : (stepTime s x1).kept = s.kept := by
  unfold State.stepTime
  repeat' split
  all_goals simp_all

@[simp] theorem retable_kept (s : State) (x1) (x2) : (retable s x1 x2).kept = s.kept := by
  unfold State.retable
  repeat' split
  all_goals simp_all

@[simp] theorem stepLanes_kept (s : State) (x1) (x2) : (stepLanes s x1 x2).kept = s.kept := by
  unfold State.stepLanes
  repeat' split
  all_goals simp_all

@[simp] theorem stepPairs_kept (s : State) (x1) : (stepPairs s x1).kept = s.kept := by
  unfold State.stepPairs
  iterate 3 (all_goals (repeat' split); all_goals (try simp_all))

@[simp] theorem stepFirmware_kept (s : State) (x1) : (stepFirmware s x1).kept = s.kept := by
  unfold State.stepFirmware
  repeat' split
  all_goals simp_all

theorem doStep_kept (s : State) (x1) (x2) (x3) (x4) : ∀ t, (doStep s x1 x2 x3 x4 = .ok t ∨ doStep s x1 x2 x3 x4 = .error t) → t.kept = s.kept := by
  have k : ∀ (u : State), u.kept = s.kept → ∀ t, ((.ok u : Except State State) = .ok t ∨ (.ok u : Except State State) = .error t) →
      t.kept = s.kept := by
    intro u hu t h
    obtain h | h := h <;> cases h; exact hu
  intro t h
  unfold State.doStep at h
  dsimp only at h
  split at h
  · split at h
    · exact k _ (stepKeys_kept s _ _ _ _ (by assumption)) t h
    · obtain h | h := h <;> cases h; rfl
  · split at h
    · split at h
      · exact k _ (stepPolicy_kept s _ _ (by assumption)) t h
      · obtain h | h := h <;> cases h; rfl
    · split at h
      · split at h
        · exact k _ (stepSeeds_kept s _ _ _ (by assumption)) t h
        · obtain h | h := h <;> cases h; rfl
      · split at h
        · exact stepRules_kept s _ t h
        · split at h
          · exact k _ (stepTime_kept s _) t h
          · split at h
            · exact k _ (stepLanes_kept s _ _) t h
            · split at h
              · exact k _ (stepPairs_kept s _) t h
              · exact k _ (stepFirmware_kept s _) t h

@[simp] theorem stopPairs_kept (s : State) (x1) : (stopPairs s x1).kept = s.kept := by
  unfold State.stopPairs
  repeat' split
  all_goals simp_all

@[simp] theorem enterStep_kept (s : State) (x1) (x2) : (enterStep s x1 x2).kept = s.kept := by
  unfold State.enterStep
  repeat' split
  all_goals simp_all

@[simp] theorem updResult_kept (s : State) (x1) : (updResult s x1).kept = s.kept := by
  unfold State.updResult
  repeat' split
  all_goals simp_all

@[simp] theorem updAnswer_kept (s : State) (x1) : (updAnswer s x1).kept = s.kept := by
  unfold State.updAnswer
  repeat' split
  all_goals simp_all

@[simp] theorem updEnd_kept (s : State) (x1) : (updEnd s x1).kept = s.kept := by
  unfold State.updEnd
  repeat' split
  all_goals simp_all

theorem newImage_rose (s : State) (j : Image) : Rose s (newImage s j) := by
  unfold State.newImage
  dsimp only
  refine Rose.trans (t := ({ s with run := some j, boot := { s.boot with slot := j.slot } } : State).raiseMinSv)
    (Rose.trans (Rose.of rfl) (raiseMinSv_rose _)) (Rose.of ?_)
  generalize ({ s with run := some j, boot := { s.boot with slot := j.slot } } : State).raiseMinSv = t
  rfl

theorem imgApply_rose (s : State) (m : MbxId) (req : Bytes) : Rose s (imgApply s m req) := by
  have no : ∀ c, Rose s ((s.updResult c).mbxAnswer m req c []) := fun c => .of ((mbxAnswer_kept _ _ _ _ _).trans (updResult_kept _ _))
  have w : ∀ rn, Rose s { s with upd := { s.upd with waiting := some m, records := rn } } := fun rn => .of rfl
  unfold State.imgApply
  dsimp only
  split
  · exact .of (mbxAnswer_kept _ _ _ _ _)
  · split
    · split
      · split
        · exact no _
        · split
          · exact no _
          · split
            · exact (w _).then_ (enterStep_kept _ _ _)
            · exact ((w _).trans (newImage_rose _ _)).then_ (updEnd_kept _ _)
      · exact no _
    · exact .of (mbxAnswer_kept _ _ _ _ _)

@[simp] theorem imgStage_kept (x0) (s : State) : (imgStage x0 s).2.2.kept = s.kept := by
  unfold State.imgStage
  iterate 3 (all_goals (repeat' split); all_goals (try simp_all))

theorem imgStage_to {s : State} {x0} {r} (h : imgStage x0 s = r) : r.2.2.kept = s.kept := h ▸ imgStage_kept x0 s

theorem kept_getD {o : Option State} {s : State} (h : ∀ t, o = some t → t.kept = s.kept) : (o.getD s).kept = s.kept := by
  cases o with
  | none => rfl
  | some t => exact h t rfl

@[simp] theorem restorePolicy_kept (s : State) (x1) : (restorePolicy s x1).kept = s.kept := by
  unfold State.restorePolicy
  split
  · rfl
  · dsimp only
    exact (setRegs_kept _ _).trans (kept_getD (fun t h => (stepPolicy_kept _ _ t h).trans (kept_foldl (fun t x => setReg_kept _ _ _) _ _)))

@[simp] theorem restoreSeeds_kept (s : State) (x1) (x2) : (restoreSeeds s x1 x2).kept = s.kept := by
  exact kept_foldl (fun t x => kept_getD (seedTable_kept t _ _ _)) _ _

@[simp] theorem restoreRules_kept (s : State) (x1) : (restoreRules s x1).kept = s.kept := by
  unfold State.restoreRules
  split
  · exact stepRules_kept _ _ _ (.inl (by assumption))
  · dsimp only
    exact (kept_foldl (fun t x => removePolder_kept _ _) _ _).trans (stepRules_kept _ _ _ (.inr (by assumption)))

@[simp] theorem restore_kept (s : State) (x1) (x2) (x3) : (restore s x1 x2 x3).kept = s.kept := by
  unfold State.restore
  refine kept_foldl (fun t k => ?_) _ _
  split
  · exact restorePolicy_kept _ _
  · split
    · exact restoreSeeds_kept _ _ _
    · split
      · exact restoreRules_kept _ _
      · split
        · exact doStep_kept _ _ _ _ _ _ (.inl (by assumption))
        · exact doStep_kept _ _ _ _ _ _ (.inr (by assumption))

theorem stepDone_rose (s : State) (old new : Image) (ro rn : Records) : Rose s (stepDone s old new ro rn) := by
  unfold State.stepDone
  split
  · rename_i h
    have e := doStep_kept _ _ _ _ _ _ (.inl h)
    split
    · exact .of ((enterStep_kept _ _ _).trans e)
    · exact ((Rose.of e).trans (newImage_rose _ _)).then_ (updEnd_kept _ _)
  · rename_i h
    exact .of ((updEnd_kept _ _).trans ((restore_kept _ _ _ _).trans (doStep_kept _ _ _ _ _ _ (.inr h))))

/-! ### Machine/Manage.lean -/

@[simp] theorem bar2Write_kept (s : State) (x1) (x2) : (bar2Write s x1 x2).kept = s.kept := by
  unfold State.bar2Write
  repeat' split
  all_goals simp_all

@[simp] theorem setCfg_kept (s : State) (x1) (x2) : (setCfg s x1 x2).kept = s.kept := by
  unfold State.setCfg
  repeat' split
  all_goals simp_all

@[simp] theorem cfgWrite_kept (s : State) (x1) (x2) (x3) (x4) : (cfgWrite s x1 x2 x3 x4).kept = s.kept := by
  unfold State.cfgWrite
  repeat' split
  all_goals simp_all

@[simp] theorem clearPending_kept (s : State) (x1) (x2) : (clearPending s x1 x2).kept = s.kept := by
  unfold State.clearPending
  repeat' split
  all_goals simp_all

@[simp] theorem ensignCommand_kept (s : State) (x1) : (ensignCommand s x1).kept = s.kept := by
  unfold State.ensignCommand
  repeat' split
  all_goals simp_all

@[simp] theorem i2cAnswer_kept (s : State) (x1) (x2) : (i2cAnswer s x1 x2).kept = s.kept := by
  unfold State.i2cAnswer
  repeat' split
  all_goals simp_all

@[simp] theorem i2cBad_kept (s : State) : (i2cBad s).kept = s.kept := by
  unfold State.i2cBad
  repeat' split
  all_goals simp_all

@[simp] theorem i2cWords_kept (s : State) (x1) (x2) : (i2cWords s x1 x2).2.kept = s.kept := by
  induction x2 generalizing s x1 with
  | zero => rfl
  | succ n ih =>
    unfold State.i2cWords
    exact (ih _ _).trans (readReg_kept s _ _)

theorem i2cWords_to {s : State} {x1} {x2} {r} (h : i2cWords s x1 x2 = r) : r.2.kept = s.kept := h ▸ i2cWords_kept s x1 x2

@[simp] theorem i2cRead_kept (s : State) (x1) (x2) : (i2cRead s x1 x2).kept = s.kept := by
  unfold State.i2cRead
  repeat' split
  all_goals simp_all
  all_goals (first | done | (have h := i2cWords_to (by assumption); simp_all))

@[simp] theorem i2cRecv_kept (s : State) : (i2cRecv s).kept = s.kept := by
  unfold State.i2cRecv
  repeat' split
  all_goals simp_all

@[simp] theorem i2cSend_kept (s : State) (x1) : (i2cSend s x1).kept = s.kept := by
  unfold State.i2cSend
  repeat' split
  all_goals simp_all

@[simp] theorem onBit_kept (s : State) (x1) (x2) (x3) (hx3 : ∀ t, (x3 t).kept = t.kept) : (onBit s x1 x2 x3).kept = s.kept := by
  unfold State.onBit
  repeat' split
  all_goals simp_all [hx3]

@[simp] theorem writePlain_kept (s : State) (x1) (x2) : (writePlain s x1 x2).kept = s.kept := by
  unfold State.writePlain
  repeat' split
  all_goals simp_all

theorem kept_ite_of {c : Prop} [Decidable c] {s t u : State} (h : s.kept = u.kept) (g : t.kept = u.kept) :
    (if c then s else t).kept = u.kept := by
  split
  · exact h
  · exact g

@[simp] theorem writeLow_kept (s : State) (x1) (x2) : (writeLow s x1 x2).kept = s.kept := by
  unfold State.writeLow
  dsimp only
  repeat' (with_reducible refine kept_ite_of ?_ ?_)
  all_goals with_reducible (first | (refine onBit_kept _ _ _ _ (fun t => ?_); simp) | exact storeReg_kept _ _ _ | rfl | simp)

@[simp] theorem writeTim_kept (s : State) (x1) (x2) : (writeTim s x1 x2).kept = s.kept := by
  unfold State.writeTim
  repeat' split
  all_goals simp_all

@[simp] theorem writeLink_kept (s : State) (x1) (x2) : (writeLink s x1 x2).kept = s.kept := by
  unfold State.writeLink
  repeat' split
  all_goals simp_all

@[simp] theorem lookupCommand_kept (s : State) (x1) : (lookupCommand s x1).kept = s.kept := by
  unfold State.lookupCommand
  repeat' split
  all_goals simp_all

@[simp] theorem writeMid_kept (s : State) (x1) (x2) : (writeMid s x1 x2).kept = s.kept := by
  unfold State.writeMid
  repeat' split
  all_goals simp_all

@[simp] theorem polderCommand_kept (s : State) (x1) : (polderCommand s x1).kept = s.kept := by
  unfold State.polderCommand
  repeat' split
  all_goals simp_all

@[simp] theorem writeHigh_kept (s : State) (x1) (x2) : (writeHigh s x1 x2).kept = s.kept := by
  unfold State.writeHigh
  dsimp only
  repeat' (with_reducible refine kept_ite_of ?_ ?_)
  all_goals with_reducible (first | (refine onBit_kept _ _ _ _ (fun t => ?_); simp) | exact storeReg_kept _ _ _ | rfl | simp)

@[simp] theorem regWrite_kept (s : State) (x1) (x2) : (regWrite s x1 x2).kept = s.kept := by
  unfold State.regWrite
  repeat' split
  all_goals simp_all

@[simp] theorem i2cWrite_kept (s : State) (x1) (x2) : (i2cWrite s x1 x2).kept = s.kept := by
  unfold State.i2cWrite
  repeat' split
  all_goals simp_all

@[simp] theorem linkChange_kept (s : State) (x1) (x2) (x3) : (linkChange s x1 x2 x3).kept = s.kept := by
  unfold State.linkChange
  repeat' split
  all_goals simp_all

@[simp] theorem read_kept (s : State) (x1) (x2) : (read s x1 x2).kept = s.kept := by
  unfold State.read
  repeat' split
  all_goals simp_all

@[simp] theorem write_kept (s : State) (x1) (x2) (x3) (x4) : (write s x1 x2 x3 x4).kept = s.kept := by
  unfold State.write
  repeat' split
  all_goals simp_all

end Sys2Proof.Machine.State
end

