-- ==== Sys2Proof/Laws/KeptExec.lean ====
section
/-! SUPPORT. What the meanings of the commands keep: the queue, the flash and the minimum security version. -/

namespace Sys2Proof.Machine

/-- What a meaning keeps: whatever next state it answers. -/
def Keeps (s : State) (o : Out) : Prop := ∀ t, o = .next t → t.kept = s.kept

theorem Keeps.next {s t : State} (h : t.kept = s.kept) : Keeps s (.next t) := fun _ e => by cases e; exact h

theorem Keeps.refused (s : State) (r : Refusal) : Keeps s (.refused r) := fun _ e => by cases e

theorem Keeps.fault (s : State) (r : Fault) : Keeps s (.fault r) := fun _ e => by cases e

theorem Keeps.ite {s : State} {c : Prop} [Decidable c] {a b : Out} (h : Keeps s a) (g : Keeps s b) : Keeps s (if c then a else b) := by
  split
  · exact h
  · exact g

/-- What the end of a word keeps. -/
def State.WordEnd.Keeps (s : State) : State.WordEnd → Prop
  | .go t _ => t.kept = s.kept
  | .fault _ => True
  | .stop t => t.kept = s.kept

namespace State

theorem runWord_keeps (s : State) (e op : Nat) (sem : State → Nat → Ctx → Nat → Frame → BitVec 64 → WordEnd)
    (h : ∀ k x id f w, (sem s k x id f w).Keeps s) : Machine.Keeps s (s.runWord e op sem) := by
  unfold State.runWord
  split
  · exact .next rfl
  · split
    · exact .next rfl
    · rename_i _ k c _ _ f _
      refine .ite (.next rfl) ?_
      split
      · exact .next (progFault_kept _ _ _ _ _ _ _)
      · refine .ite (.next rfl) ?_
        have := h k c c.frame f ((s.polder (e / 32)).word c.pc)
        dsimp only
        split
        · exact .next (progFault_kept _ _ _ _ _ _ _)
        · rename_i g; rw [g] at this; exact .next this
        · rename_i g; rw [g] at this
          exact .next ((sample_kept _ _ _ _ _ _).trans ((setCtx_kept _ _ _ _).trans ((pmuCount_kept _ _ _ _ _).trans this)))

theorem runPure_keeps (s : State) (e op : Nat) (sem : Ctx → BitVec 64 → WordOut) : Machine.Keeps s (s.runPure e op sem) := by
  refine runWord_keeps _ _ _ _ fun k x id f w => ?_
  split
  · exact rfl
  · exact trivial

end State

/-- What a command keeps that may also start an image: the minimum security version does not fall. -/
def Rises (s : State) (o : Out) : Prop := ∀ t, o = .next t → State.Rose s t

theorem Rises.next {s t : State} (h : State.Rose s t) : Rises s (.next t) := fun _ e => by cases e; exact h

/-- What a command keeps that changes the flash: its canonical form. -/
def KeepsFlashOk (s : State) (o : Out) : Prop := ∀ t, o = .next t → State.Flashed s t

theorem KeepsFlashOk.next {s t : State} (h : State.Flashed s t) : KeepsFlashOk s (.next t) := fun _ e => by cases e; exact h

theorem State.WordEnd.Keeps.ite {s : State} {c : Prop} [Decidable c] {a b : State.WordEnd} (h : a.Keeps s) (g : b.Keeps s) :
    (if c then a else b).Keeps s := by
  split
  · exact h
  · exact g

namespace State

theorem lki_keeps (e : Nat) (parity : Option (Fin 4)) (s : State) (k : Nat) (x : Ctx) (id : Nat) (f : Frame) (w : BitVec 64) :
    (s.lki e parity k x id f w).Keeps s := by
  unfold State.lki
  dsimp only
  refine .ite trivial (.ite (.ite trivial (.ite trivial (.ite (endDrop_kept _ _ _ _ _ _ _ _) ?_))) ?_)
  · have h : ((s.bump (lkpCtr 8)).pmuCount 4 0 1 1).kept = s.kept := by simp
    have g : ∀ (t : State) (p : Prop) [Decidable p] (a b : HbmReq), t.kept = s.kept →
        (if p then t.hbmAsk a else (t.bump (lkpCtr 0x30)).hbmAsk b).kept = s.kept := by
      intro t p _ a b ht
      rw [kept_ite, hbmAsk_kept, hbmAsk_kept, bump_kept, ite_self]
      exact ht
    refine g _ _ _ _ ?_
    split
    · exact (entryFault_kept _ _ _ _).trans h
    · exact h
  · exact lookDie_kept _ _ _ _

theorem lkw_keeps (e : Nat) (s : State) (k : Nat) (x : Ctx) (id : Nat) (f : Frame) (w : BitVec 64) : (s.lkw e k x id f w).Keeps s := by
  unfold State.lkw
  dsimp only
  split
  · exact trivial
  · split
    · exact .ite rfl rfl
    · exact park_kept _ _ _ _ _ _

theorem bind_keeps (e : Nat) (parity : Bool) (s : State) (k : Nat) (x : Ctx) (id : Nat) (f : Frame) (w : BitVec 64) :
    (s.bind e parity k x id f w).Keeps s := by
  unfold State.bind
  dsimp only
  refine .ite trivial (.ite trivial (.ite (.ite (bindFar_kept _ _ _ _ _ _) (endDrop_kept _ _ _ _ _ _ _ _)) ?_))
  have h : ∀ t : State, t.kept = s.kept → ((t.bindTo f ((x.g (AWord.a w)).toNat % 2 ^ 32)).2.2.bound x id f ((x.g (AWord.a w)).toNat % 2 ^ 32)
      (t.bindTo f ((x.g (AWord.a w)).toNat % 2 ^ 32)).1 (t.bindTo f ((x.g (AWord.a w)).toNat % 2 ^ 32)).2.1).1.kept = s.kept :=
    fun t ht => (bound_kept _ _ _ _ _ _ _).trans ((bindTo_kept _ _ _).trans ht)
  have g : (if parity then (if Handle.kind ((x.g (AWord.a w)).toNat % 2 ^ 32) = 1 then (s.bump (chnCtr 0)).pmuCount 5 0 0 1 else s).recordFault false
      (Handle.index ((x.g (AWord.a w)).toNat % 2 ^ 32)) else
      (if Handle.kind ((x.g (AWord.a w)).toNat % 2 ^ 32) = 1 then (s.bump (chnCtr 0)).pmuCount 5 0 0 1 else s)).kept = s.kept := by simp
  exact .ite ((endDrop_kept _ _ _ _ _ _ _ _).trans (h _ g)) (h _ g)

theorem verd_keeps (e : Nat) (s : State) (k : Nat) (x : Ctx) (id : Nat) (f : Frame) (w : BitVec 64) : (s.verd e k x id f w).Keeps s := by
  unfold State.verd
  refine .ite trivial ?_
  exact (sample_kept _ _ _ _ _ _).trans ((sample_kept _ _ _ _ _ _).trans ((pmuCount_kept _ _ _ _ _).trans (endProgram_kept _ _ _ _ _ _ _ _ _ _)))

theorem cnt_keeps (s : State) (x : Ctx) (id : Nat) (f : Frame) (w : BitVec 64) : (s.cnt x id f w).Keeps s := by
  unfold State.cnt
  dsimp only
  refine .ite trivial ?_
  show State.kept _ = _
  split <;> simp

theorem time_keeps (s : State) (x : Ctx) (f : Frame) (w : BitVec 64) : (s.time x f w).Keeps s := by
  unfold State.time
  dsimp only
  exact .ite rfl (.ite (.ite rfl rfl) (fresh_kept s))

theorem lrn_keeps (e : Nat) (s : State) (x : Ctx) (f : Frame) (w : BitVec 64) : (s.lrn e x f w).Keeps s := by
  unfold State.lrn
  dsimp only
  exact .ite trivial (.ite trivial (learnSend_kept _ _))

end State

theorem execPorNAssert_keeps  (s : State) : Keeps s (execPorNAssert s) := by
  unfold execPorNAssert
  repeat' (first | with_reducible refine Keeps.ite ?_ ?_ | split)
  all_goals first | with_reducible exact Keeps.refused _ _ | with_reducible exact Keeps.fault _ _ | with_reducible refine Keeps.next ?_
  all_goals (try simp)

theorem execBothFeedsLost_keeps  (s : State) : Keeps s (execBothFeedsLost s) := by
  unfold execBothFeedsLost
  repeat' (first | with_reducible refine Keeps.ite ?_ ?_ | split)
  all_goals first | with_reducible exact Keeps.refused _ _ | with_reducible exact Keeps.fault _ _ | with_reducible refine Keeps.next ?_
  all_goals (try simp)

theorem execFeedPresent_keeps (f) (s : State) : Keeps s (execFeedPresent f s) := by
  unfold execFeedPresent
  repeat' (first | with_reducible refine Keeps.ite ?_ ?_ | split)
  all_goals first | with_reducible exact Keeps.refused _ _ | with_reducible exact Keeps.fault _ _ | with_reducible refine Keeps.next ?_
  all_goals (try simp)

theorem execFeedAbsent_keeps (f) (s : State) : Keeps s (execFeedAbsent f s) := by
  unfold execFeedAbsent
  dsimp only
  refine .ite (.next (by simp)) (.ite (execBothFeedsLost_keeps s) (.next ?_))
  rw [State.refreshWaits_kept]
  split <;> simp

theorem execFeedSample_keeps (va) (vb) (ia) (ib) (s : State) : Keeps s (execFeedSample va vb ia ib s) := by
  unfold execFeedSample
  repeat' (first | with_reducible refine Keeps.ite ?_ ?_ | split)
  all_goals first | with_reducible exact Keeps.refused _ _ | with_reducible exact Keeps.fault _ _ | with_reducible refine Keeps.next ?_
  all_goals (try simp)

theorem execShedUp_keeps  (s : State) : Keeps s (execShedUp s) := by
  unfold execShedUp
  repeat' (first | with_reducible refine Keeps.ite ?_ ?_ | split)
  all_goals first | with_reducible exact Keeps.refused _ _ | with_reducible exact Keeps.fault _ _ | with_reducible refine Keeps.next ?_
  all_goals (try simp)

theorem execShedDownWaitExpiry_keeps (level) (s : State) : Keeps s (execShedDownWaitExpiry level s) := by
  unfold execShedDownWaitExpiry
  repeat' (first | with_reducible refine Keeps.ite ?_ ?_ | split)
  all_goals first | with_reducible exact Keeps.refused _ _ | with_reducible exact Keeps.fault _ _ | with_reducible refine Keeps.next ?_
  all_goals (try simp)

theorem execMinLevelWrite_keeps (r) (v) (s : State) : Keeps s (execMinLevelWrite r v s) := by
  unfold execMinLevelWrite
  repeat' (first | with_reducible refine Keeps.ite ?_ ?_ | split)
  all_goals first | with_reducible exact Keeps.refused _ _ | with_reducible exact Keeps.fault _ _ | with_reducible refine Keeps.next ?_
  all_goals (try simp)

theorem execFeedOvercurrentTimeout_keeps (f) (s : State) : Keeps s (execFeedOvercurrentTimeout f s) := by
  unfold execFeedOvercurrentTimeout
  repeat' (first | with_reducible refine Keeps.ite ?_ ?_ | split)
  all_goals first | with_reducible exact Keeps.refused _ _ | with_reducible exact Keeps.fault _ _ | with_reducible refine Keeps.next ?_
  all_goals (try simp)

theorem execRefclkSysLost_keeps  (s : State) : Keeps s (execRefclkSysLost s) := by
  unfold execRefclkSysLost
  repeat' (first | with_reducible refine Keeps.ite ?_ ?_ | split)
  all_goals first | with_reducible exact Keeps.refused _ _ | with_reducible exact Keeps.fault _ _ | with_reducible refine Keeps.next ?_
  all_goals (try simp)

theorem execRefclkSysRestored_keeps  (s : State) : Keeps s (execRefclkSysRestored s) := by
  unfold execRefclkSysRestored
  repeat' (first | with_reducible refine Keeps.ite ?_ ?_ | split)
  all_goals first | with_reducible exact Keeps.refused _ _ | with_reducible exact Keeps.fault _ _ | with_reducible refine Keeps.next ?_
  all_goals (try simp)

theorem execRefclkSideLost_keeps (d) (s : State) : Keeps s (execRefclkSideLost d s) := by
  unfold execRefclkSideLost
  repeat' (first | with_reducible refine Keeps.ite ?_ ?_ | split)
  all_goals first | with_reducible exact Keeps.refused _ _ | with_reducible exact Keeps.fault _ _ | with_reducible refine Keeps.next ?_
  all_goals (try simp)

theorem execRefclkSideRestored_keeps (d) (s : State) : Keeps s (execRefclkSideRestored d s) := by
  unfold execRefclkSideRestored
  repeat' (first | with_reducible refine Keeps.ite ?_ ?_ | split)
  all_goals first | with_reducible exact Keeps.refused _ _ | with_reducible exact Keeps.fault _ _ | with_reducible refine Keeps.next ?_
  all_goals (try simp)

theorem execRegulatorFault_keeps (rail) (s : State) : Keeps s (execRegulatorFault rail s) := by
  unfold execRegulatorFault
  repeat' (first | with_reducible refine Keeps.ite ?_ ?_ | split)
  all_goals first | with_reducible exact Keeps.refused _ _ | with_reducible exact Keeps.fault _ _ | with_reducible refine Keeps.next ?_
  all_goals (try simp)

theorem execWarmReset_keeps (r) (s : State) : Keeps s (execWarmReset r s) := by
  unfold execWarmReset
  repeat' (first | with_reducible refine Keeps.ite ?_ ?_ | split)
  all_goals first | with_reducible exact Keeps.refused _ _ | with_reducible exact Keeps.fault _ _ | with_reducible refine Keeps.next ?_
  all_goals (try simp)

theorem execPerstNAssert_keeps  (s : State) : Keeps s (execPerstNAssert s) := by
  unfold execPerstNAssert
  repeat' (first | with_reducible refine Keeps.ite ?_ ?_ | split)
  all_goals first | with_reducible exact Keeps.refused _ _ | with_reducible exact Keeps.fault _ _ | with_reducible refine Keeps.next ?_
  all_goals (try simp)

theorem execPowerOkExit_keeps (board) (aOk) (bOk) (rails) (porHigh) (s : State) : Keeps s (execPowerOkExit board aOk bOk s rails porHigh) := by
  unfold execPowerOkExit
  repeat' (first | with_reducible refine Keeps.ite ?_ ?_ | split)
  all_goals first | with_reducible exact Keeps.refused _ _ | with_reducible exact Keeps.fault _ _ | with_reducible refine Keeps.next ?_
  all_goals (try simp)

theorem execLeveeCheckDone_keeps (upset) (s : State) : Keeps s (execLeveeCheckDone s upset) := by
  unfold execLeveeCheckDone
  repeat' (first | with_reducible refine Keeps.ite ?_ ?_ | split)
  all_goals first | with_reducible exact Keeps.refused _ _ | with_reducible exact Keeps.fault _ _ | with_reducible refine Keeps.next ?_
  all_goals (try simp)

theorem execImageFetchDone_keeps  (s : State) : Keeps s (execImageFetchDone s) := by
  unfold execImageFetchDone
  repeat' (first | with_reducible refine Keeps.ite ?_ ?_ | split)
  all_goals first | with_reducible exact Keeps.refused _ _ | with_reducible exact Keeps.fault _ _ | with_reducible refine Keeps.next ?_
  all_goals (try simp)

theorem execFlashReadTimeout_keeps (addr) (s : State) : Keeps s (execFlashReadTimeout s addr) := by
  unfold execFlashReadTimeout
  repeat' (first | with_reducible refine Keeps.ite ?_ ?_ | split)
  all_goals first | with_reducible exact Keeps.refused _ _ | with_reducible exact Keeps.fault _ _ | with_reducible refine Keeps.next ?_
  all_goals (try simp)

theorem execImageAuthDone_keeps  (s : State) : Keeps s (execImageAuthDone  s) := by
  unfold execImageAuthDone
  refine .ite ?_ (.next rfl)
  dsimp only
  split
  · exact .next (State.imageFail_kept _ _)
  · exact .next rfl

theorem execKeyUnsealDone_keeps (katOk) (nonceOk) (s : State) : Keeps s (execKeyUnsealDone katOk nonceOk s) := by
  unfold execKeyUnsealDone
  repeat' (first | with_reducible refine Keeps.ite ?_ ?_ | split)
  all_goals first | with_reducible exact Keeps.refused _ _ | with_reducible exact Keeps.fault _ _ | with_reducible refine Keeps.next ?_
  all_goals (try simp)

theorem execHbmTrainDone_keeps (ok) (s : State) : Keeps s (execHbmTrainDone ok s) := by
  unfold execHbmTrainDone
  repeat' (first | with_reducible refine Keeps.ite ?_ ?_ | split)
  all_goals first | with_reducible exact Keeps.refused _ _ | with_reducible exact Keeps.fault _ _ | with_reducible refine Keeps.next ?_
  all_goals (try simp)

theorem execLaneBringupDone_keeps  (s : State) : Keeps s (execLaneBringupDone s) := by
  unfold execLaneBringupDone
  repeat' (first | with_reducible refine Keeps.ite ?_ ?_ | split)
  all_goals first | with_reducible exact Keeps.refused _ _ | with_reducible exact Keeps.fault _ _ | with_reducible refine Keeps.next ?_
  all_goals (try simp)

theorem execLaneBringupTimeout_keeps  (s : State) : Keeps s (execLaneBringupTimeout s) := by
  unfold execLaneBringupTimeout
  repeat' (first | with_reducible refine Keeps.ite ?_ ?_ | split)
  all_goals first | with_reducible exact Keeps.refused _ _ | with_reducible exact Keeps.fault _ _ | with_reducible refine Keeps.next ?_
  all_goals (try simp)

theorem enginesEnd_rises (s t : State) (l : List Nat) (b : Bool) (g : t.kept = s.kept) :
    State.Rose s (l.foldl (fun (t : State) p => t.removePolder p)
      ({ t with boot := { t.boot with badPolders := l, programFault := b } } : State)).enterRun := by
  have a : ({ t with boot := { t.boot with badPolders := l, programFault := b } } : State).kept = t.kept := rfl
  revert a
  generalize ({ t with boot := { t.boot with badPolders := l, programFault := b } } : State) = u
  intro a
  have c : (l.foldl (fun (t : State) p => t.removePolder p) u).kept = u.kept :=
    State.kept_foldl (fun t x => State.removePolder_kept t x) l u
  exact (State.Rose.of (c.trans (a.trans g))).trans (State.enterRun_rose _)

theorem execEnginesLoadDone_rises (bad) (s : State) : Rises s (execEnginesLoadDone bad s) := by
  unfold execEnginesLoadDone
  split
  · split
    · exact .next (.of (State.imageFail_kept _ _))
    · rename_i t h
      have g := State.loadEngines_kept _ _ h
      generalize Bits.ones bad.toNat 32 = l
      exact .next (enginesEnd_rises s t l (t.boot.programFault || !l.isEmpty) g)
  · exact .next (.of rfl)

theorem execBringupStateTimeout_keeps  (s : State) : Keeps s (execBringupStateTimeout s) := by
  unfold execBringupStateTimeout
  repeat' (first | with_reducible refine Keeps.ite ?_ ?_ | split)
  all_goals first | with_reducible exact Keeps.refused _ _ | with_reducible exact Keeps.fault _ _ | with_reducible refine Keeps.next ?_
  all_goals (try simp)

theorem execImgStage_keeps (m) (s : State) : Keeps s (execImgStage m s) := by
  unfold execImgStage
  repeat' (first | with_reducible refine Keeps.ite ?_ ?_ | split)
  all_goals first | with_reducible exact Keeps.refused _ _ | with_reducible exact Keeps.fault _ _ | with_reducible refine Keeps.next ?_
  all_goals (try simp)

theorem execImgApply_rises (m) (s : State) : Rises s (execImgApply m s) := by
  unfold execImgApply
  split
  · exact .next (.of rfl)
  · split
    · exact .next (.of rfl)
    · split
      · exact .next (.of (State.mbxAnswer_kept _ _ _ _ _))
      · exact .next (State.imgApply_rose _ _ _)

theorem execImgApplyStepDone_rises  (s : State) : Rises s (execImgApplyStepDone  s) := by
  unfold execImgApplyStepDone
  split
  · exact .next (.of rfl)
  · split
    · split
      · split
        · exact .next (State.stepDone_rose _ _ _ _ _)
        · exact .next (.of rfl)
      · exact .next (.of rfl)
    · exact .next (.of rfl)

theorem execUnitRetire_keeps (m) (s : State) : Keeps s (execUnitRetire m s) := by
  unfold execUnitRetire
  repeat' (first | with_reducible refine Keeps.ite ?_ ?_ | split)
  all_goals first | with_reducible exact Keeps.refused _ _ | with_reducible exact Keeps.fault _ _ | with_reducible refine Keeps.next ?_
  all_goals (try simp)

theorem execUnitReturn_keeps (m) (ok) (s : State) : Keeps s (execUnitReturn m ok s) := by
  unfold execUnitReturn
  repeat' (first | with_reducible refine Keeps.ite ?_ ?_ | split)
  all_goals first | with_reducible exact Keeps.refused _ _ | with_reducible exact Keeps.fault _ _ | with_reducible refine Keeps.next ?_
  all_goals (try simp)

theorem execUnitRecal_keeps (m) (s : State) : Keeps s (execUnitRecal m s) := by
  unfold execUnitRecal
  repeat' (first | with_reducible refine Keeps.ite ?_ ?_ | split)
  all_goals first | with_reducible exact Keeps.refused _ _ | with_reducible exact Keeps.fault _ _ | with_reducible refine Keeps.next ?_
  all_goals (try simp)

theorem execLaneWake_keeps (l) (pllOk) (s : State) : Keeps s (execLaneWake l pllOk s) := by
  unfold execLaneWake
  repeat' (first | with_reducible refine Keeps.ite ?_ ?_ | split)
  all_goals first | with_reducible exact Keeps.refused _ _ | with_reducible exact Keeps.fault _ _ | with_reducible refine Keeps.next ?_
  all_goals (try simp)

theorem execLaneSignalDetect_keeps (l) (s : State) : Keeps s (execLaneSignalDetect l s) := by
  unfold execLaneSignalDetect
  repeat' (first | with_reducible refine Keeps.ite ?_ ?_ | split)
  all_goals first | with_reducible exact Keeps.refused _ _ | with_reducible exact Keeps.fault _ _ | with_reducible refine Keeps.next ?_
  all_goals (try simp)

theorem execFomWindow_keeps (l) (eye) (done) (prbs) (s : State) : Keeps s (execFomWindow l eye done s prbs) := by
  unfold execFomWindow
  repeat' (first | with_reducible refine Keeps.ite ?_ ?_ | split)
  all_goals first | with_reducible exact Keeps.refused _ _ | with_reducible exact Keeps.fault _ _ | with_reducible refine Keeps.next ?_
  all_goals (try simp)

theorem execCoeffRequestRx_keeps (l) (tap) (up) (s : State) : Keeps s (execCoeffRequestRx l tap up s) := by
  unfold execCoeffRequestRx
  repeat' (first | with_reducible refine Keeps.ite ?_ ?_ | split)
  all_goals first | with_reducible exact Keeps.refused _ _ | with_reducible exact Keeps.fault _ _ | with_reducible refine Keeps.next ?_
  all_goals (try simp)

theorem execTrainTimeout_keeps (l) (s : State) : Keeps s (execTrainTimeout l s) := by
  unfold execTrainTimeout
  repeat' (first | with_reducible refine Keeps.ite ?_ ?_ | split)
  all_goals first | with_reducible exact Keeps.refused _ _ | with_reducible exact Keeps.fault _ _ | with_reducible refine Keeps.next ?_
  all_goals (try simp)

theorem execWordLockAcquired_keeps (l) (s : State) : Keeps s (execWordLockAcquired l s) := by
  unfold execWordLockAcquired
  repeat' (first | with_reducible refine Keeps.ite ?_ ?_ | split)
  all_goals first | with_reducible exact Keeps.refused _ _ | with_reducible exact Keeps.fault _ _ | with_reducible refine Keeps.next ?_
  all_goals (try simp)

theorem execLockTimeout_keeps (l) (s : State) : Keeps s (execLockTimeout l s) := by
  unfold execLockTimeout
  repeat' (first | with_reducible refine Keeps.ite ?_ ?_ | split)
  all_goals first | with_reducible exact Keeps.refused _ _ | with_reducible exact Keeps.fault _ _ | with_reducible refine Keeps.next ?_
  all_goals (try simp)

theorem execCapabilityWordAssembled_keeps (l) (s : State) : Keeps s (execCapabilityWordAssembled l s) := by
  unfold execCapabilityWordAssembled
  repeat' (first | with_reducible refine Keeps.ite ?_ ?_ | split)
  all_goals first | with_reducible exact Keeps.refused _ _ | with_reducible exact Keeps.fault _ _ | with_reducible refine Keeps.next ?_
  all_goals (try simp)

theorem execExchangeTimeout_keeps (l) (s : State) : Keeps s (execExchangeTimeout l s) := by
  unfold execExchangeTimeout
  repeat' (first | with_reducible refine Keeps.ite ?_ ?_ | split)
  all_goals first | with_reducible exact Keeps.refused _ _ | with_reducible exact Keeps.fault _ _ | with_reducible refine Keeps.next ?_
  all_goals (try simp)

theorem execSignalLoss_keeps (l) (s : State) : Keeps s (execSignalLoss l s) := by
  unfold execSignalLoss
  repeat' (first | with_reducible refine Keeps.ite ?_ ?_ | split)
  all_goals first | with_reducible exact Keeps.refused _ _ | with_reducible exact Keeps.fault _ _ | with_reducible refine Keeps.next ?_
  all_goals (try simp)

theorem execBitLockLoss_keeps (l) (s : State) : Keeps s (execBitLockLoss l s) := by
  unfold execBitLockLoss
  repeat' (first | with_reducible refine Keeps.ite ?_ ?_ | split)
  all_goals first | with_reducible exact Keeps.refused _ _ | with_reducible exact Keeps.fault _ _ | with_reducible refine Keeps.next ?_
  all_goals (try simp)

theorem execWordLockLoss_keeps (l) (s : State) : Keeps s (execWordLockLoss l s) := by
  unfold execWordLockLoss
  repeat' (first | with_reducible refine Keeps.ite ?_ ?_ | split)
  all_goals first | with_reducible exact Keeps.refused _ _ | with_reducible exact Keeps.fault _ _ | with_reducible refine Keeps.next ?_
  all_goals (try simp)

theorem execFomUpdate_keeps (l) (eye) (prbs) (s : State) : Keeps s (execFomUpdate l eye s prbs) := by
  unfold execFomUpdate
  repeat' (first | with_reducible refine Keeps.ite ?_ ?_ | split)
  all_goals first | with_reducible exact Keeps.refused _ _ | with_reducible exact Keeps.fault _ _ | with_reducible refine Keeps.next ?_
  all_goals (try simp)

theorem execPllLockFail_keeps (l) (s : State) : Keeps s (execPllLockFail l s) := by
  unfold execPllLockFail
  repeat' (first | with_reducible refine Keeps.ite ?_ ?_ | split)
  all_goals first | with_reducible exact Keeps.refused _ _ | with_reducible exact Keeps.fault _ _ | with_reducible refine Keeps.next ?_
  all_goals (try simp)

theorem execLaneCalMeasureDone_keeps (l) (tx) (rx) (inRange) (s : State) : Keeps s (execLaneCalMeasureDone l tx rx inRange s) := by
  unfold execLaneCalMeasureDone
  repeat' (first | with_reducible refine Keeps.ite ?_ ?_ | split)
  all_goals first | with_reducible exact Keeps.refused _ _ | with_reducible exact Keeps.fault _ _ | with_reducible refine Keeps.next ?_
  all_goals (try simp)

theorem execLaneCalTempUpdate_keeps (l) (tx) (rx) (s : State) : Keeps s (execLaneCalTempUpdate l tx rx s) := by
  unfold execLaneCalTempUpdate
  repeat' (first | with_reducible refine Keeps.ite ?_ ?_ | split)
  all_goals first | with_reducible exact Keeps.refused _ _ | with_reducible exact Keeps.fault _ _ | with_reducible refine Keeps.next ?_
  all_goals (try simp)

theorem execMarkerSend_keeps (l) (ph) (s : State) : Keeps s (execMarkerSend l ph s) := by
  unfold execMarkerSend
  repeat' (first | with_reducible refine Keeps.ite ?_ ?_ | split | dsimp only | with_reducible refine Keeps.next ?_)
  all_goals (try simp)
  all_goals (split <;> simp)

theorem execMarkerReceived_keeps (l) (syms) (occupancy) (s : State) : Keeps s (execMarkerReceived l syms occupancy s) := by
  unfold execMarkerReceived
  repeat' (first | with_reducible refine Keeps.ite ?_ ?_ | split)
  all_goals first | with_reducible exact Keeps.refused _ _ | with_reducible exact Keeps.fault _ _ | with_reducible refine Keeps.next ?_
  all_goals (try simp)

theorem execElasticBufferSlip_keeps (l) (s : State) : Keeps s (execElasticBufferSlip l s) := by
  unfold execElasticBufferSlip
  repeat' (first | with_reducible refine Keeps.ite ?_ ?_ | split)
  all_goals first | with_reducible exact Keeps.refused _ _ | with_reducible exact Keeps.fault _ _ | with_reducible refine Keeps.next ?_
  all_goals (try simp)

theorem execLanePatternWrite_keeps (r) (l) (v) (s : State) : Keeps s (execLanePatternWrite r l v s) := by
  unfold execLanePatternWrite
  repeat' (first | with_reducible refine Keeps.ite ?_ ?_ | split)
  all_goals first | with_reducible exact Keeps.refused _ _ | with_reducible exact Keeps.fault _ _ | with_reducible refine Keeps.next ?_
  all_goals (try simp)

theorem execLaneNearLoopWrite_keeps (r) (l) (v) (s : State) : Keeps s (execLaneNearLoopWrite r l v s) := by
  unfold execLaneNearLoopWrite
  repeat' (first | with_reducible refine Keeps.ite ?_ ?_ | split)
  all_goals first | with_reducible exact Keeps.refused _ _ | with_reducible exact Keeps.fault _ _ | with_reducible refine Keeps.next ?_
  all_goals (try simp)

theorem execLaneClrCounts_keeps (l) (s : State) : Keeps s (execLaneClrCounts l s) := by
  unfold execLaneClrCounts
  repeat' (first | with_reducible refine Keeps.ite ?_ ?_ | split)
  all_goals first | with_reducible exact Keeps.refused _ _ | with_reducible exact Keeps.fault _ _ | with_reducible refine Keeps.next ?_
  all_goals (try simp)

theorem execFomRead_keeps (r) (l) (s : State) : Keeps s (execFomRead r l s) := by
  unfold execFomRead
  repeat' (first | with_reducible refine Keeps.ite ?_ ?_ | split)
  all_goals first | with_reducible exact Keeps.refused _ _ | with_reducible exact Keeps.fault _ _ | with_reducible refine Keeps.next ?_
  all_goals (try simp)

theorem execPeerCapHiRead_keeps (r) (l) (s : State) : Keeps s (execPeerCapHiRead r l s) := by
  unfold execPeerCapHiRead
  repeat' (first | with_reducible refine Keeps.ite ?_ ?_ | split)
  all_goals first | with_reducible exact Keeps.refused _ _ | with_reducible exact Keeps.fault _ _ | with_reducible refine Keeps.next ?_
  all_goals (try simp)

theorem execFrameArrival_keeps (p) (dec) (ph) (lane) (b) (wd) (s : State) : Keeps s (execFrameArrival p dec ph lane b s wd) := by
  unfold execFrameArrival
  dsimp only
  repeat' (first | with_reducible refine Keeps.ite ?_ ?_ | split)
  all_goals with_reducible refine Keeps.next ?_
  all_goals first
    | simp; done
    | (rename_i h; have := State.takePassed_kept _ _ _ _ h; simpa using this)
    | (rename_i h _; have := State.received_to h; simpa using this)
    | (rename_i h _ _; have := State.received_to h; simpa using this)

theorem execPortFrameRx_keeps (id) (er) (fec) (s : State) : Keeps s (execPortFrameRx id er s fec) := by
  unfold execPortFrameRx
  split
  · exact .next rfl
  · rename_i f _
    refine .ite (.next rfl) ?_
    have h := (State.addOctets_kept (s.fecCount f fec) f).trans (State.fecCount_kept s f fec)
    revert h
    dsimp only
    generalize (s.fecCount f fec).addOctets f = t
    intro h
    split
    · refine .ite (.next ?_) (.next ?_)
      · rw [State.dropFrame_kept, State.setFrame_kept]
        exact h
      · rw [State.delFrame_kept]
        exact h
    · have g : ∀ a b n, ((t.bump a).add b n).kept = s.kept := fun a b n => by rw [State.add_kept, State.bump_kept]; exact h
      refine .ite (.next ?_) (.ite (.next ?_) (.ite (.next ?_) (.next ?_)))
      · rw [State.dropFrame_kept, State.setFrame_kept]
        exact g _ _ _
      · rw [State.delFrame_kept]
        exact g _ _ _
      · rw [State.toSteward_kept]
        exact g _ _ _
      · rw [State.setFrame_kept]
        exact g _ _ _

theorem execPcsLockChange_keeps (d) (n) (pcs) (fec) (s : State) : Keeps s (execPcsLockChange d n pcs fec s) := by
  unfold execPcsLockChange
  repeat' (first | with_reducible refine Keeps.ite ?_ ?_ | split)
  all_goals first | with_reducible exact Keeps.refused _ _ | with_reducible exact Keeps.fault _ _ | with_reducible refine Keeps.next ?_
  all_goals (try simp)

theorem execLocalFaultRx_keeps (d) (n) (on) (s : State) : Keeps s (execLocalFaultRx d n on s) := by
  unfold execLocalFaultRx
  repeat' (first | with_reducible refine Keeps.ite ?_ ?_ | split)
  all_goals first | with_reducible exact Keeps.refused _ _ | with_reducible exact Keeps.fault _ _ | with_reducible refine Keeps.next ?_
  all_goals (try simp)

theorem execRemoteFaultRx_keeps (d) (n) (on) (s : State) : Keeps s (execRemoteFaultRx d n on s) := by
  unfold execRemoteFaultRx
  repeat' (first | with_reducible refine Keeps.ite ?_ ?_ | split)
  all_goals first | with_reducible exact Keeps.refused _ _ | with_reducible exact Keeps.fault _ _ | with_reducible refine Keeps.next ?_
  all_goals (try simp)

theorem execHiSer_keeps (d) (n) (s : State) : Keeps s (execHiSer d n s) := by
  unfold execHiSer
  repeat' (first | with_reducible refine Keeps.ite ?_ ?_ | split)
  all_goals first | with_reducible exact Keeps.refused _ _ | with_reducible exact Keeps.fault _ _ | with_reducible refine Keeps.next ?_
  all_goals (try simp)

theorem execPortClrCounts_keeps (d) (n) (s : State) : Keeps s (execPortClrCounts d n s) := by
  unfold execPortClrCounts
  repeat' (first | with_reducible refine Keeps.ite ?_ ?_ | split)
  all_goals first | with_reducible exact Keeps.refused _ _ | with_reducible exact Keeps.fault _ _ | with_reducible refine Keeps.next ?_
  all_goals (try simp)

theorem execPcsLoopWrite_keeps (r) (d) (n) (v) (s : State) : Keeps s (execPcsLoopWrite r d n v s) := by
  unfold execPcsLoopWrite
  repeat' (first | with_reducible refine Keeps.ite ?_ ?_ | split)
  all_goals first | with_reducible exact Keeps.refused _ _ | with_reducible exact Keeps.fault _ _ | with_reducible refine Keeps.next ?_
  all_goals (try simp)

theorem execCounterLoRead_keeps (r) (addr) (s : State) : Keeps s (execCounterLoRead r addr s) := by
  unfold execCounterLoRead
  repeat' (first | with_reducible refine Keeps.ite ?_ ?_ | split)
  all_goals first | with_reducible exact Keeps.refused _ _ | with_reducible exact Keeps.fault _ _ | with_reducible refine Keeps.next ?_
  all_goals (try simp)

theorem execDeskewFail_keeps (n) (s : State) : Keeps s (execDeskewFail n s) := by
  unfold execDeskewFail
  repeat' (first | with_reducible refine Keeps.ite ?_ ?_ | split)
  all_goals first | with_reducible exact Keeps.refused _ _ | with_reducible exact Keeps.fault _ _ | with_reducible refine Keeps.next ?_
  all_goals (try simp)

theorem execTrunkHeaderCheck_keeps (n) (more) (s : State) : Keeps s (execTrunkHeaderCheck n more s) := by
  unfold execTrunkHeaderCheck
  repeat' (first | with_reducible refine Keeps.ite ?_ ?_ | split)
  all_goals first | with_reducible exact Keeps.refused _ _ | with_reducible exact Keeps.fault _ _ | with_reducible refine Keeps.next ?_
  all_goals (try simp)

theorem execForceHunt_keeps (n) (s : State) : Keeps s (execForceHunt n s) := by
  unfold execForceHunt
  repeat' (first | with_reducible refine Keeps.ite ?_ ?_ | split)
  all_goals first | with_reducible exact Keeps.refused _ _ | with_reducible exact Keeps.fault _ _ | with_reducible refine Keeps.next ?_
  all_goals (try simp)

theorem execTrkClrCounts_keeps (n) (s : State) : Keeps s (execTrkClrCounts n s) := by
  unfold execTrkClrCounts
  repeat' (first | with_reducible refine Keeps.ite ?_ ?_ | split)
  all_goals first | with_reducible exact Keeps.refused _ _ | with_reducible exact Keeps.fault _ _ | with_reducible refine Keeps.next ?_
  all_goals (try simp)

theorem execMonitorSend_keeps (n) (s : State) : Keeps s (execMonitorSend n s) := by
  unfold execMonitorSend
  repeat' (first | with_reducible refine Keeps.ite ?_ ?_ | split)
  all_goals first | with_reducible exact Keeps.refused _ _ | with_reducible exact Keeps.fault _ _ | with_reducible refine Keeps.next ?_
  all_goals (try simp)

theorem execMonitorRx_keeps (n) (payload) (s : State) : Keeps s (execMonitorRx n payload s) := by
  unfold execMonitorRx
  repeat' (first | with_reducible refine Keeps.ite ?_ ?_ | split)
  all_goals with_reducible refine Keeps.next ?_
  all_goals first
    | simp; done
    | (rename_i h; have := State.takePassed_kept _ _ _ _ h; simpa using this)

theorem execPmSecondClose_keeps (n) (s : State) : Keeps s (execPmSecondClose n s) := by
  unfold execPmSecondClose
  repeat' (first | with_reducible refine Keeps.ite ?_ ?_ | split)
  all_goals first | with_reducible exact Keeps.refused _ _ | with_reducible exact Keeps.fault _ _ | with_reducible refine Keeps.next ?_
  all_goals (try simp)

theorem execCircuitEnableWrite_keeps (r) (c) (v) (s : State) : Keeps s (execCircuitEnableWrite r c v s) := by
  unfold execCircuitEnableWrite
  repeat' (first | with_reducible refine Keeps.ite ?_ ?_ | split)
  all_goals first | with_reducible exact Keeps.refused _ _ | with_reducible exact Keeps.fault _ _ | with_reducible refine Keeps.next ?_
  all_goals (try simp)

theorem execPlayoutInstant_keeps (c) (s : State) : Keeps s (execPlayoutInstant c s) := by
  unfold execPlayoutInstant
  repeat' (first | with_reducible refine Keeps.ite ?_ ?_ | split)
  all_goals first | with_reducible exact Keeps.refused _ _ | with_reducible exact Keeps.fault _ _ | with_reducible refine Keeps.next ?_
  all_goals (try simp)

theorem execPlayoutEmit_keeps (c) (s : State) : Keeps s (execPlayoutEmit c s) := by
  unfold execPlayoutEmit
  dsimp only
  split
  · exact .next rfl
  · exact .ite (.next (by simp)) (.ite (.next (by simp)) (.next rfl))

theorem execClassifierHandoff_keeps (id) (err) (s : State) : Keeps s (execClassifierHandoff id err s) := by
  unfold execClassifierHandoff
  repeat' (first | with_reducible refine Keeps.ite ?_ ?_ | split)
  all_goals first | with_reducible exact Keeps.refused _ _ | with_reducible exact Keeps.fault _ _ | with_reducible refine Keeps.next ?_
  all_goals (try simp)

theorem execEnsOpen_keeps (num) (s : State) : Keeps s (execEnsOpen num s) := by
  unfold execEnsOpen
  repeat' (first | with_reducible refine Keeps.ite ?_ ?_ | split)
  all_goals first | with_reducible exact Keeps.refused _ _ | with_reducible exact Keeps.fault _ _ | with_reducible refine Keeps.next ?_
  all_goals (try simp)

theorem execOpeningDone_keeps  (s : State) : Keeps s (execOpeningDone s) := by
  unfold execOpeningDone
  repeat' (first | with_reducible refine Keeps.ite ?_ ?_ | split)
  all_goals first | with_reducible exact Keeps.refused _ _ | with_reducible exact Keeps.fault _ _ | with_reducible refine Keeps.next ?_
  all_goals (try simp)

theorem execEnsCommit_keeps  (s : State) : Keeps s (execEnsCommit s) := by
  unfold execEnsCommit
  repeat' (first | with_reducible refine Keeps.ite ?_ ?_ | split)
  all_goals first | with_reducible exact Keeps.refused _ _ | with_reducible exact Keeps.fault _ _ | with_reducible refine Keeps.next ?_
  all_goals (try simp)

theorem execEnsAbandon_keeps  (s : State) : Keeps s (execEnsAbandon s) := by
  unfold execEnsAbandon
  repeat' (first | with_reducible refine Keeps.ite ?_ ?_ | split)
  all_goals first | with_reducible exact Keeps.refused _ _ | with_reducible exact Keeps.fault _ _ | with_reducible refine Keeps.next ?_
  all_goals (try simp)

theorem execEnsignDrained_keeps (slot) (s : State) : Keeps s (execEnsignDrained slot s) := by
  unfold execEnsignDrained
  repeat' (first | with_reducible refine Keeps.ite ?_ ?_ | split)
  all_goals first | with_reducible exact Keeps.refused _ _ | with_reducible exact Keeps.fault _ _ | with_reducible refine Keeps.next ?_
  all_goals (try simp)

theorem execSweepDone_keeps  (s : State) : Keeps s (execSweepDone s) := by
  unfold execSweepDone
  repeat' (first | with_reducible refine Keeps.ite ?_ ?_ | split)
  all_goals first | with_reducible exact Keeps.refused _ _ | with_reducible exact Keeps.fault _ _ | with_reducible refine Keeps.next ?_
  all_goals (try simp)

theorem execClsRead_keeps  (s : State) : Keeps s (execClsRead s) := by
  unfold execClsRead
  repeat' (first | with_reducible refine Keeps.ite ?_ ?_ | split)
  all_goals first | with_reducible exact Keeps.refused _ _ | with_reducible exact Keeps.fault _ _ | with_reducible refine Keeps.next ?_
  all_goals (try simp)

theorem execClsWrite_keeps  (s : State) : Keeps s (execClsWrite s) := by
  unfold execClsWrite
  repeat' (first | with_reducible refine Keeps.ite ?_ ?_ | split)
  all_goals first | with_reducible exact Keeps.refused _ _ | with_reducible exact Keeps.fault _ _ | with_reducible refine Keeps.next ?_
  all_goals (try simp)

theorem execClsJoin_keeps  (s : State) : Keeps s (execClsJoin s) := by
  unfold execClsJoin
  repeat' (first | with_reducible refine Keeps.ite ?_ ?_ | split)
  all_goals first | with_reducible exact Keeps.refused _ _ | with_reducible exact Keeps.fault _ _ | with_reducible refine Keeps.next ?_
  all_goals (try simp)

theorem execClsLeave_keeps  (s : State) : Keeps s (execClsLeave s) := by
  unfold execClsLeave
  repeat' (first | with_reducible refine Keeps.ite ?_ ?_ | split)
  all_goals first | with_reducible exact Keeps.refused _ _ | with_reducible exact Keeps.fault _ _ | with_reducible refine Keeps.next ?_
  all_goals (try simp)

theorem execClsRepair_keeps  (s : State) : Keeps s (execClsRepair s) := by
  unfold execClsRepair
  repeat' (first | with_reducible refine Keeps.ite ?_ ?_ | split)
  all_goals first | with_reducible exact Keeps.refused _ _ | with_reducible exact Keeps.fault _ _ | with_reducible refine Keeps.next ?_
  all_goals (try simp)

theorem execClsClear_keeps  (s : State) : Keeps s (execClsClear s) := by
  unfold execClsClear
  repeat' (first | with_reducible refine Keeps.ite ?_ ?_ | split)
  all_goals first | with_reducible exact Keeps.refused _ _ | with_reducible exact Keeps.fault _ _ | with_reducible refine Keeps.next ?_
  all_goals (try simp)

theorem execClsAccessDone_keeps  (s : State) : Keeps s (execClsAccessDone s) := by
  unfold execClsAccessDone
  repeat' (first | with_reducible refine Keeps.ite ?_ ?_ | split)
  all_goals first | with_reducible exact Keeps.refused _ _ | with_reducible exact Keeps.fault _ _ | with_reducible refine Keeps.next ?_
  all_goals (try simp)

theorem execClsClrCounts_keeps  (s : State) : Keeps s (execClsClrCounts s) := by
  unfold execClsClrCounts
  repeat' (first | with_reducible refine Keeps.ite ?_ ?_ | split)
  all_goals first | with_reducible exact Keeps.refused _ _ | with_reducible exact Keeps.fault _ _ | with_reducible refine Keeps.next ?_
  all_goals (try simp)

theorem execClsScrubVisit_keeps (store) (slot) (index) (err) (s : State) : Keeps s (execClsScrubVisit store slot index err s) := by
  unfold execClsScrubVisit
  repeat' (first | with_reducible refine Keeps.ite ?_ ?_ | split)
  all_goals first | with_reducible exact Keeps.refused _ _ | with_reducible exact Keeps.fault _ _ | with_reducible refine Keeps.next ?_
  all_goals (try simp)

theorem execDispatch_keeps (id) (s : State) : Keeps s (execDispatch id s) := by
  unfold execDispatch
  repeat' (first | with_reducible refine Keeps.ite ?_ ?_ | split)
  all_goals first | with_reducible exact Keeps.refused _ _ | with_reducible exact Keeps.fault _ _ | with_reducible refine Keeps.next ?_
  all_goals (try simp)

theorem execWNop_keeps (e) (s : State) : Keeps s (execWNop e s) := by
  unfold execWNop
  exact State.runPure_keeps _ _ _ _

theorem execWLdc_keeps (e) (s : State) : Keeps s (execWLdc e s) := by
  unfold execWLdc
  exact State.runPure_keeps _ _ _ _

theorem execWStc_keeps (e) (s : State) : Keeps s (execWStc e s) := State.runWord_keeps _ _ _ _ fun k x id f w => by
    split
    · exact rfl
    · exact trivial

theorem execWMov_keeps (e) (s : State) : Keeps s (execWMov e s) := by
  unfold execWMov
  exact State.runPure_keeps _ _ _ _

theorem execWLdi_keeps (e) (s : State) : Keeps s (execWLdi e s) := by
  unfold execWLdi
  exact State.runPure_keeps _ _ _ _

theorem execWLdh_keeps (e) (s : State) : Keeps s (execWLdh e s) := by
  unfold execWLdh
  exact State.runPure_keeps _ _ _ _

theorem execWSel_keeps (e) (s : State) : Keeps s (execWSel e s) := by
  unfold execWSel
  exact State.runPure_keeps _ _ _ _

theorem execWAdd_keeps (e) (s : State) : Keeps s (execWAdd e s) := by
  unfold execWAdd
  exact State.runPure_keeps _ _ _ _

theorem execWSub_keeps (e) (s : State) : Keeps s (execWSub e s) := by
  unfold execWSub
  exact State.runPure_keeps _ _ _ _

theorem execWAnd_keeps (e) (s : State) : Keeps s (execWAnd e s) := by
  unfold execWAnd
  exact State.runPure_keeps _ _ _ _

theorem execWOr_keeps (e) (s : State) : Keeps s (execWOr e s) := by
  unfold execWOr
  exact State.runPure_keeps _ _ _ _

theorem execWXor_keeps (e) (s : State) : Keeps s (execWXor e s) := by
  unfold execWXor
  exact State.runPure_keeps _ _ _ _

theorem execWShl_keeps (e) (s : State) : Keeps s (execWShl e s) := by
  unfold execWShl
  exact State.runPure_keeps _ _ _ _

theorem execWShr_keeps (e) (s : State) : Keeps s (execWShr e s) := by
  unfold execWShr
  exact State.runPure_keeps _ _ _ _

theorem execWCmp_keeps (e) (s : State) : Keeps s (execWCmp e s) := by
  unfold execWCmp
  exact State.runPure_keeps _ _ _ _

theorem execWAddi_keeps (e) (s : State) : Keeps s (execWAddi e s) := by
  unfold execWAddi
  exact State.runPure_keeps _ _ _ _

theorem execWSubi_keeps (e) (s : State) : Keeps s (execWSubi e s) := by
  unfold execWSubi
  exact State.runPure_keeps _ _ _ _

theorem execWAndi_keeps (e) (s : State) : Keeps s (execWAndi e s) := by
  unfold execWAndi
  exact State.runPure_keeps _ _ _ _

theorem execWOri_keeps (e) (s : State) : Keeps s (execWOri e s) := by
  unfold execWOri
  exact State.runPure_keeps _ _ _ _

theorem execWXori_keeps (e) (s : State) : Keeps s (execWXori e s) := by
  unfold execWXori
  exact State.runPure_keeps _ _ _ _

theorem execWShli_keeps (e) (s : State) : Keeps s (execWShli e s) := by
  unfold execWShli
  exact State.runPure_keeps _ _ _ _

theorem execWShri_keeps (e) (s : State) : Keeps s (execWShri e s) := by
  unfold execWShri
  exact State.runPure_keeps _ _ _ _

theorem execWCmpi_keeps (e) (s : State) : Keeps s (execWCmpi e s) := by
  unfold execWCmpi
  exact State.runPure_keeps _ _ _ _

theorem execWCsum_keeps (e) (s : State) : Keeps s (execWCsum e s) := by
  unfold execWCsum
  exact State.runPure_keeps _ _ _ _

theorem execWTst_keeps (e) (s : State) : Keeps s (execWTst e s) := by
  unfold execWTst
  exact State.runPure_keeps _ _ _ _

theorem execWBr_keeps (e) (s : State) : Keeps s (execWBr e s) := by
  unfold execWBr
  exact State.runPure_keeps _ _ _ _

theorem execWBbit_keeps (e) (s : State) : Keeps s (execWBbit e s) := by
  unfold execWBbit
  exact State.runPure_keeps _ _ _ _

theorem execWBtab_keeps (e) (s : State) : Keeps s (execWBtab e s) := by
  unfold execWBtab
  exact State.runPure_keeps _ _ _ _

theorem execWLki_keeps (e) (p) (s : State) : Keeps s (execWLki e p s) := State.runWord_keeps _ _ _ _ fun k x id f w => State.lki_keeps _ _ s k x id f w

theorem execWLkw_keeps (e) (s : State) : Keeps s (execWLkw e s) := State.runWord_keeps _ _ _ _ fun k x id f w => State.lkw_keeps _ s k x id f w

theorem execWPat_keeps (e) (s : State) : Keeps s (execWPat e s) := by
  unfold execWPat
  exact State.runPure_keeps _ _ _ _

theorem execWBind_keeps (e) (p) (s : State) : Keeps s (execWBind e p s) := State.runWord_keeps _ _ _ _ fun k x id f w => State.bind_keeps _ _ s k x id f w

theorem execWBindc_keeps (e) (s : State) : Keeps s (execWBindc e s) := State.runWord_keeps _ _ _ _ fun k x id f w => by
    split
    · exact trivial
    · show State.kept _ = _
      split
      · simp
      · rfl

theorem execWVerd_keeps (e) (s : State) : Keeps s (execWVerd e s) := State.runWord_keeps _ _ _ _ fun k x id f w => State.verd_keeps _ s k x id f w

theorem execWCnt_keeps (e) (s : State) : Keeps s (execWCnt e s) := State.runWord_keeps _ _ _ _ fun k x id f w => State.cnt_keeps s x id f w

theorem execWEmit_keeps (e) (s : State) : Keeps s (execWEmit e s) := by
  unfold execWEmit
  exact State.runPure_keeps _ _ _ _

theorem execWTime_keeps (e) (s : State) : Keeps s (execWTime e s) := State.runWord_keeps _ _ _ _ fun k x id f w => State.time_keeps s x f w

theorem execWLrn_keeps (e) (s : State) : Keeps s (execWLrn e s) := State.runWord_keeps _ _ _ _ fun k x id f w => State.lrn_keeps _ s x f w

theorem execEngineBudgetEnd_keeps (id) (keyFault) (s : State) : Keeps s (execEngineBudgetEnd id keyFault s) := by
  unfold execEngineBudgetEnd
  repeat' (first | with_reducible refine Keeps.ite ?_ ?_ | split)
  all_goals first | with_reducible exact Keeps.refused _ _ | with_reducible exact Keeps.fault _ _ | with_reducible refine Keeps.next ?_
  all_goals (try simp)

theorem execHbmRequestGrant_keeps  (s : State) : Keeps s (execHbmRequestGrant  s) := by
  unfold execHbmRequestGrant
  refine .ite (.next rfl) ?_
  split
  · exact .next rfl
  · rename_i r _
    refine .ite (.next ?_) (.next ?_)
    · rw [State.granted_kept, State.ringWrite_kept]
    · rw [State.granted_kept]
      exact State.grantLines_kept s r

theorem execHbmResultArrive_keeps (e) (c) (bad) (fixed) (s : State) : Keeps s (execHbmResultArrive e c bad s fixed) := by
  unfold execHbmResultArrive
  split
  · dsimp only
    split
    · exact .next rfl
    · exact .next (by rw [State.setCtx_kept]; exact (State.lookHbm_kept _ _ _ _).trans (State.lineChecked_kept _ _ _ _ _))
  · exact .next rfl

theorem execContextResume_keeps (e) (s : State) : Keeps s (execContextResume e s) := by
  unfold execContextResume
  repeat' (first | with_reducible refine Keeps.ite ?_ ?_ | split)
  all_goals first | with_reducible exact Keeps.refused _ _ | with_reducible exact Keeps.fault _ _ | with_reducible refine Keeps.next ?_
  all_goals (try simp)

theorem execFarBindAnswer_keeps (e) (c) (err) (s : State) : Keeps s (execFarBindAnswer e c err s) := by
  unfold execFarBindAnswer
  repeat' (first | with_reducible refine Keeps.ite ?_ ?_ | split)
  all_goals first | with_reducible exact Keeps.refused _ _ | with_reducible exact Keeps.fault _ _ | with_reducible refine Keeps.next ?_
  all_goals (try simp)

theorem execCacheWriteBack_keeps (cell) (s : State) : Keeps s (execCacheWriteBack s cell) := by
  unfold execCacheWriteBack
  repeat' (first | with_reducible refine Keeps.ite ?_ ?_ | split)
  all_goals first | with_reducible exact Keeps.refused _ _ | with_reducible exact Keeps.fault _ _ | with_reducible refine Keeps.next ?_
  all_goals (try simp)

theorem execFarHoldRelease_keeps (id) (kf) (bad) (s : State) : Keeps s (execFarHoldRelease id kf s bad) := by
  unfold execFarHoldRelease
  have k : ∀ t : State, t.kept = s.kept → Keeps s (match t.frame id with
      | none => .next t
      | some f => if f.stage ≠ .held ∨ t.heldBack id f then .next t
        else .next (t.sendOn id { f with hold := max f.hold t.now - f.hold } (max f.hold t.now) kf)) := by
    intro t h
    split
    · exact .next h
    · exact .ite (.next h) (.next (by rw [State.sendOn_kept]; exact h))
  cases bad with
  | none => exact k _ rfl
  | some l => exact k _ (by rw [State.reorderBad_kept, State.hbmBad_kept])

theorem execStoreScrub_keeps (p) (addr) (err) (s : State) : Keeps s (execStoreScrub p addr err s) := by
  unfold execStoreScrub
  repeat' (first | with_reducible refine Keeps.ite ?_ ?_ | split)
  all_goals first | with_reducible exact Keeps.refused _ _ | with_reducible exact Keeps.fault _ _ | with_reducible refine Keeps.next ?_
  all_goals (try simp)

theorem execEngineParityError_keeps (e) (inRegs) (s : State) : Keeps s (execEngineParityError e inRegs s) := by
  unfold execEngineParityError
  repeat' (first | with_reducible refine Keeps.ite ?_ ?_ | split)
  all_goals first | with_reducible exact Keeps.refused _ _ | with_reducible exact Keeps.fault _ _ | with_reducible refine Keeps.next ?_
  all_goals (try simp)

theorem execPolderFailure_keeps (p) (s : State) : Keeps s (execPolderFailure p s) := by
  unfold execPolderFailure
  repeat' (first | with_reducible refine Keeps.ite ?_ ?_ | split)
  all_goals first | with_reducible exact Keeps.refused _ _ | with_reducible exact Keeps.fault _ _ | with_reducible refine Keeps.next ?_
  all_goals (try simp)

theorem execPldRead_keeps  (s : State) : Keeps s (execPldRead s) := by
  unfold execPldRead
  repeat' (first | with_reducible refine Keeps.ite ?_ ?_ | split)
  all_goals first | with_reducible exact Keeps.refused _ _ | with_reducible exact Keeps.fault _ _ | with_reducible refine Keeps.next ?_
  all_goals (try simp)

theorem execPldWrite_keeps  (s : State) : Keeps s (execPldWrite s) := by
  unfold execPldWrite
  repeat' (first | with_reducible refine Keeps.ite ?_ ?_ | split)
  all_goals first | with_reducible exact Keeps.refused _ _ | with_reducible exact Keeps.fault _ _ | with_reducible refine Keeps.next ?_
  all_goals (try simp)

theorem execPldJoin_keeps  (s : State) : Keeps s (execPldJoin s) := by
  unfold execPldJoin
  repeat' (first | with_reducible refine Keeps.ite ?_ ?_ | split)
  all_goals first | with_reducible exact Keeps.refused _ _ | with_reducible exact Keeps.fault _ _ | with_reducible refine Keeps.next ?_
  all_goals (try simp)

theorem execPldLeave_keeps  (s : State) : Keeps s (execPldLeave s) := by
  unfold execPldLeave
  repeat' (first | with_reducible refine Keeps.ite ?_ ?_ | split)
  all_goals first | with_reducible exact Keeps.refused _ _ | with_reducible exact Keeps.fault _ _ | with_reducible refine Keeps.next ?_
  all_goals (try simp)

theorem execPldRepair_keeps  (s : State) : Keeps s (execPldRepair s) := by
  unfold execPldRepair
  repeat' (first | with_reducible refine Keeps.ite ?_ ?_ | split)
  all_goals first | with_reducible exact Keeps.refused _ _ | with_reducible exact Keeps.fault _ _ | with_reducible refine Keeps.next ?_
  all_goals (try simp)

theorem execPldMark_keeps  (s : State) : Keeps s (execPldMark s) := by
  unfold execPldMark
  repeat' (first | with_reducible refine Keeps.ite ?_ ?_ | split)
  all_goals first | with_reducible exact Keeps.refused _ _ | with_reducible exact Keeps.fault _ _ | with_reducible refine Keeps.next ?_
  all_goals (try simp)

theorem execPldAccessDone_keeps  (s : State) : Keeps s (execPldAccessDone s) := by
  unfold execPldAccessDone
  repeat' (first | with_reducible refine Keeps.ite ?_ ?_ | split)
  all_goals first | with_reducible exact Keeps.refused _ _ | with_reducible exact Keeps.fault _ _ | with_reducible refine Keeps.next ?_
  all_goals (try simp)

theorem execPldCntSnapshot_keeps (v) (s : State) : Keeps s (execPldCntSnapshot v s) := by
  unfold execPldCntSnapshot
  repeat' (first | with_reducible refine Keeps.ite ?_ ?_ | split)
  all_goals first | with_reducible exact Keeps.refused _ _ | with_reducible exact Keeps.fault _ _ | with_reducible refine Keeps.next ?_
  all_goals (try simp)

theorem execArbMaxRead_keeps (r) (s : State) : Keeps s (execArbMaxRead r s) := by
  unfold execArbMaxRead
  repeat' (first | with_reducible refine Keeps.ite ?_ ?_ | split)
  all_goals first | with_reducible exact Keeps.refused _ _ | with_reducible exact Keeps.fault _ _ | with_reducible refine Keeps.next ?_
  all_goals (try simp)

theorem execPldClrCounts_keeps (p) (s : State) : Keeps s (execPldClrCounts p s) := by
  unfold execPldClrCounts
  repeat' (first | with_reducible refine Keeps.ite ?_ ?_ | split)
  all_goals first | with_reducible exact Keeps.refused _ _ | with_reducible exact Keeps.fault _ _ | with_reducible refine Keeps.next ?_
  all_goals (try simp)

theorem execPldArrayClrCounts_keeps  (s : State) : Keeps s (execPldArrayClrCounts s) := by
  unfold execPldArrayClrCounts
  repeat' (first | with_reducible refine Keeps.ite ?_ ?_ | split)
  all_goals first | with_reducible exact Keeps.refused _ _ | with_reducible exact Keeps.fault _ _ | with_reducible refine Keeps.next ?_
  all_goals (try simp)

theorem execLearnReportApply_keeps  (s : State) : Keeps s (execLearnReportApply s) := by
  unfold execLearnReportApply
  repeat' (first | with_reducible refine Keeps.ite ?_ ?_ | split)
  all_goals first | with_reducible exact Keeps.refused _ _ | with_reducible exact Keeps.fault _ _ | with_reducible refine Keeps.next ?_
  all_goals (try simp)

theorem execLearnWriteDone_keeps  (s : State) : Keeps s (execLearnWriteDone s) := by
  unfold execLearnWriteDone
  repeat' (first | with_reducible refine Keeps.ite ?_ ?_ | split)
  all_goals first | with_reducible exact Keeps.refused _ _ | with_reducible exact Keeps.fault _ _ | with_reducible refine Keeps.next ?_
  all_goals (try simp)

theorem execAgerBucketVisit_keeps (t) (bucket) (s : State) : Keeps s (execAgerBucketVisit t bucket s) := by
  unfold execAgerBucketVisit
  repeat' (first | with_reducible refine Keeps.ite ?_ ?_ | split)
  all_goals first | with_reducible exact Keeps.refused _ _ | with_reducible exact Keeps.fault _ _ | with_reducible refine Keeps.next ?_
  all_goals (try simp)

theorem execLkpRead_keeps  (s : State) : Keeps s (execLkpRead s) := by
  unfold execLkpRead
  repeat' (first | with_reducible refine Keeps.ite ?_ ?_ | split)
  all_goals first | with_reducible exact Keeps.refused _ _ | with_reducible exact Keeps.fault _ _ | with_reducible refine Keeps.next ?_
  all_goals (try simp)

theorem execLkpInsert_keeps  (s : State) : Keeps s (execLkpInsert s) := by
  unfold execLkpInsert
  repeat' (first | with_reducible refine Keeps.ite ?_ ?_ | split)
  all_goals first | with_reducible exact Keeps.refused _ _ | with_reducible exact Keeps.fault _ _ | with_reducible refine Keeps.next ?_
  all_goals (try simp)

theorem execLkpDelete_keeps  (s : State) : Keeps s (execLkpDelete s) := by
  unfold execLkpDelete
  repeat' (first | with_reducible refine Keeps.ite ?_ ?_ | split)
  all_goals first | with_reducible exact Keeps.refused _ _ | with_reducible exact Keeps.fault _ _ | with_reducible refine Keeps.next ?_
  all_goals (try simp)

theorem execLkpLookup_keeps  (s : State) : Keeps s (execLkpLookup s) := by
  unfold execLkpLookup
  repeat' (first | with_reducible refine Keeps.ite ?_ ?_ | split)
  all_goals first | with_reducible exact Keeps.refused _ _ | with_reducible exact Keeps.fault _ _ | with_reducible refine Keeps.next ?_
  all_goals (try simp)

theorem execLkpWrite_keeps  (s : State) : Keeps s (execLkpWrite s) := by
  unfold execLkpWrite
  repeat' (first | with_reducible refine Keeps.ite ?_ ?_ | split)
  all_goals first | with_reducible exact Keeps.refused _ _ | with_reducible exact Keeps.fault _ _ | with_reducible refine Keeps.next ?_
  all_goals (try simp)

theorem execLkpCommandDone_keeps  (s : State) : Keeps s (execLkpCommandDone s) := by
  unfold execLkpCommandDone
  repeat' (first | with_reducible refine Keeps.ite ?_ ?_ | split)
  all_goals first | with_reducible exact Keeps.refused _ _ | with_reducible exact Keeps.fault _ _ | with_reducible refine Keeps.next ?_
  all_goals (try simp)

theorem execLkpLqPop_keeps  (s : State) : Keeps s (execLkpLqPop s) := by
  unfold execLkpLqPop
  repeat' (first | with_reducible refine Keeps.ite ?_ ?_ | split)
  all_goals first | with_reducible exact Keeps.refused _ _ | with_reducible exact Keeps.fault _ _ | with_reducible refine Keeps.next ?_
  all_goals (try simp)

theorem execLkpClrCounts_keeps  (s : State) : Keeps s (execLkpClrCounts s) := by
  unfold execLkpClrCounts
  repeat' (first | with_reducible refine Keeps.ite ?_ ?_ | split)
  all_goals first | with_reducible exact Keeps.refused _ _ | with_reducible exact Keeps.fault _ _ | with_reducible refine Keeps.next ?_
  all_goals (try simp)

theorem execChnCreate_keeps (port) (s : State) : Keeps s (execChnCreate port s) := by
  unfold execChnCreate
  repeat' (first | with_reducible refine Keeps.ite ?_ ?_ | split)
  all_goals first | with_reducible exact Keeps.refused _ _ | with_reducible exact Keeps.fault _ _ | with_reducible refine Keeps.next ?_
  all_goals (try simp)

theorem execChnDestroy_keeps (port) (s : State) : Keeps s (execChnDestroy port s) := by
  unfold execChnDestroy
  repeat' (first | with_reducible refine Keeps.ite ?_ ?_ | split)
  all_goals first | with_reducible exact Keeps.refused _ _ | with_reducible exact Keeps.fault _ _ | with_reducible refine Keeps.next ?_
  all_goals (try simp)

theorem execChnRead_keeps (port) (s : State) : Keeps s (execChnRead port s) := by
  unfold execChnRead
  repeat' (first | with_reducible refine Keeps.ite ?_ ?_ | split)
  all_goals first | with_reducible exact Keeps.refused _ _ | with_reducible exact Keeps.fault _ _ | with_reducible refine Keeps.next ?_
  all_goals (try simp)

theorem execChnReadSlots_keeps (port) (s : State) : Keeps s (execChnReadSlots port s) := by
  unfold execChnReadSlots
  repeat' (first | with_reducible refine Keeps.ite ?_ ?_ | split)
  all_goals first | with_reducible exact Keeps.refused _ _ | with_reducible exact Keeps.fault _ _ | with_reducible refine Keeps.next ?_
  all_goals (try simp)

theorem execChnLoad_keeps (port) (s : State) : Keeps s (execChnLoad port s) := by
  unfold execChnLoad
  repeat' (first | with_reducible refine Keeps.ite ?_ ?_ | split)
  all_goals first | with_reducible exact Keeps.refused _ _ | with_reducible exact Keeps.fault _ _ | with_reducible refine Keeps.next ?_
  all_goals (try simp)

theorem execChnErase_keeps (port) (s : State) : Keeps s (execChnErase port s) := by
  unfold execChnErase
  repeat' (first | with_reducible refine Keeps.ite ?_ ?_ | split)
  all_goals first | with_reducible exact Keeps.refused _ _ | with_reducible exact Keeps.fault _ _ | with_reducible refine Keeps.next ?_
  all_goals (try simp)

theorem execChnSetMark_keeps (port) (s : State) : Keeps s (execChnSetMark port s) := by
  unfold execChnSetMark
  repeat' (first | with_reducible refine Keeps.ite ?_ ?_ | split)
  all_goals first | with_reducible exact Keeps.refused _ _ | with_reducible exact Keeps.fault _ _ | with_reducible refine Keeps.next ?_
  all_goals (try simp)

theorem execChnClearMark_keeps (port) (s : State) : Keeps s (execChnClearMark port s) := by
  unfold execChnClearMark
  repeat' (first | with_reducible refine Keeps.ite ?_ ?_ | split)
  all_goals first | with_reducible exact Keeps.refused _ _ | with_reducible exact Keeps.fault _ _ | with_reducible refine Keeps.next ?_
  all_goals (try simp)

theorem execChnSetPn_keeps (port) (s : State) : Keeps s (execChnSetPn port s) := by
  unfold execChnSetPn
  repeat' (first | with_reducible refine Keeps.ite ?_ ?_ | split)
  all_goals first | with_reducible exact Keeps.refused _ _ | with_reducible exact Keeps.fault _ _ | with_reducible refine Keeps.next ?_
  all_goals (try simp)

theorem execChnSetWindow_keeps (port) (s : State) : Keeps s (execChnSetWindow port s) := by
  unfold execChnSetWindow
  repeat' (first | with_reducible refine Keeps.ite ?_ ?_ | split)
  all_goals first | with_reducible exact Keeps.refused _ _ | with_reducible exact Keeps.fault _ _ | with_reducible refine Keeps.next ?_
  all_goals (try simp)

theorem execChnClearCounters_keeps (port) (s : State) : Keeps s (execChnClearCounters port s) := by
  unfold execChnClearCounters
  repeat' (first | with_reducible refine Keeps.ite ?_ ?_ | split)
  all_goals first | with_reducible exact Keeps.refused _ _ | with_reducible exact Keeps.fault _ _ | with_reducible refine Keeps.next ?_
  all_goals (try simp)

theorem execChnCommandDone_keeps (n) (err) (cell) (s : State) : Keeps s (execChnCommandDone n s err cell) := by
  unfold execChnCommandDone
  repeat' (first | with_reducible refine Keeps.ite ?_ ?_ | split)
  all_goals first | with_reducible exact Keeps.refused _ _ | with_reducible exact Keeps.fault _ _ | with_reducible refine Keeps.next ?_
  all_goals (try simp)

theorem execRxDecision_keeps (id) (s : State) : Keeps s (execRxDecision id s) := by
  unfold execRxDecision
  repeat' (first | with_reducible refine Keeps.ite ?_ ?_ | split)
  all_goals first | with_reducible exact Keeps.refused _ _ | with_reducible exact Keeps.fault _ _ | with_reducible refine Keeps.next ?_
  all_goals (try simp)

theorem execKeyGenerationRelease_keeps (handle) (an) (keyGen) (s : State) : Keeps s (execKeyGenerationRelease handle an keyGen s) := by
  unfold execKeyGenerationRelease
  repeat' (first | with_reducible refine Keeps.ite ?_ ?_ | split)
  all_goals first | with_reducible exact Keeps.refused _ _ | with_reducible exact Keeps.fault _ _ | with_reducible refine Keeps.next ?_
  all_goals (try simp)

theorem execIndexRelease_keeps (far) (index) (s : State) : Keeps s (execIndexRelease far index s) := by
  unfold execIndexRelease
  repeat' (first | with_reducible refine Keeps.ite ?_ ?_ | split)
  all_goals first | with_reducible exact Keeps.refused _ _ | with_reducible exact Keeps.fault _ _ | with_reducible refine Keeps.next ?_
  all_goals (try simp)

theorem execInvalidationSweepVisit_keeps (far) (index) (s : State) : Keeps s (execInvalidationSweepVisit far index s) := by
  unfold execInvalidationSweepVisit
  repeat' (first | with_reducible refine Keeps.ite ?_ ?_ | split)
  all_goals first | with_reducible exact Keeps.refused _ _ | with_reducible exact Keeps.fault _ _ | with_reducible refine Keeps.next ?_
  all_goals (try simp)

theorem execChnNotePop_keeps  (s : State) : Keeps s (execChnNotePop s) := by
  unfold execChnNotePop
  repeat' (first | with_reducible refine Keeps.ite ?_ ?_ | split)
  all_goals first | with_reducible exact Keeps.refused _ _ | with_reducible exact Keeps.fault _ _ | with_reducible refine Keeps.next ?_
  all_goals (try simp)

theorem execChnClrCounts_keeps  (s : State) : Keeps s (execChnClrCounts s) := by
  unfold execChnClrCounts
  repeat' (first | with_reducible refine Keeps.ite ?_ ?_ | split)
  all_goals first | with_reducible exact Keeps.refused _ _ | with_reducible exact Keeps.fault _ _ | with_reducible refine Keeps.next ?_
  all_goals (try simp)

theorem execFrameDepart_keeps (id) (s : State) : Keeps s (execFrameDepart id s) := by
  unfold execFrameDepart
  repeat' (first | with_reducible refine Keeps.ite ?_ ?_ | split)
  all_goals first | with_reducible exact Keeps.refused _ _ | with_reducible exact Keeps.fault _ _ | with_reducible refine Keeps.next ?_
  all_goals (try simp)

theorem execStewardInject_keeps (p) (dec) (bytes) (s : State) : Keeps s (execStewardInject p dec bytes s) := by
  unfold execStewardInject
  repeat' (first | with_reducible refine Keeps.ite ?_ ?_ | split)
  all_goals first | with_reducible exact Keeps.refused _ _ | with_reducible exact Keeps.fault _ _ | with_reducible refine Keeps.next ?_
  all_goals (try simp)

theorem execCipherRoundBoundary_keeps  (s : State) : Keeps s (execCipherRoundBoundary s) := by
  unfold execCipherRoundBoundary
  repeat' (first | with_reducible refine Keeps.ite ?_ ?_ | split)
  all_goals first | with_reducible exact Keeps.refused _ _ | with_reducible exact Keeps.fault _ _ | with_reducible refine Keeps.next ?_
  all_goals (try simp)

theorem execPipeGroupWakeDone_keeps (g) (bad) (s : State) : Keeps s (execPipeGroupWakeDone g bad s) := by
  unfold execPipeGroupWakeDone
  repeat' (first | with_reducible refine Keeps.ite ?_ ?_ | split)
  all_goals first | with_reducible exact Keeps.refused _ _ | with_reducible exact Keeps.fault _ _ | with_reducible refine Keeps.next ?_
  all_goals (try simp)

theorem execPipeCheckError_keeps (p) (kat) (held) (s : State) : Keeps s (execPipeCheckError p kat held s) := by
  unfold execPipeCheckError
  repeat' (first | with_reducible refine Keeps.ite ?_ ?_ | split)
  all_goals first | with_reducible exact Keeps.refused _ _ | with_reducible exact Keeps.fault _ _ | with_reducible refine Keeps.next ?_
  all_goals (try simp)

theorem execCphTestStart_keeps (v) (s : State) : Keeps s (execCphTestStart v s) := by
  unfold execCphTestStart
  repeat' (first | with_reducible refine Keeps.ite ?_ ?_ | split)
  all_goals first | with_reducible exact Keeps.refused _ _ | with_reducible exact Keeps.fault _ _ | with_reducible refine Keeps.next ?_
  all_goals (try simp)

theorem execCphTestDone_keeps  (s : State) : Keeps s (execCphTestDone s) := by
  unfold execCphTestDone
  repeat' (first | with_reducible refine Keeps.ite ?_ ?_ | split)
  all_goals first | with_reducible exact Keeps.refused _ _ | with_reducible exact Keeps.fault _ _ | with_reducible refine Keeps.next ?_
  all_goals (try simp)

theorem execCphClrCounts_keeps  (s : State) : Keeps s (execCphClrCounts s) := by
  unfold execCphClrCounts
  repeat' (first | with_reducible refine Keeps.ite ?_ ?_ | split)
  all_goals first | with_reducible exact Keeps.refused _ _ | with_reducible exact Keeps.fault _ _ | with_reducible refine Keeps.next ?_
  all_goals (try simp)

theorem execDomainImport_keeps (port) (s : State) : Keeps s (execDomainImport port s) := by
  unfold execDomainImport
  repeat' (first | with_reducible refine Keeps.ite ?_ ?_ | split)
  all_goals first | with_reducible exact Keeps.refused _ _ | with_reducible exact Keeps.fault _ _ | with_reducible refine Keeps.next ?_
  all_goals (try simp)

theorem execDomainUnwrap_keeps (port) (s : State) : Keeps s (execDomainUnwrap port s) := by
  unfold execDomainUnwrap
  repeat' (first | with_reducible refine Keeps.ite ?_ ?_ | split)
  all_goals first | with_reducible exact Keeps.refused _ _ | with_reducible exact Keeps.fault _ _ | with_reducible refine Keeps.next ?_
  all_goals (try simp)

theorem execDomainDerive_keeps (port) (s : State) : Keeps s (execDomainDerive port s) := by
  unfold execDomainDerive
  repeat' (first | with_reducible refine Keeps.ite ?_ ?_ | split)
  all_goals first | with_reducible exact Keeps.refused _ _ | with_reducible exact Keeps.fault _ _ | with_reducible refine Keeps.next ?_
  all_goals (try simp)

theorem execDomainGenerate_keeps (port) (s : State) : Keeps s (execDomainGenerate port s) := by
  unfold execDomainGenerate
  repeat' (first | with_reducible refine Keeps.ite ?_ ?_ | split)
  all_goals first | with_reducible exact Keeps.refused _ _ | with_reducible exact Keeps.fault _ _ | with_reducible refine Keeps.next ?_
  all_goals (try simp)

theorem execAssocGenerate_keeps (port) (s : State) : Keeps s (execAssocGenerate port s) := by
  unfold execAssocGenerate
  repeat' (first | with_reducible refine Keeps.ite ?_ ?_ | split)
  all_goals first | with_reducible exact Keeps.refused _ _ | with_reducible exact Keeps.fault _ _ | with_reducible refine Keeps.next ?_
  all_goals (try simp)

theorem execDomainInvalidate_keeps (port) (s : State) : Keeps s (execDomainInvalidate port s) := by
  unfold execDomainInvalidate
  repeat' (first | with_reducible refine Keeps.ite ?_ ?_ | split)
  all_goals first | with_reducible exact Keeps.refused _ _ | with_reducible exact Keeps.fault _ _ | with_reducible refine Keeps.next ?_
  all_goals (try simp)

theorem execKeyAttest_keeps (port) (s : State) : Keeps s (execKeyAttest port s) := by
  unfold execKeyAttest
  repeat' (first | with_reducible refine Keeps.ite ?_ ?_ | split)
  all_goals first | with_reducible exact Keeps.refused _ _ | with_reducible exact Keeps.fault _ _ | with_reducible refine Keeps.next ?_
  all_goals (try simp)

theorem execKeyCommandDone_keeps (n) (cellFault) (s : State) : Keeps s (execKeyCommandDone n cellFault s) := by
  unfold execKeyCommandDone
  repeat' (first | with_reducible refine Keeps.ite ?_ ?_ | split)
  all_goals first | with_reducible exact Keeps.refused _ _ | with_reducible exact Keeps.fault _ _ | with_reducible refine Keeps.next ?_
  all_goals (try simp)

theorem execDomainKeyDestroy_keeps (slot) (gen) (s : State) : Keeps s (execDomainKeyDestroy slot gen s) := by
  unfold execDomainKeyDestroy
  repeat' (first | with_reducible refine Keeps.ite ?_ ?_ | split)
  all_goals first | with_reducible exact Keeps.refused _ _ | with_reducible exact Keeps.fault _ _ | with_reducible refine Keeps.next ?_
  all_goals (try simp)

theorem execCellRemask_keeps  (s : State) : Keeps s (execCellRemask s) := by
  unfold execCellRemask
  repeat' (first | with_reducible refine Keeps.ite ?_ ?_ | split)
  all_goals first | with_reducible exact Keeps.refused _ _ | with_reducible exact Keeps.fault _ _ | with_reducible refine Keeps.next ?_
  all_goals (try simp)

theorem execDrbgReseed_keeps  (s : State) : Keeps s (execDrbgReseed s) := by
  unfold execDrbgReseed
  repeat' (first | with_reducible refine Keeps.ite ?_ ?_ | split)
  all_goals first | with_reducible exact Keeps.refused _ _ | with_reducible exact Keeps.fault _ _ | with_reducible refine Keeps.next ?_
  all_goals (try simp)

theorem execNoiseHealthFail_keeps  (s : State) : Keeps s (execNoiseHealthFail s) := by
  unfold execNoiseHealthFail
  repeat' (first | with_reducible refine Keeps.ite ?_ ?_ | split)
  all_goals first | with_reducible exact Keeps.refused _ _ | with_reducible exact Keeps.fault _ _ | with_reducible refine Keeps.next ?_
  all_goals (try simp)

theorem execDrbgReinstantiate_keeps (ok) (s : State) : Keeps s (execDrbgReinstantiate ok s) := by
  unfold execDrbgReinstantiate
  repeat' (first | with_reducible refine Keeps.ite ?_ ?_ | split)
  all_goals first | with_reducible exact Keeps.refused _ _ | with_reducible exact Keeps.fault _ _ | with_reducible refine Keeps.next ?_
  all_goals (try simp)

theorem execKatPeriodic_keeps (ok) (s : State) : Keeps s (execKatPeriodic ok s) := by
  unfold execKatPeriodic
  repeat' (first | with_reducible refine Keeps.ite ?_ ?_ | split)
  all_goals first | with_reducible exact Keeps.refused _ _ | with_reducible exact Keeps.fault _ _ | with_reducible refine Keeps.next ?_
  all_goals (try simp)

theorem execConfigDigestRecompute_keeps  (s : State) : Keeps s (execConfigDigestRecompute s) := by
  unfold execConfigDigestRecompute
  repeat' (first | with_reducible refine Keeps.ite ?_ ?_ | split)
  all_goals first | with_reducible exact Keeps.refused _ _ | with_reducible exact Keeps.fault _ _ | with_reducible refine Keeps.next ?_
  all_goals (try simp)

theorem execKeySlotSnapshot_keeps (v) (s : State) : Keeps s (execKeySlotSnapshot v s) := by
  unfold execKeySlotSnapshot
  repeat' (first | with_reducible refine Keeps.ite ?_ ?_ | split)
  all_goals first | with_reducible exact Keeps.refused _ _ | with_reducible exact Keeps.fault _ _ | with_reducible refine Keeps.next ?_
  all_goals (try simp)

theorem execKeyClrCounts_keeps  (s : State) : Keeps s (execKeyClrCounts s) := by
  unfold execKeyClrCounts
  repeat' (first | with_reducible refine Keeps.ite ?_ ?_ | split)
  all_goals first | with_reducible exact Keeps.refused _ _ | with_reducible exact Keeps.fault _ _ | with_reducible refine Keeps.next ?_
  all_goals (try simp)

theorem execLevSetRtc_keeps  (s : State) : Keeps s (execLevSetRtc s) := by
  unfold execLevSetRtc
  repeat' (first | with_reducible refine Keeps.ite ?_ ?_ | split)
  all_goals first | with_reducible exact Keeps.refused _ _ | with_reducible exact Keeps.fault _ _ | with_reducible refine Keeps.next ?_
  all_goals (try simp)

theorem execLevLogRead_keeps  (s : State) : Keeps s (execLevLogRead s) := by
  unfold execLevLogRead
  repeat' (first | with_reducible refine Keeps.ite ?_ ?_ | split)
  all_goals first | with_reducible exact Keeps.refused _ _ | with_reducible exact Keeps.fault _ _ | with_reducible refine Keeps.next ?_
  all_goals (try simp)

theorem execLevCommandDone_keeps  (s : State) : Keeps s (execLevCommandDone s) := by
  unfold execLevCommandDone
  repeat' (first | with_reducible refine Keeps.ite ?_ ?_ | split)
  all_goals first | with_reducible exact Keeps.refused _ _ | with_reducible exact Keeps.fault _ _ | with_reducible refine Keeps.next ?_
  all_goals (try simp)

theorem execSensorSample_keeps (a) (b) (s : State) : Keeps s (execSensorSample a b s) := by
  unfold execSensorSample
  repeat' (first | with_reducible refine Keeps.ite ?_ ?_ | split)
  all_goals first | with_reducible exact Keeps.refused _ _ | with_reducible exact Keeps.fault _ _ | with_reducible refine Keeps.next ?_
  all_goals (try simp)

theorem execTamperInLow_keeps  (s : State) : Keeps s (execTamperInLow s) := by
  unfold execTamperInLow
  repeat' (first | with_reducible refine Keeps.ite ?_ ?_ | split)
  all_goals first | with_reducible exact Keeps.refused _ _ | with_reducible exact Keeps.fault _ _ | with_reducible refine Keeps.next ?_
  all_goals (try simp)

theorem execLeveeSecondEnd_keeps  (s : State) : Keeps s (execLeveeSecondEnd s) := by
  unfold execLeveeSecondEnd
  repeat' (first | with_reducible refine Keeps.ite ?_ ?_ | split)
  all_goals first | with_reducible exact Keeps.refused _ _ | with_reducible exact Keeps.fault _ _ | with_reducible refine Keeps.next ?_
  all_goals (try simp)

theorem execVbatLow_keeps  (s : State) : Keeps s (execVbatLow s) := by
  unfold execVbatLow
  repeat' (first | with_reducible refine Keeps.ite ?_ ?_ | split)
  all_goals first | with_reducible exact Keeps.refused _ _ | with_reducible exact Keeps.fault _ _ | with_reducible refine Keeps.next ?_
  all_goals (try simp)

theorem execVbatWarn_keeps  (s : State) : Keeps s (execVbatWarn s) := by
  unfold execVbatWarn
  repeat' (first | with_reducible refine Keeps.ite ?_ ?_ | split)
  all_goals first | with_reducible exact Keeps.refused _ _ | with_reducible exact Keeps.fault _ _ | with_reducible refine Keeps.next ?_
  all_goals (try simp)

theorem execXt32Fail_keeps  (s : State) : Keeps s (execXt32Fail s) := by
  unfold execXt32Fail
  repeat' (first | with_reducible refine Keeps.ite ?_ ?_ | split)
  all_goals first | with_reducible exact Keeps.refused _ _ | with_reducible exact Keeps.fault _ _ | with_reducible refine Keeps.next ?_
  all_goals (try simp)

theorem execXt32Recover_keeps  (s : State) : Keeps s (execXt32Recover s) := by
  unfold execXt32Recover
  repeat' (first | with_reducible refine Keeps.ite ?_ ?_ | split)
  all_goals first | with_reducible exact Keeps.refused _ _ | with_reducible exact Keeps.fault _ _ | with_reducible refine Keeps.next ?_
  all_goals (try simp)

theorem execTamperSettingsWrite_keeps (src) (filter) (v) (s : State) : Keeps s (execTamperSettingsWrite src filter v s) := by
  unfold execTamperSettingsWrite
  repeat' (first | with_reducible refine Keeps.ite ?_ ?_ | split)
  all_goals first | with_reducible exact Keeps.refused _ _ | with_reducible exact Keeps.fault _ _ | with_reducible refine Keeps.next ?_
  all_goals (try simp)

theorem execUnlStart_keeps (v) (s : State) : Keeps s (execUnlStart v s) := by
  unfold execUnlStart
  repeat' (first | with_reducible refine Keeps.ite ?_ ?_ | split)
  all_goals first | with_reducible exact Keeps.refused _ _ | with_reducible exact Keeps.fault _ _ | with_reducible refine Keeps.next ?_
  all_goals (try simp)

theorem execUnlRespond_keeps (v) (s : State) : Keeps s (execUnlRespond v s) := by
  unfold execUnlRespond
  repeat' (first | with_reducible refine Keeps.ite ?_ ?_ | split)
  all_goals first | with_reducible exact Keeps.refused _ _ | with_reducible exact Keeps.fault _ _ | with_reducible refine Keeps.next ?_
  all_goals (try simp)

theorem execUnlCancel_keeps (v) (s : State) : Keeps s (execUnlCancel v s) := by
  unfold execUnlCancel
  repeat' (first | with_reducible refine Keeps.ite ?_ ?_ | split)
  all_goals first | with_reducible exact Keeps.refused _ _ | with_reducible exact Keeps.fault _ _ | with_reducible refine Keeps.next ?_
  all_goals (try simp)

theorem execUnlockCheckDone_keeps  (s : State) : Keeps s (execUnlockCheckDone s) := by
  unfold execUnlockCheckDone
  repeat' (first | with_reducible refine Keeps.ite ?_ ?_ | split)
  all_goals first | with_reducible exact Keeps.refused _ _ | with_reducible exact Keeps.fault _ _ | with_reducible refine Keeps.next ?_
  all_goals (try simp)

theorem execChallengeExpiry_keeps  (s : State) : Keeps s (execChallengeExpiry s) := by
  unfold execChallengeExpiry
  repeat' (first | with_reducible refine Keeps.ite ?_ ?_ | split)
  all_goals first | with_reducible exact Keeps.refused _ _ | with_reducible exact Keeps.fault _ _ | with_reducible refine Keeps.next ?_
  all_goals (try simp)

theorem execConfigWindowClose_keeps  (s : State) : Keeps s (execConfigWindowClose s) := by
  unfold execConfigWindowClose
  repeat' (first | with_reducible refine Keeps.ite ?_ ?_ | split)
  all_goals first | with_reducible exact Keeps.refused _ _ | with_reducible exact Keeps.fault _ _ | with_reducible refine Keeps.next ?_
  all_goals (try simp)

theorem execJtagReset_keeps  (s : State) : Keeps s (execJtagReset s) := by
  unfold execJtagReset
  repeat' (first | with_reducible refine Keeps.ite ?_ ?_ | split)
  all_goals first | with_reducible exact Keeps.refused _ _ | with_reducible exact Keeps.fault _ _ | with_reducible refine Keeps.next ?_
  all_goals (try simp)

theorem execJtagBypass_keeps (code) (s : State) : Keeps s (execJtagBypass s code) := by
  unfold execJtagBypass
  repeat' (first | with_reducible refine Keeps.ite ?_ ?_ | split)
  all_goals first | with_reducible exact Keeps.refused _ _ | with_reducible exact Keeps.fault _ _ | with_reducible refine Keeps.next ?_
  all_goals (try simp)

theorem execJtagIdcode_keeps  (s : State) : Keeps s (execJtagIdcode s) := by
  unfold execJtagIdcode
  repeat' (first | with_reducible refine Keeps.ite ?_ ?_ | split)
  all_goals first | with_reducible exact Keeps.refused _ _ | with_reducible exact Keeps.fault _ _ | with_reducible refine Keeps.next ?_
  all_goals (try simp)

theorem execJtagOpen_keeps (trst) (s : State) : Keeps s (execJtagOpen trst s) := by
  unfold execJtagOpen
  repeat' (first | with_reducible refine Keeps.ite ?_ ?_ | split)
  all_goals first | with_reducible exact Keeps.refused _ _ | with_reducible exact Keeps.fault _ _ | with_reducible refine Keeps.next ?_
  all_goals (try simp)

theorem execDebugGateRelease_keeps  (s : State) : Keeps s (execDebugGateRelease s) := by
  unfold execDebugGateRelease
  repeat' (first | with_reducible refine Keeps.ite ?_ ?_ | split)
  all_goals first | with_reducible exact Keeps.refused _ _ | with_reducible exact Keeps.fault _ _ | with_reducible refine Keeps.next ?_
  all_goals (try simp)

theorem execTimSet_keeps (b) (s : State) : Keeps s (execTimSet b s) := by
  unfold execTimSet
  repeat' (first | with_reducible refine Keeps.ite ?_ ?_ | split)
  all_goals first | with_reducible exact Keeps.refused _ _ | with_reducible exact Keeps.fault _ _ | with_reducible refine Keeps.next ?_
  all_goals (try simp)

theorem execTimStep_keeps (b) (s : State) : Keeps s (execTimStep b s) := by
  unfold execTimStep
  repeat' (first | with_reducible refine Keeps.ite ?_ ?_ | split)
  all_goals first | with_reducible exact Keeps.refused _ _ | with_reducible exact Keeps.fault _ _ | with_reducible refine Keeps.next ?_
  all_goals (try simp)

theorem execTimRate_keeps (b) (s : State) : Keeps s (execTimRate b s) := by
  unfold execTimRate
  repeat' (first | with_reducible refine Keeps.ite ?_ ?_ | split)
  all_goals first | with_reducible exact Keeps.refused _ _ | with_reducible exact Keeps.fault _ _ | with_reducible refine Keeps.next ?_
  all_goals (try simp)

theorem execTimStepRate_keeps (b) (s : State) : Keeps s (execTimStepRate b s) := by
  unfold execTimStepRate
  repeat' (first | with_reducible refine Keeps.ite ?_ ?_ | split)
  all_goals first | with_reducible exact Keeps.refused _ _ | with_reducible exact Keeps.fault _ _ | with_reducible refine Keeps.next ?_
  all_goals (try simp)

theorem execTimSnap_keeps (v) (s : State) : Keeps s (execTimSnap v s) := by
  unfold execTimSnap
  repeat' (first | with_reducible refine Keeps.ite ?_ ?_ | split)
  all_goals first | with_reducible exact Keeps.refused _ _ | with_reducible exact Keeps.fault _ _ | with_reducible refine Keeps.next ?_
  all_goals (try simp)

theorem execTimTsqPop_keeps  (s : State) : Keeps s (execTimTsqPop s) := by
  unfold execTimTsqPop
  repeat' (first | with_reducible refine Keeps.ite ?_ ?_ | split)
  all_goals first | with_reducible exact Keeps.refused _ _ | with_reducible exact Keeps.fault _ _ | with_reducible refine Keeps.next ?_
  all_goals (try simp)

theorem execTimCapPop_keeps (j) (s : State) : Keeps s (execTimCapPop j s) := by
  unfold execTimCapPop
  repeat' (first | with_reducible refine Keeps.ite ?_ ?_ | split)
  all_goals first | with_reducible exact Keeps.refused _ _ | with_reducible exact Keeps.fault _ _ | with_reducible refine Keeps.next ?_
  all_goals (try simp)

theorem execTimClrCounts_keeps  (s : State) : Keeps s (execTimClrCounts s) := by
  unfold execTimClrCounts
  repeat' (first | with_reducible refine Keeps.ite ?_ ?_ | split)
  all_goals first | with_reducible exact Keeps.refused _ _ | with_reducible exact Keeps.fault _ _ | with_reducible refine Keeps.next ?_
  all_goals (try simp)

theorem execPulseEnableWrite_keeps (r) (k) (v) (s : State) : Keeps s (execPulseEnableWrite r k v s) := by
  unfold execPulseEnableWrite
  repeat' (first | with_reducible refine Keeps.ite ?_ ?_ | split)
  all_goals first | with_reducible exact Keeps.refused _ _ | with_reducible exact Keeps.fault _ _ | with_reducible refine Keeps.next ?_
  all_goals (try simp)

theorem execPulseEdge_keeps (k) (s : State) : Keeps s (execPulseEdge k s) := by
  unfold execPulseEdge
  repeat' (first | with_reducible refine Keeps.ite ?_ ?_ | split)
  all_goals first | with_reducible exact Keeps.refused _ _ | with_reducible exact Keeps.fault _ _ | with_reducible refine Keeps.next ?_
  all_goals (try simp)

theorem execCaptureEdge_keeps (j) (rising) (phase) (s : State) : Keeps s (execCaptureEdge j rising phase s) := by
  unfold execCaptureEdge
  repeat' (first | with_reducible refine Keeps.ite ?_ ?_ | split)
  all_goals first | with_reducible exact Keeps.refused _ _ | with_reducible exact Keeps.fault _ _ | with_reducible refine Keeps.next ?_
  all_goals (try simp)

theorem execHbmScrubLine_keeps (line) (err) (collide) (s : State) : Keeps s (execHbmScrubLine line err collide s) := by
  unfold execHbmScrubLine
  repeat' (first | with_reducible refine Keeps.ite ?_ ?_ | split)
  all_goals first | with_reducible exact Keeps.refused _ _ | with_reducible exact Keeps.fault _ _ | with_reducible refine Keeps.next ?_
  all_goals (try simp)

theorem execHbmSelfRefreshEntry_keeps (cached) (s : State) : Keeps s (execHbmSelfRefreshEntry s cached) := by
  unfold execHbmSelfRefreshEntry
  repeat' (first | with_reducible refine Keeps.ite ?_ ?_ | split)
  all_goals first | with_reducible exact Keeps.refused _ _ | with_reducible exact Keeps.fault _ _ | with_reducible refine Keeps.next ?_
  all_goals (try simp)

theorem execHbmWakeDone_keeps  (s : State) : Keeps s (execHbmWakeDone s) := by
  unfold execHbmWakeDone
  repeat' (first | with_reducible refine Keeps.ite ?_ ?_ | split)
  all_goals first | with_reducible exact Keeps.refused _ _ | with_reducible exact Keeps.fault _ _ | with_reducible refine Keeps.next ?_
  all_goals (try simp)

theorem execStackHot_keeps (temp) (s : State) : Keeps s (execStackHot temp s) := by
  unfold execStackHot
  repeat' (first | with_reducible refine Keeps.ite ?_ ?_ | split)
  all_goals first | with_reducible exact Keeps.refused _ _ | with_reducible exact Keeps.fault _ _ | with_reducible refine Keeps.next ?_
  all_goals (try simp)

theorem execPcFailed_keeps (p) (s : State) : Keeps s (execPcFailed p s) := by
  unfold execPcFailed
  repeat' (first | with_reducible refine Keeps.ite ?_ ?_ | split)
  all_goals first | with_reducible exact Keeps.refused _ _ | with_reducible exact Keeps.fault _ _ | with_reducible refine Keeps.next ?_
  all_goals (try simp)

theorem execHbmClrCounts_keeps  (s : State) : Keeps s (execHbmClrCounts s) := by
  unfold execHbmClrCounts
  repeat' (first | with_reducible refine Keeps.ite ?_ ?_ | split)
  all_goals first | with_reducible exact Keeps.refused _ _ | with_reducible exact Keeps.fault _ _ | with_reducible refine Keeps.next ?_
  all_goals (try simp)

theorem execMsixSend_keeps (n) (s : State) : Keeps s (execMsixSend n s) := by
  unfold execMsixSend
  repeat' (first | with_reducible refine Keeps.ite ?_ ?_ | split)
  all_goals first | with_reducible exact Keeps.refused _ _ | with_reducible exact Keeps.fault _ _ | with_reducible refine Keeps.next ?_
  all_goals (try simp)

theorem execEvtAck_keeps (src) (s : State) : Keeps s (execEvtAck src s) := by
  unfold execEvtAck
  repeat' (first | with_reducible refine Keeps.ite ?_ ?_ | split)
  all_goals first | with_reducible exact Keeps.refused _ _ | with_reducible exact Keeps.fault _ _ | with_reducible refine Keeps.next ?_
  all_goals (try simp)

theorem execEscalation_keeps (src) (s : State) : Keeps s (execEscalation src s) := by
  unfold execEscalation
  repeat' (first | with_reducible refine Keeps.ite ?_ ?_ | split)
  all_goals first | with_reducible exact Keeps.refused _ _ | with_reducible exact Keeps.fault _ _ | with_reducible refine Keeps.next ?_
  all_goals (try simp)

theorem execEvtHistPop_keeps  (s : State) : Keeps s (execEvtHistPop s) := by
  unfold execEvtHistPop
  repeat' (first | with_reducible refine Keeps.ite ?_ ?_ | split)
  all_goals first | with_reducible exact Keeps.refused _ _ | with_reducible exact Keeps.fault _ _ | with_reducible refine Keeps.next ?_
  all_goals (try simp)

theorem execEvtClrCounts_keeps  (s : State) : Keeps s (execEvtClrCounts s) := by
  unfold execEvtClrCounts
  repeat' (first | with_reducible refine Keeps.ite ?_ ?_ | split)
  all_goals first | with_reducible exact Keeps.refused _ _ | with_reducible exact Keeps.fault _ _ | with_reducible refine Keeps.next ?_
  all_goals (try simp)

theorem execBurgeeRenew_keeps  (s : State) : Keeps s (execBurgeeRenew s) := by
  unfold execBurgeeRenew
  repeat' (first | with_reducible refine Keeps.ite ?_ ?_ | split)
  all_goals first | with_reducible exact Keeps.refused _ _ | with_reducible exact Keeps.fault _ _ | with_reducible refine Keeps.next ?_
  all_goals (try simp)

theorem execWardenLeaseLapse_keeps  (s : State) : Keeps s (execWardenLeaseLapse s) := by
  unfold execWardenLeaseLapse
  repeat' (first | with_reducible refine Keeps.ite ?_ ?_ | split)
  all_goals first | with_reducible exact Keeps.refused _ _ | with_reducible exact Keeps.fault _ _ | with_reducible refine Keeps.next ?_
  all_goals (try simp)

theorem execBurgeeGuardEnd_keeps  (s : State) : Keeps s (execBurgeeGuardEnd s) := by
  unfold execBurgeeGuardEnd
  repeat' (first | with_reducible refine Keeps.ite ?_ ?_ | split)
  all_goals first | with_reducible exact Keeps.refused _ _ | with_reducible exact Keeps.fault _ _ | with_reducible refine Keeps.next ?_
  all_goals (try simp)

theorem execWardenSelfCheck_keeps (w) (ok) (s : State) : Keeps s (execWardenSelfCheck w ok s) := by
  unfold execWardenSelfCheck
  repeat' (first | with_reducible refine Keeps.ite ?_ ?_ | split)
  all_goals first | with_reducible exact Keeps.refused _ _ | with_reducible exact Keeps.fault _ _ | with_reducible refine Keeps.next ?_
  all_goals (try simp)

theorem execWardenReportMissing_keeps  (s : State) : Keeps s (execWardenReportMissing s) := by
  unfold execWardenReportMissing
  repeat' (first | with_reducible refine Keeps.ite ?_ ?_ | split)
  all_goals first | with_reducible exact Keeps.refused _ _ | with_reducible exact Keeps.fault _ _ | with_reducible refine Keeps.next ?_
  all_goals (try simp)

theorem execHandover_keeps  (s : State) : Keeps s (execHandover s) := by
  unfold execHandover
  repeat' (first | with_reducible refine Keeps.ite ?_ ?_ | split)
  all_goals first | with_reducible exact Keeps.refused _ _ | with_reducible exact Keeps.fault _ _ | with_reducible refine Keeps.next ?_
  all_goals (try simp)

theorem execWardensLostTimeout_keeps  (s : State) : Keeps s (execWardensLostTimeout s) := by
  unfold execWardensLostTimeout
  repeat' (first | with_reducible refine Keeps.ite ?_ ?_ | split)
  all_goals first | with_reducible exact Keeps.refused _ _ | with_reducible exact Keeps.fault _ _ | with_reducible refine Keeps.next ?_
  all_goals (try simp)

theorem execPairEnableWrite_keeps (r) (v) (s : State) : Keeps s (execPairEnableWrite r v s) := by
  unfold execPairEnableWrite
  repeat' (first | with_reducible refine Keeps.ite ?_ ?_ | split)
  all_goals first | with_reducible exact Keeps.refused _ _ | with_reducible exact Keeps.fault _ _ | with_reducible refine Keeps.next ?_
  all_goals (try simp)

theorem execHealthSend_keeps  (s : State) : Keeps s (execHealthSend s) := by
  unfold execHealthSend
  repeat' (first | with_reducible refine Keeps.ite ?_ ?_ | split)
  all_goals first | with_reducible exact Keeps.refused _ _ | with_reducible exact Keeps.fault _ _ | with_reducible refine Keeps.next ?_
  all_goals (try simp)

theorem execRenewSend_keeps  (s : State) : Keeps s (execRenewSend s) := by
  unfold execRenewSend
  repeat' (first | with_reducible refine Keeps.ite ?_ ?_ | split)
  all_goals first | with_reducible exact Keeps.refused _ _ | with_reducible exact Keeps.fault _ _ | with_reducible refine Keeps.next ?_
  all_goals (try simp)

theorem execHealthRx_keeps (lane) (payload) (s : State) : Keeps s (execHealthRx lane payload s) := by
  unfold execHealthRx
  repeat' (first | with_reducible refine Keeps.ite ?_ ?_ | split)
  all_goals first | with_reducible exact Keeps.refused _ _ | with_reducible exact Keeps.fault _ _ | with_reducible refine Keeps.next ?_
  all_goals (try simp)

theorem execRenewRx_keeps (lane) (payload) (s : State) : Keeps s (execRenewRx lane payload s) := by
  unfold execRenewRx
  exact .next (State.receive_kept _ _ _ _ _ (fun _ _ => rfl))

theorem execYieldRx_keeps (lane) (payload) (s : State) : Keeps s (execYieldRx lane payload s) := by
  unfold execYieldRx
  repeat' (first | with_reducible refine Keeps.ite ?_ ?_ | split)
  all_goals first | with_reducible exact Keeps.refused _ _ | with_reducible exact Keeps.fault _ _ | with_reducible refine Keeps.next ?_
  all_goals (try simp)

theorem execClaimRx_keeps (lane) (payload) (s : State) : Keeps s (execClaimRx lane payload s) := by
  unfold execClaimRx
  repeat' (first | with_reducible refine Keeps.ite ?_ ?_ | split)
  all_goals first | with_reducible exact Keeps.refused _ _ | with_reducible exact Keeps.fault _ _ | with_reducible refine Keeps.next ?_
  all_goals (try simp)

theorem execStoppedRx_keeps (lane) (payload) (s : State) : Keeps s (execStoppedRx lane payload s) := by
  unfold execStoppedRx
  repeat' (first | with_reducible refine Keeps.ite ?_ ?_ | split)
  all_goals first | with_reducible exact Keeps.refused _ _ | with_reducible exact Keeps.fault _ _ | with_reducible refine Keeps.next ?_
  all_goals (try simp)

theorem execModuleLeaseLapse_keeps  (s : State) : Keeps s (execModuleLeaseLapse s) := by
  unfold execModuleLeaseLapse
  repeat' (first | with_reducible refine Keeps.ite ?_ ?_ | split)
  all_goals first | with_reducible exact Keeps.refused _ _ | with_reducible exact Keeps.fault _ _ | with_reducible refine Keeps.next ?_
  all_goals (try simp)

theorem execModuleGuardEnd_keeps  (s : State) : Keeps s (execModuleGuardEnd s) := by
  unfold execModuleGuardEnd
  repeat' (first | with_reducible refine Keeps.ite ?_ ?_ | split)
  all_goals first | with_reducible exact Keeps.refused _ _ | with_reducible exact Keeps.fault _ _ | with_reducible refine Keeps.next ?_
  all_goals (try simp)

theorem execPartnerLostTimeout_keeps  (s : State) : Keeps s (execPartnerLostTimeout s) := by
  unfold execPartnerLostTimeout
  repeat' (first | with_reducible refine Keeps.ite ?_ ?_ | split)
  all_goals first | with_reducible exact Keeps.refused _ _ | with_reducible exact Keeps.fault _ _ | with_reducible refine Keeps.next ?_
  all_goals (try simp)

theorem execStartingTimeout_keeps  (s : State) : Keeps s (execStartingTimeout s) := by
  unfold execStartingTimeout
  repeat' (first | with_reducible refine Keeps.ite ?_ ?_ | split)
  all_goals first | with_reducible exact Keeps.refused _ _ | with_reducible exact Keeps.fault _ _ | with_reducible refine Keeps.next ?_
  all_goals (try simp)

theorem claimEnd_kept (s t : State) (g : t.kept = s.kept) (p : Prop) [Decidable p] :
    Keeps s (if p then .next { t with pp := { t.pp with yielding := false, bySwitch := false } } else .next s) := by
  split
  · exact .next g
  · exact .next rfl

theorem execClaimTimeout_keeps (s : State) : Keeps s (execClaimTimeout s) :=
  claimEnd_kept s (if s.pp.bySwitch then s.pairResult 0x62 else s) (by rw [State.kept_ite, State.pairResult_kept, ite_self]) _

theorem execYieldResend_keeps  (s : State) : Keeps s (execYieldResend s) := by
  unfold execYieldResend
  repeat' (first | with_reducible refine Keeps.ite ?_ ?_ | split)
  all_goals first | with_reducible exact Keeps.refused _ _ | with_reducible exact Keeps.fault _ _ | with_reducible refine Keeps.next ?_
  all_goals (try simp)

theorem execPairSwitch_keeps  (s : State) : Keeps s (execPairSwitch s) := by
  unfold execPairSwitch
  repeat' (first | with_reducible refine Keeps.ite ?_ ?_ | split)
  all_goals first | with_reducible exact Keeps.refused _ _ | with_reducible exact Keeps.fault _ _ | with_reducible refine Keeps.next ?_
  all_goals (try simp)

theorem execFleetSet_keeps (v) (s : State) : Keeps s (execFleetSet v s) := by
  unfold execFleetSet
  repeat' (first | with_reducible refine Keeps.ite ?_ ?_ | split)
  all_goals first | with_reducible exact Keeps.refused _ _ | with_reducible exact Keeps.fault _ _ | with_reducible refine Keeps.next ?_
  all_goals (try simp)

theorem execIdnApply_keeps  (s : State) : Keeps s (execIdnApply s) := by
  unfold execIdnApply
  repeat' (first | with_reducible refine Keeps.ite ?_ ?_ | split)
  all_goals first | with_reducible exact Keeps.refused _ _ | with_reducible exact Keeps.fault _ _ | with_reducible refine Keeps.next ?_
  all_goals (try simp)

theorem execHoldWrite_keeps (hold) (s : State) : Keeps s (execHoldWrite hold s) := by
  unfold execHoldWrite
  repeat' (first | with_reducible refine Keeps.ite ?_ ?_ | split)
  all_goals first | with_reducible exact Keeps.refused _ _ | with_reducible exact Keeps.fault _ _ | with_reducible refine Keeps.next ?_
  all_goals (try simp)

theorem execSafePointApply_keeps (u) (s : State) : Keeps s (execSafePointApply u s) := by
  unfold execSafePointApply
  repeat' (first | with_reducible refine Keeps.ite ?_ ?_ | split)
  all_goals first | with_reducible exact Keeps.refused _ _ | with_reducible exact Keeps.fault _ _ | with_reducible refine Keeps.next ?_
  all_goals (try simp)

theorem execCrossingTimeout_keeps (x) (inst) (write) (r) (s : State) : Keeps s (execCrossingTimeout x inst write r s) := by
  unfold execCrossingTimeout
  repeat' (first | with_reducible refine Keeps.ite ?_ ?_ | split)
  all_goals first | with_reducible exact Keeps.refused _ _ | with_reducible exact Keeps.fault _ _ | with_reducible refine Keeps.next ?_
  all_goals (try simp)

theorem execResyncDone_keeps (x) (inst) (held) (s : State) : Keeps s (execResyncDone x inst held s) := by
  unfold execResyncDone
  repeat' (first | with_reducible refine Keeps.ite ?_ ?_ | split)
  all_goals first | with_reducible exact Keeps.refused _ _ | with_reducible exact Keeps.fault _ _ | with_reducible refine Keeps.next ?_
  all_goals (try simp)

theorem execRegisterWrite_keeps (r) (addr) (be) (v) (s : State) : Keeps s (execRegisterWrite r addr be v s) := by
  unfold execRegisterWrite
  repeat' (first | with_reducible refine Keeps.ite ?_ ?_ | split)
  all_goals first | with_reducible exact Keeps.refused _ _ | with_reducible exact Keeps.fault _ _ | with_reducible refine Keeps.next ?_
  all_goals (try simp)

theorem execFreezeWrite_keeps (v) (s : State) : Keeps s (execFreezeWrite v s) := by
  unfold execFreezeWrite
  repeat' (first | with_reducible refine Keeps.ite ?_ ?_ | split)
  all_goals first | with_reducible exact Keeps.refused _ _ | with_reducible exact Keeps.fault _ _ | with_reducible refine Keeps.next ?_
  all_goals (try simp)

theorem execPmuClrCounts_keeps  (s : State) : Keeps s (execPmuClrCounts s) := by
  unfold execPmuClrCounts
  repeat' (first | with_reducible refine Keeps.ite ?_ ?_ | split)
  all_goals first | with_reducible exact Keeps.refused _ _ | with_reducible exact Keeps.fault _ _ | with_reducible refine Keeps.next ?_
  all_goals (try simp)

theorem execPmuSelectionApply_keeps  (s : State) : Keeps s (execPmuSelectionApply s) := by
  unfold execPmuSelectionApply
  repeat' (first | with_reducible refine Keeps.ite ?_ ?_ | split)
  all_goals first | with_reducible exact Keeps.refused _ _ | with_reducible exact Keeps.fault _ _ | with_reducible refine Keeps.next ?_
  all_goals (try simp)

theorem execRingEnableWrite_keeps (r) (v) (s : State) : Keeps s (execRingEnableWrite r v s) := by
  unfold execRingEnableWrite
  repeat' (first | with_reducible refine Keeps.ite ?_ ?_ | split)
  all_goals first | with_reducible exact Keeps.refused _ _ | with_reducible exact Keeps.fault _ _ | with_reducible refine Keeps.next ?_
  all_goals (try simp)

theorem execPmuRingPop_keeps (bad) (s : State) : Keeps s (execPmuRingPop s bad) := by
  unfold execPmuRingPop
  repeat' (first | with_reducible refine Keeps.ite ?_ ?_ | split)
  all_goals first | with_reducible exact Keeps.refused _ _ | with_reducible exact Keeps.fault _ _ | with_reducible refine Keeps.next ?_
  all_goals (try simp)

theorem execObserverAccess_keeps (off) (write) (v) (s : State) : Keeps s (execObserverAccess off write v s) := by
  unfold execObserverAccess
  repeat' (first | with_reducible refine Keeps.ite ?_ ?_ | split)
  all_goals first | with_reducible exact Keeps.refused _ _ | with_reducible exact Keeps.fault _ _ | with_reducible refine Keeps.next ?_
  all_goals (try simp)

theorem execPcieConfigRequest_keeps (pf1) (write) (addr) (v) (be) (s : State) : Keeps s (execPcieConfigRequest pf1 write addr v be s) := by
  unfold execPcieConfigRequest
  repeat' (first | with_reducible refine Keeps.ite ?_ ?_ | split)
  all_goals first | with_reducible exact Keeps.refused _ _ | with_reducible exact Keeps.fault _ _ | with_reducible refine Keeps.next ?_
  all_goals (try simp)

theorem execPcieLinkChange_keeps (up) (width) (speed) (s : State) : Keeps s (execPcieLinkChange up width speed s) := by
  unfold execPcieLinkChange
  repeat' (first | with_reducible refine Keeps.ite ?_ ?_ | split)
  all_goals first | with_reducible exact Keeps.refused _ _ | with_reducible exact Keeps.fault _ _ | with_reducible refine Keeps.next ?_
  all_goals (try simp)

theorem execStwSend_keeps  (s : State) : Keeps s (execStwSend s) := by
  unfold execStwSend
  repeat' (first | with_reducible refine Keeps.ite ?_ ?_ | split)
  all_goals first | with_reducible exact Keeps.refused _ _ | with_reducible exact Keeps.fault _ _ | with_reducible refine Keeps.next ?_
  all_goals (try simp)

theorem execMailboxResponse_keeps (m) (s : State) : Keeps s (execMailboxResponse m s) := by
  unfold execMailboxResponse
  repeat' (first | with_reducible refine Keeps.ite ?_ ?_ | split)
  all_goals first | with_reducible exact Keeps.refused _ _ | with_reducible exact Keeps.fault _ _ | with_reducible refine Keeps.next ?_
  all_goals (try simp)

theorem execMbxIdentity_keeps (m) (s : State) : Keeps s (execMbxIdentity m s) := by
  unfold execMbxIdentity
  repeat' (first | with_reducible refine Keeps.ite ?_ ?_ | split)
  all_goals first | with_reducible exact Keeps.refused _ _ | with_reducible exact Keeps.fault _ _ | with_reducible refine Keeps.next ?_
  all_goals (try simp)

theorem execMbxStatus_keeps (m) (s : State) : Keeps s (execMbxStatus m s) := by
  unfold execMbxStatus
  repeat' (first | with_reducible refine Keeps.ite ?_ ?_ | split)
  all_goals first | with_reducible exact Keeps.refused _ _ | with_reducible exact Keeps.fault _ _ | with_reducible refine Keeps.next ?_
  all_goals (try simp)

theorem execMbxFlashRead_keeps (m) (s : State) : Keeps s (execMbxFlashRead m s) := by
  unfold execMbxFlashRead
  repeat' (first | with_reducible refine Keeps.ite ?_ ?_ | split)
  all_goals first | with_reducible exact Keeps.refused _ _ | with_reducible exact Keeps.fault _ _ | with_reducible refine Keeps.next ?_
  all_goals (try simp)

theorem execMbxFlashWrite_keepsFlashOk (m) (ok) (s : State) : KeepsFlashOk s (execMbxFlashWrite m ok s) := by
  unfold execMbxFlashWrite
  exact .next (State.mbxRun_flashed _ _ _ _ fun b t => State.flashWrite_flashed _ _ _)

theorem execMbxFlashErase_keepsFlashOk (m) (ok) (s : State) : KeepsFlashOk s (execMbxFlashErase m ok s) := by
  unfold execMbxFlashErase
  exact .next (State.mbxRun_flashed _ _ _ _ fun b t => State.flashErase_flashed _ _ _)

theorem execMbxPfxAdd_keeps (m) (s : State) : Keeps s (execMbxPfxAdd m s) := by
  unfold execMbxPfxAdd
  repeat' (first | with_reducible refine Keeps.ite ?_ ?_ | split)
  all_goals first | with_reducible exact Keeps.refused _ _ | with_reducible exact Keeps.fault _ _ | with_reducible refine Keeps.next ?_
  all_goals (try simp)

theorem execMbxPfxDelete_keeps (m) (s : State) : Keeps s (execMbxPfxDelete m s) := by
  unfold execMbxPfxDelete
  repeat' (first | with_reducible refine Keeps.ite ?_ ?_ | split)
  all_goals first | with_reducible exact Keeps.refused _ _ | with_reducible exact Keeps.fault _ _ | with_reducible refine Keeps.next ?_
  all_goals (try simp)

theorem execMbxAttest_keeps (m) (s : State) : Keeps s (execMbxAttest m s) := by
  unfold execMbxAttest
  repeat' (first | with_reducible refine Keeps.ite ?_ ?_ | split)
  all_goals first | with_reducible exact Keeps.refused _ _ | with_reducible exact Keeps.fault _ _ | with_reducible refine Keeps.next ?_
  all_goals (try simp)

theorem execMbxUnlockStart_keeps (m) (s : State) : Keeps s (execMbxUnlockStart m s) := by
  unfold execMbxUnlockStart
  repeat' (first | with_reducible refine Keeps.ite ?_ ?_ | split)
  all_goals first | with_reducible exact Keeps.refused _ _ | with_reducible exact Keeps.fault _ _ | with_reducible refine Keeps.next ?_
  all_goals (try simp)

theorem execMbxUnlockRespond_keeps (m) (s : State) : Keeps s (execMbxUnlockRespond m s) := by
  unfold execMbxUnlockRespond
  repeat' (first | with_reducible refine Keeps.ite ?_ ?_ | split)
  all_goals first | with_reducible exact Keeps.refused _ _ | with_reducible exact Keeps.fault _ _ | with_reducible refine Keeps.next ?_
  all_goals (try simp)

theorem execI2cRead_keeps (addr) (count) (s : State) : Keeps s (execI2cRead addr count s) := by
  unfold execI2cRead
  repeat' (first | with_reducible refine Keeps.ite ?_ ?_ | split)
  all_goals first | with_reducible exact Keeps.refused _ _ | with_reducible exact Keeps.fault _ _ | with_reducible refine Keeps.next ?_
  all_goals (try simp)

theorem execI2cWrite_keeps (addr) (v) (s : State) : Keeps s (execI2cWrite addr v s) := by
  unfold execI2cWrite
  repeat' (first | with_reducible refine Keeps.ite ?_ ?_ | split)
  all_goals first | with_reducible exact Keeps.refused _ _ | with_reducible exact Keeps.fault _ _ | with_reducible refine Keeps.next ?_
  all_goals (try simp)

theorem execI2cMbxSend_keeps (msg) (s : State) : Keeps s (execI2cMbxSend msg s) := by
  unfold execI2cMbxSend
  repeat' (first | with_reducible refine Keeps.ite ?_ ?_ | split)
  all_goals first | with_reducible exact Keeps.refused _ _ | with_reducible exact Keeps.fault _ _ | with_reducible refine Keeps.next ?_
  all_goals (try simp)

theorem execI2cMbxRecv_keeps  (s : State) : Keeps s (execI2cMbxRecv s) := by
  unfold execI2cMbxRecv
  repeat' (first | with_reducible refine Keeps.ite ?_ ?_ | split)
  all_goals first | with_reducible exact Keeps.refused _ _ | with_reducible exact Keeps.fault _ _ | with_reducible refine Keeps.next ?_
  all_goals (try simp)

theorem execStewardWatchdog_keeps  (s : State) : Keeps s (execStewardWatchdog s) := by
  unfold execStewardWatchdog
  repeat' (first | with_reducible refine Keeps.ite ?_ ?_ | split)
  all_goals first | with_reducible exact Keeps.refused _ _ | with_reducible exact Keeps.fault _ _ | with_reducible refine Keeps.next ?_
  all_goals (try simp)

theorem execPerstNDeassert_keeps  (s : State) : Keeps s (execPerstNDeassert s) := by
  unfold execPerstNDeassert
  repeat' (first | with_reducible refine Keeps.ite ?_ ?_ | split)
  all_goals first | with_reducible exact Keeps.refused _ _ | with_reducible exact Keeps.fault _ _ | with_reducible refine Keeps.next ?_
  all_goals (try simp)

theorem execTamperInRelease_keeps  (s : State) : Keeps s (execTamperInRelease s) := by
  unfold execTamperInRelease
  repeat' (first | with_reducible refine Keeps.ite ?_ ?_ | split)
  all_goals first | with_reducible exact Keeps.refused _ _ | with_reducible exact Keeps.fault _ _ | with_reducible refine Keeps.next ?_
  all_goals (try simp)

theorem execVbatRestored_keeps  (s : State) : Keeps s (execVbatRestored s) := by
  unfold execVbatRestored
  repeat' (first | with_reducible refine Keeps.ite ?_ ?_ | split)
  all_goals first | with_reducible exact Keeps.refused _ _ | with_reducible exact Keeps.fault _ _ | with_reducible refine Keeps.next ?_
  all_goals (try simp)

theorem execPolderWakeDone_keeps (p) (s : State) : Keeps s (execPolderWakeDone p s) := by
  unfold execPolderWakeDone
  repeat' (first | with_reducible refine Keeps.ite ?_ ?_ | split)
  all_goals first | with_reducible exact Keeps.refused _ _ | with_reducible exact Keeps.fault _ _ | with_reducible refine Keeps.next ?_
  all_goals (try simp)

theorem execStewardRestartDone_keeps  (s : State) : Keeps s (execStewardRestartDone s) := by
  unfold execStewardRestartDone
  repeat' (first | with_reducible refine Keeps.ite ?_ ?_ | split)
  all_goals first | with_reducible exact Keeps.refused _ _ | with_reducible exact Keeps.fault _ _ | with_reducible refine Keeps.next ?_
  all_goals (try simp)

theorem execStackHotEnd_keeps (temp) (s : State) : Keeps s (execStackHotEnd temp s) := by
  unfold execStackHotEnd
  repeat' (first | with_reducible refine Keeps.ite ?_ ?_ | split)
  all_goals first | with_reducible exact Keeps.refused _ _ | with_reducible exact Keeps.fault _ _ | with_reducible refine Keeps.next ?_
  all_goals (try simp)

theorem execRegisterRead_keeps (r) (addr) (s : State) : Keeps s (execRegisterRead r addr s) := by
  unfold execRegisterRead
  repeat' (first | with_reducible refine Keeps.ite ?_ ?_ | split)
  all_goals first | with_reducible exact Keeps.refused _ _ | with_reducible exact Keeps.fault _ _ | with_reducible refine Keeps.next ?_
  all_goals (try simp)

theorem execI2cProtocolError_keeps  (s : State) : Keeps s (execI2cProtocolError s) := by
  unfold execI2cProtocolError
  repeat' (first | with_reducible refine Keeps.ite ?_ ?_ | split)
  all_goals first | with_reducible exact Keeps.refused _ _ | with_reducible exact Keeps.fault _ _ | with_reducible refine Keeps.next ?_
  all_goals (try simp)

theorem execCounterWrap_keeps (c) (s : State) : Keeps s (execCounterWrap c s) := by
  unfold execCounterWrap
  repeat' (first | with_reducible refine Keeps.ite ?_ ?_ | split)
  all_goals first | with_reducible exact Keeps.refused _ _ | with_reducible exact Keeps.fault _ _ | with_reducible refine Keeps.next ?_
  all_goals (try simp)

end Sys2Proof.Machine
end

