-- ==== Sys2Proof/Laws/Ops.lean ====
section
/-! SUPPORT. What the shared operations change, to the single register word and counter, and what a raise leaves. -/

namespace Sys2Proof.Machine.State

variable {s t u : State} {ps qs : List Part} {rs ws cs ds : List Nat}

/-! ### The laws of the frame -/

theorem Changes.refl (ps : List Part) (rs cs : List Nat) (s : State) : Changes ps rs cs s s :=
  ⟨Only.refl _ s, fun _ _ => rfl, fun _ _ => rfl⟩

theorem Changes.trans (h : Changes ps rs cs s t) (g : Changes ps rs cs t u) : Changes ps rs cs s u :=
  ⟨Only.trans h.parts g.parts, fun a m => (g.regs a m).trans (h.regs a m), fun a m => (g.ctrs a m).trans (h.ctrs a m)⟩

theorem Changes.mono (h : Changes ps rs cs s t) (p : ∀ x ∈ ps, x ∈ qs) (r : ∀ x ∈ rs, x ∈ ws) (c : ∀ x ∈ cs, x ∈ ds) :
    Changes qs ws ds s t :=
  ⟨Only.mono h.parts (by
      intro x hx
      simp only [List.mem_cons] at hx ⊢
      rcases hx with hx | hx | hx
      · exact .inl hx
      · exact .inr (.inl hx)
      · exact .inr (.inr (p x hx))),
    fun a m => h.regs a (fun q => m (r a q)), fun a m => h.ctrs a (fun q => m (c a q))⟩

theorem Changes.ite {c : Prop} [Decidable c] (h : Changes ps rs cs s t) (g : Changes ps rs cs s u) :
    Changes ps rs cs s (if c then t else u) := by
  split
  · exact h
  · exact g

theorem Changes.foldl {β : Type} {f : State → β → State} (h : ∀ t x, Changes ps rs cs t (f t x)) (l : List β) (s : State) :
    Changes ps rs cs s (l.foldl f s) := by
  induction l generalizing s with
  | nil => exact Changes.refl _ _ _ s
  | cons x r ih => exact Changes.trans (h s x) (ih _)

/-- A step that leaves the registers and counters alone. -/
theorem Changes.of (h : Only (.regs :: .ctr :: ps) s t) (r : t.regs = s.regs) (c : t.ctr = s.ctr) : Changes ps rs cs s t :=
  ⟨h, fun a _ => by unfold State.reg; rw [r], fun a _ => by unfold State.counter; rw [c]⟩

/-- One more operation. -/
theorem Changes.andThen (h : Changes ps rs cs s t) (g : Changes qs ws ds t u) (p : ∀ x ∈ qs, x ∈ ps) (r : ∀ x ∈ ws, x ∈ rs)
    (c : ∀ x ∈ ds, x ∈ cs) : Changes ps rs cs s u := h.trans (g.mono p r c)

/-! ### Register words and counters -/

theorem reg_setReg (s : State) (a : Nat) (v : Word) (b : Nat) : (s.setReg a v).reg b = if b = a then v else s.reg b :=
  Tab.get_put _ _ _ _ _

@[simp] theorem reg_setReg_same (s : State) (a : Nat) (v : Word) : (s.setReg a v).reg a = v := Tab.get_put_same _ _ _ _

theorem reg_setReg_other (s : State) {a b : Nat} (h : b ≠ a) (v : Word) : (s.setReg a v).reg b = s.reg b :=
  Tab.get_put_other _ _ h _

@[simp] theorem reg_orReg_same (s : State) (a m : Nat) : (s.orReg a m).reg a = s.reg a ||| BitVec.ofNat 32 m := reg_setReg_same _ _ _

theorem reg_orReg_other (s : State) {a b : Nat} (h : b ≠ a) (m : Nat) : (s.orReg a m).reg b = s.reg b := reg_setReg_other _ h _

theorem counter_add (s : State) (a n b : Nat) :
    (s.add a n).counter b = if b = a then s.counter a + BitVec.ofNat 64 n else s.counter b :=
  Tab.get_put _ _ _ _ _

@[simp] theorem counter_add_same (s : State) (a n : Nat) : (s.add a n).counter a = s.counter a + BitVec.ofNat 64 n :=
  Tab.get_put_same _ _ _ _

@[simp] theorem counter_bump_same (s : State) (a : Nat) : (s.bump a).counter a = s.counter a + 1 := counter_add_same _ _ _

@[simp] theorem counter_setReg (s : State) (a : Nat) (v : Word) (b : Nat) : (s.setReg a v).counter b = s.counter b := rfl

@[simp] theorem reg_add (s : State) (a n b : Nat) : (s.add a n).reg b = s.reg b := rfl

@[simp] theorem reg_bump (s : State) (a b : Nat) : (s.bump a).reg b = s.reg b := rfl

theorem setReg_changes (s : State) (a : Nat) (v : Word) : Changes [] [a] [] s (s.setReg a v) :=
  ⟨Only.regs (by simp) (Only.refl _ s), fun b m => reg_setReg_other s (by simpa using m) v, fun _ _ => rfl⟩

theorem setField_changes (s : State) (a lo n x : Nat) : Changes [] [a] [] s (s.setField a lo n x) := setReg_changes _ _ _

theorem orReg_changes (s : State) (a m : Nat) : Changes [] [a] [] s (s.orReg a m) := setReg_changes _ _ _

theorem addReg_changes (s : State) (a n : Nat) : Changes [] [a] [] s (s.addReg a n) := setReg_changes _ _ _

theorem setRegs_changes (s : State) (l : List (Nat × Word)) : Changes [] (l.map Prod.fst) [] s (s.setRegs l) := by
  induction l generalizing s with
  | nil => exact Changes.refl _ _ _ s
  | cons e r ih =>
    refine ((setReg_changes s e.1 e.2).mono (by simp) (by simp) (by simp)).trans ((ih (s.setReg e.1 e.2)).mono (by simp) ?_ (by simp))
    exact fun x hx => List.mem_cons_of_mem _ hx

theorem add_changes (s : State) (a n : Nat) : Changes [] [] [a] s (s.add a n) :=
  ⟨Only.ctr (by simp) (Only.refl _ s), fun _ _ => rfl, fun b m => by rw [counter_add, if_neg (by simpa using m)]⟩

theorem bump_changes (s : State) (a : Nat) : Changes [] [] [a] s (s.bump a) := add_changes s a 1

theorem capture_changes (s : State) (a : Nat) (l : List (Nat × Nat × Nat)) : Changes [] [a] [] s (s.capture a l) := by
  unfold State.capture
  exact .ite (orReg_changes _ _ _) (setReg_changes _ _ _)

/-! ### Events -/

theorem evt_changes (s : State) (x : Evt) : Changes [.evt] rs cs s { s with evt := x } :=
  Changes.of (Only.evt (by simp) (Only.refl _ s)) rfl rfl

theorem msixCall_changes (s : State) (n : Nat) : Changes [.evt] rs cs s (s.msixCall n) := by
  unfold State.msixCall
  exact .ite (Changes.refl _ _ _ s) (.ite (evt_changes _ _) (evt_changes _ _))

theorem pend_changes (s : State) (n : Nat) : Changes [.evt] rs cs s (s.pend n) := by
  unfold State.pend
  exact .ite (evt_changes _ _) ((evt_changes s _).trans (msixCall_changes _ _))

theorem histWrite_changes (s : State) (e : HistEntry) : Changes [.evt] Reg.raiseWords Reg.raiseCtrs s (s.histWrite e) := by
  unfold State.histWrite
  split
  · have h : Changes [.evt] Reg.raiseWords Reg.raiseCtrs s (s.bump (Reg.wrdCtr + 0x08)) :=
      (bump_changes s _).mono (by simp) (by simp) (by simp [Reg.raiseCtrs])
    exact ((h.andThen (orReg_changes _ _ _) (by simp) (by simp [Reg.raiseWords]) (by simp)).trans (evt_changes _ _)).trans (pend_changes _ _)
  · exact (evt_changes s _).andThen (bump_changes _ _) (by simp) (by simp) (by simp [Reg.raiseCtrs])

theorem stand_changes (s : State) (a b c d : Nat) (e : Option Nat) : Changes [.evt] rs cs s (s.stand a b c d e) := evt_changes _ _

theorem deliverCore_changes (s : State) (src cause cls time : Nat) (esc held : Bool) (unit : Nat) :
    Changes [.evt] Reg.raiseWords Reg.raiseCtrs s (s.deliverCore src cause cls time esc held unit) := by
  unfold State.deliverCore
  dsimp only
  have h := pend_changes (rs := Reg.raiseWords) (cs := Reg.raiseCtrs) s src
  refine .ite h ?_
  split
  · refine .ite (h.trans (evt_changes _ _)) (.ite ?_ ?_)
    · exact (h.trans (histWrite_changes _ _)).trans (stand_changes _ _ _ _ _ _)
    · exact h.trans (histWrite_changes _ _)
  · have g := h.trans (histWrite_changes (s.pend src) (entry src cause cls time esc held))
    refine .ite (.ite (.ite ?_ g) ?_) (.ite ?_ g)
    · exact g.trans (stand_changes _ _ _ _ _ _)
    · exact g.trans (stand_changes _ _ _ _ _ _)
    · exact g.trans (stand_changes _ _ _ _ _ _)

theorem raiseLow_changes (s : State) (src cause cls unit : Nat) :
    Changes [.evt] Reg.raiseWords Reg.raiseCtrs s (s.raiseLow src cause cls unit) := by
  unfold State.raiseLow
  exact .ite (deliverCore_changes _ _ _ _ _ _ _ _) (evt_changes _ _)

/-- A raise below C4. -/
theorem raise_changes (s : State) (src cause cls : Nat) (unit : Nat) (h : cls ≠ 4) :
    Changes [.evt] Reg.raiseWords Reg.raiseCtrs s (s.raise src cause cls unit) := by
  unfold State.raise State.deliver
  dsimp only
  rw [if_neg h]
  exact .ite (deliverCore_changes _ _ _ _ _ _ _ _) (raiseLow_changes _ _ _ _ _)

/-- A cause below C4: its register, and what a raise may change. -/
theorem cause_changes (s : State) (a bit src cls : Nat) (unit : Nat) (h : cls ≠ 4) :
    Changes [.evt] (a :: Reg.raiseWords) Reg.raiseCtrs s (s.cause a bit src cls unit) := by
  unfold State.cause
  refine Changes.trans ?_ ((raise_changes _ _ _ _ _ h).mono (by simp) (by simp +contextual) (by simp))
  exact (orReg_changes _ _ _).mono (by simp) (by simp) (by simp)

theorem msixCall_pending (s : State) (n : Nat) : (s.msixCall n).evt.pending = s.evt.pending := by
  unfold State.msixCall
  split
  · rfl
  · split <;> rfl

theorem pend_pending (s : State) (n : Nat) : (s.pend n).evt.pending = s.evt.pending ||| (1#256 <<< n) := by
  unfold State.pend
  dsimp only
  split
  · rfl
  · rw [msixCall_pending]

theorem histWrite_pending (s : State) (e : HistEntry) (n : Nat) (h : s.evt.pending.getLsbD n = true) :
    (s.histWrite e).evt.pending.getLsbD n = true := by
  unfold State.histWrite
  split
  · rw [pend_pending]
    rw [BitVec.getLsbD_or]
    exact Bool.or_eq_true_iff.2 (.inl h)
  · exact h

theorem deliverCore_pending (s : State) (src cause cls time : Nat) (esc held : Bool) (unit : Nat) (h : src < 256) :
    (s.deliverCore src cause cls time esc held unit).evt.pending.getLsbD src = true := by
  have g : (s.pend src).evt.pending.getLsbD src = true := by
    rw [pend_pending, BitVec.getLsbD_or, BitVec.getLsbD_shiftLeft]
    simp [h]
  have k := histWrite_pending (s.pend src) (entry src cause cls time esc held) src g
  unfold State.deliverCore
  dsimp only
  repeat' split
  all_goals first | exact g | exact k

theorem raiseLow_raised (s : State) (src cause cls unit : Nat) (h : src < 256) : Raised src s (s.raiseLow src cause cls unit) := by
  unfold State.Raised State.raiseLow
  split
  · exact deliverCore_pending _ _ _ _ _ _ _ _ h
  · exact ⟨_, List.mem_append.2 (.inr List.mem_cons_self), rfl⟩

/-- What a raise below C4 leaves. -/
theorem raise_raised (s : State) (src cause cls unit : Nat) (h : src < 256) (g : cls ≠ 4) : Raised src s (s.raise src cause cls unit) := by
  unfold State.raise
  split
  · rename_i r
    unfold State.deliver
    dsimp only
    rw [if_neg g]
    unfold State.Raised
    rw [if_pos r]
    exact deliverCore_pending _ _ _ _ _ _ _ _ h
  · exact raiseLow_raised _ _ _ _ _ h

theorem raise_reg (s : State) (src cause cls unit : Nat) (g : cls ≠ 4) {a : Nat} (h : a ≠ Reg.wrdEvent) :
    (s.raise src cause cls unit).reg a = s.reg a :=
  (raise_changes s src cause cls unit g).regs a (by simpa [Reg.raiseWords] using h)

/-- The cause bit, and every other bit of the register, after a cause below C4. -/
theorem cause_reg (s : State) (a bit src cls unit : Nat) (g : cls ≠ 4) (h : a ≠ Reg.wrdEvent) :
    (s.cause a bit src cls unit).reg a = s.reg a ||| BitVec.ofNat 32 (2 ^ bit) := by
  unfold State.cause
  rw [raise_reg _ _ _ _ _ g h, reg_orReg_same]

theorem cause_raised (s : State) (a bit src cls unit : Nat) (h : src < 256) (g : cls ≠ 4) : Raised src s (s.cause a bit src cls unit) := by
  have := raise_raised (s.orReg a (2 ^ bit)) src bit cls unit h g
  exact this

/-! ### The performance monitor -/

theorem pmu_changes (s : State) (x : Pmu) : Changes [.evt, .pmu] rs cs s { s with pmu := x } :=
  Changes.of (Only.pmu (by simp) (Only.refl _ s)) rfl rfl

theorem raiseLow_pmu (s : State) (src cause cls unit : Nat) :
    Changes [.evt, .pmu] Reg.pmuWords Reg.pmuCtrs s (s.raiseLow src cause cls unit) :=
  (raiseLow_changes s src cause cls unit).mono (by simp) (by simp [Reg.raiseWords, Reg.pmuWords]) (by simp [Reg.raiseCtrs, Reg.pmuCtrs])

theorem pmuEvent_changes (s : State) (m : Nat) : Changes [.evt, .pmu] Reg.pmuWords Reg.pmuCtrs s (s.orReg Reg.pmuEvent m) :=
  (orReg_changes s _ _).mono (by simp) (by simp [Reg.pmuWords]) (by simp)

theorem pmuAdd_changes (s : State) (c n : Nat) (h : c < 512) :
    Changes [.evt, .pmu] Reg.pmuWords Reg.pmuCtrs s (s.pmuAdd c n) := by
  unfold State.pmuAdd
  dsimp only
  have h : ∀ x ∈ [Reg.pmuWrap + 4 * (c / 32)], x ∈ Reg.pmuWords := by
    intro x hx
    simp only [List.mem_singleton] at hx
    subst hx
    unfold Reg.pmuWords
    refine List.mem_cons_of_mem _ (List.mem_cons_of_mem _ (List.mem_map.2 ⟨c / 32, ?_, rfl⟩))
    simp only [List.mem_range]
    omega
  exact .ite ((((pmu_changes s _).andThen (orReg_changes _ _ _) (by simp) h (by simp)).trans (pmuEvent_changes _ _)).trans
    (raiseLow_pmu _ _ _ _ _)) (pmu_changes s _)

theorem pmuSelected_lt (s : State) (unit inst ev c : Nat) (h : c ∈ s.pmuSelected unit inst ev) : c < 512 := by
  unfold State.pmuSelected at h
  dsimp only at h
  obtain ⟨a, ha, rfl⟩ := List.mem_map.1 h
  have hb := (List.mem_filter.1 ha).1
  rw [List.mem_eraseDups, List.mem_append] at hb
  have key : ∀ l : List (Nat × Word), a ∈ l.filterMap (fun e =>
      if Reg.pmuCntCfg ≤ e.1 ∧ e.1 < Reg.pmuCntCfg + 2048 then some e.1 else none) →
      Reg.pmuCntCfg ≤ a ∧ a < Reg.pmuCntCfg + 2048 := by
    intro l hl
    obtain ⟨e, _, he⟩ := List.mem_filterMap.1 hl
    split at he
    · rename_i hc
      cases he
      exact hc
    · cases he
  have := hb.elim (key _) (key _)
  omega

theorem pmuCount_changes (s : State) (unit inst ev n : Nat) :
    Changes [.evt, .pmu] Reg.pmuWords Reg.pmuCtrs s (s.pmuCount unit inst ev n) := by
  unfold State.pmuCount
  refine .ite (Changes.refl _ _ _ s) ?_
  have : ∀ l : List Nat, (∀ c ∈ l, c < 512) → ∀ t : State,
      Changes [.evt, .pmu] Reg.pmuWords Reg.pmuCtrs t (l.foldl (fun t c => t.pmuAdd c n) t) := by
    intro l
    induction l with
    | nil => intro _ t; exact Changes.refl _ _ _ t
    | cons x r ih =>
      intro hl t
      exact (pmuAdd_changes t x n (hl x List.mem_cons_self)).trans (ih (fun c hc => hl c (List.mem_cons_of_mem _ hc)) _)
  exact this _ (fun c hc => pmuSelected_lt s unit inst ev c hc) s

theorem ringThreshold_changes (s : State) : Changes [.evt, .pmu] Reg.pmuWords Reg.pmuCtrs s s.ringThreshold := by
  unfold State.ringThreshold
  dsimp only
  exact .ite (((pmu_changes s _).trans (pmuEvent_changes _ _)).trans (raiseLow_pmu _ _ _ _ _)) (.ite (pmu_changes s _) (Changes.refl _ _ _ s))

theorem sampleLost_changes (s : State) : Changes [.evt, .pmu] Reg.pmuWords Reg.pmuCtrs s s.sampleLost := by
  unfold State.sampleLost
  refine (((pmu_changes s _).andThen (bump_changes _ _) (by simp) (by simp) (by simp [Reg.pmuCtrs])).trans (pmuEvent_changes _ _)).trans
    (raiseLow_pmu _ _ _ _ _)

theorem ringPut_changes (s : State) (r : Bytes) : Changes [.evt, .pmu] Reg.pmuWords Reg.pmuCtrs s (s.ringPut r) := by
  unfold State.ringPut
  refine .ite (Changes.refl _ _ _ s) ?_
  dsimp only
  refine .ite (sampleLost_changes s) ?_
  have h : Changes [.evt, .pmu] Reg.pmuWords Reg.pmuCtrs s
      (if decide (s.ringCap ≤ s.ringCount) = true then s.bump (Reg.pmuCtr + 0x10) else s) :=
    .ite ((bump_changes _ _).mono (by simp) (by simp) (by simp [Reg.pmuCtrs])) (Changes.refl _ _ _ s)
  revert h
  generalize (if decide (s.ringCap ≤ s.ringCount) = true then s.bump (Reg.pmuCtr + 0x10) else s) = u
  intro h
  have g : ∀ x : Pmu, Changes [.evt, .pmu] Reg.pmuWords Reg.pmuCtrs s (({ u with pmu := x }).bump Reg.pmuCtr).ringThreshold := fun x =>
    ((h.trans (pmu_changes u x)).andThen (bump_changes _ _) (by simp) (by simp) (by simp [Reg.pmuCtrs])).trans (ringThreshold_changes _)
  exact g _

theorem sample_changes (s : State) (eng code addr : Nat) (f : Frame) (lat : Nat) :
    Changes [.evt, .pmu] Reg.pmuWords Reg.pmuCtrs s (s.sample eng code addr f lat) := by
  unfold State.sample
  dsimp only
  exact .ite (ringPut_changes _ _) (Changes.refl _ _ _ s)

/-! ### Time, roles -/

theorem setPortOut_changes (s : State) (n : Nat) (o : PortOut) : Changes [.lineOut] rs cs s (s.setPortOut true n o) :=
  Changes.of (Only.lineOut (by simp) (Only.refl _ s)) rfl rfl

theorem raisePad_changes (s : State) (n g : Nat) : Changes [.lineOut] rs cs s (s.raisePad n g) := by
  unfold State.raisePad
  dsimp only
  split
  · exact Changes.refl _ _ _ s
  · exact setPortOut_changes _ _ _

theorem trunkPut_changes (s : State) (n : Nat) (o : OutFrame) : Changes [.lineOut] rs cs s (s.trunkPut n o) := by
  unfold State.trunkPut
  exact (Changes.ite (raisePad_changes _ _ _) (Changes.refl _ _ _ s)).trans (setPortOut_changes _ _ _)

theorem controlSend_changes (s : State) (k : Nat) (f : Bool) : Changes [.lineOut, .pp] rs cs s (s.controlSend k f) := by
  have h : ∀ b : Bytes, Changes [.lineOut, .pp] rs cs s
      ([32, 33].foldl (fun (t : State) n => if t.laneSends (n + 32) then t.framerSend n b else t) s) :=
    fun b => Changes.foldl (fun t n => .ite ((trunkPut_changes _ _ _).mono (by simp) (fun _ h => h) (fun _ h => h)) (Changes.refl _ _ _ t)) _ s
  have g : ∀ (t : State) (x : Pp), Changes [.lineOut, .pp] rs cs t { t with pp := x } := fun t x =>
    Changes.of (Only.pp (by simp) (Only.refl _ _)) rfl rfl
  exact (h _).trans (g _ _)

/-- The counters a change of role may change. -/
theorem roleChange_changes (s : State) (r : Role) (cls : Nat) :
    Changes [.evt, .pp] Reg.raiseWords ((Reg.wrdCtr + 0x20) :: Reg.raiseCtrs) s (s.roleChange r cls) := by
  unfold State.roleChange
  refine .ite (Changes.refl _ _ _ s) ?_
  dsimp only
  have h : Changes [.evt, .pp] Reg.raiseWords ((Reg.wrdCtr + 0x20) :: Reg.raiseCtrs) s
      (if cls = 1 then s.bump (Reg.wrdCtr + 0x20) else s) :=
    .ite ((bump_changes _ _).mono (by simp) (by simp) (by simp)) (Changes.refl _ _ _ s)
  revert h
  generalize (if cls = 1 then s.bump (Reg.wrdCtr + 0x20) else s) = u
  intro h
  have g : Changes [.evt, .pp] Reg.raiseWords ((Reg.wrdCtr + 0x20) :: Reg.raiseCtrs) s { u with pp := { u.pp with role := r } } :=
    h.trans (Changes.of (Only.pp (by simp) (Only.refl _ _)) rfl rfl)
  exact (g.andThen (orReg_changes _ _ _) (by simp) (by simp [Reg.raiseWords]) (by simp)).andThen (raiseLow_changes _ _ _ _ _)
    (by simp) (by simp) (by simp +contextual)

theorem roleChange_role (s : State) (r : Role) (cls : Nat) : (s.roleChange r cls).pp.role = r := by
  unfold State.roleChange
  split
  · assumption
  · have : ∀ t : State, (t.raiseLow 236 7 cls).pp = t.pp := fun t =>
      (raiseLow_changes t 236 7 cls 0).parts .pp (by simp)
    rw [this]
    rfl

end Sys2Proof.Machine.State
end

