-- ==== Sys2Proof/Laws/State.lean ====
section
/-! SUPPORT. What each update of one part of the state leaves of the others: one lemma per field and update. -/

namespace Sys2Proof.Machine.State

variable (s : State)

/-! ### setReg -/

@[simp] theorem setReg_pending (a : Nat) (v : Word) : (s.setReg a v).pending = s.pending := rfl
@[simp] theorem setReg_freeIdx (a : Nat) (v : Word) : (s.setReg a v).freeIdx = s.freeIdx := rfl
@[simp] theorem setReg_now (a : Nat) (v : Word) : (s.setReg a v).now = s.now := rfl
@[simp] theorem setReg_clockOn (a : Nat) (v : Word) : (s.setReg a v).clockOn = s.clockOn := rfl
@[simp] theorem setReg_inforce (a : Nat) (v : Word) : (s.setReg a v).inforce = s.inforce := rfl
@[simp] theorem setReg_live (a : Nat) (v : Word) : (s.setReg a v).live = s.live := rfl
@[simp] theorem setReg_ctr (a : Nat) (v : Word) : (s.setReg a v).ctr = s.ctr := rfl
@[simp] theorem setReg_latch (a : Nat) (v : Word) : (s.setReg a v).latch = s.latch := rfl
@[simp] theorem setReg_bus (a : Nat) (v : Word) : (s.setReg a v).bus = s.bus := rfl
@[simp] theorem setReg_flash (a : Nat) (v : Word) : (s.setReg a v).flash = s.flash := rfl
@[simp] theorem setReg_pwr (a : Nat) (v : Word) : (s.setReg a v).pwr = s.pwr := rfl
@[simp] theorem setReg_boot (a : Nat) (v : Word) : (s.setReg a v).boot = s.boot := rfl
@[simp] theorem setReg_upd (a : Nat) (v : Word) : (s.setReg a v).upd = s.upd := rfl
@[simp] theorem setReg_run (a : Nat) (v : Word) : (s.setReg a v).run = s.run := rfl
@[simp] theorem setReg_portPolicy (a : Nat) (v : Word) : (s.setReg a v).portPolicy = s.portPolicy := rfl
@[simp] theorem setReg_channelPolicy (a : Nat) (v : Word) : (s.setReg a v).channelPolicy = s.channelPolicy := rfl
@[simp] theorem setReg_devNumber (a : Nat) (v : Word) : (s.setReg a v).devNumber = s.devNumber := rfl
@[simp] theorem setReg_lanes (a : Nat) (v : Word) : (s.setReg a v).lanes = s.lanes := rfl
@[simp] theorem setReg_hostPorts (a : Nat) (v : Word) : (s.setReg a v).hostPorts = s.hostPorts := rfl
@[simp] theorem setReg_linePorts (a : Nat) (v : Word) : (s.setReg a v).linePorts = s.linePorts := rfl
@[simp] theorem setReg_hostOut (a : Nat) (v : Word) : (s.setReg a v).hostOut = s.hostOut := rfl
@[simp] theorem setReg_lineOut (a : Nat) (v : Word) : (s.setReg a v).lineOut = s.lineOut := rfl
@[simp] theorem setReg_pairs (a : Nat) (v : Word) : (s.setReg a v).pairs = s.pairs := rfl
@[simp] theorem setReg_framers (a : Nat) (v : Word) : (s.setReg a v).framers = s.framers := rfl
@[simp] theorem setReg_deskew (a : Nat) (v : Word) : (s.setReg a v).deskew = s.deskew := rfl
@[simp] theorem setReg_circuits (a : Nat) (v : Word) : (s.setReg a v).circuits = s.circuits := rfl
@[simp] theorem setReg_poolFree (a : Nat) (v : Word) : (s.setReg a v).poolFree = s.poolFree := rfl
@[simp] theorem setReg_frames (a : Nat) (v : Word) : (s.setReg a v).frames = s.frames := rfl
@[simp] theorem setReg_nextFrame (a : Nat) (v : Word) : (s.setReg a v).nextFrame = s.nextFrame := rfl
@[simp] theorem setReg_encSeq (a : Nat) (v : Word) : (s.setReg a v).encSeq = s.encSeq := rfl
@[simp] theorem setReg_decSeq (a : Nat) (v : Word) : (s.setReg a v).decSeq = s.decSeq := rfl
@[simp] theorem setReg_cls (a : Nat) (v : Word) : (s.setReg a v).cls = s.cls := rfl
@[simp] theorem setReg_polders (a : Nat) (v : Word) : (s.setReg a v).polders = s.polders := rfl
@[simp] theorem setReg_engines (a : Nat) (v : Word) : (s.setReg a v).engines = s.engines := rfl
@[simp] theorem setReg_counts (a : Nat) (v : Word) : (s.setReg a v).counts = s.counts := rfl
@[simp] theorem setReg_pldAcc (a : Nat) (v : Word) : (s.setReg a v).pldAcc = s.pldAcc := rfl
@[simp] theorem setReg_arbMax (a : Nat) (v : Word) : (s.setReg a v).arbMax = s.arbMax := rfl
@[simp] theorem setReg_lkp (a : Nat) (v : Word) : (s.setReg a v).lkp = s.lkp := rfl
@[simp] theorem setReg_chn (a : Nat) (v : Word) : (s.setReg a v).chn = s.chn := rfl
@[simp] theorem setReg_cph (a : Nat) (v : Word) : (s.setReg a v).cph = s.cph := rfl
@[simp] theorem setReg_key (a : Nat) (v : Word) : (s.setReg a v).key = s.key := rfl
@[simp] theorem setReg_lev (a : Nat) (v : Word) : (s.setReg a v).lev = s.lev := rfl
@[simp] theorem setReg_tim (a : Nat) (v : Word) : (s.setReg a v).tim = s.tim := rfl
@[simp] theorem setReg_hbm (a : Nat) (v : Word) : (s.setReg a v).hbm = s.hbm := rfl
@[simp] theorem setReg_evt (a : Nat) (v : Word) : (s.setReg a v).evt = s.evt := rfl
@[simp] theorem setReg_wrd (a : Nat) (v : Word) : (s.setReg a v).wrd = s.wrd := rfl
@[simp] theorem setReg_pp (a : Nat) (v : Word) : (s.setReg a v).pp = s.pp := rfl
@[simp] theorem setReg_pmu (a : Nat) (v : Word) : (s.setReg a v).pmu = s.pmu := rfl
@[simp] theorem setReg_pcie (a : Nat) (v : Word) : (s.setReg a v).pcie = s.pcie := rfl
@[simp] theorem setReg_mbxPcie (a : Nat) (v : Word) : (s.setReg a v).mbxPcie = s.mbxPcie := rfl
@[simp] theorem setReg_mbxI2c (a : Nat) (v : Word) : (s.setReg a v).mbxI2c = s.mbxI2c := rfl
@[simp] theorem setReg_stw (a : Nat) (v : Word) : (s.setReg a v).stw = s.stw := rfl
@[simp] theorem setReg_dbg (a : Nat) (v : Word) : (s.setReg a v).dbg = s.dbg := rfl

/-! ### add -/

@[simp] theorem add_pending (a n : Nat) : (s.add a n).pending = s.pending := rfl
@[simp] theorem add_freeIdx (a n : Nat) : (s.add a n).freeIdx = s.freeIdx := rfl
@[simp] theorem add_now (a n : Nat) : (s.add a n).now = s.now := rfl
@[simp] theorem add_clockOn (a n : Nat) : (s.add a n).clockOn = s.clockOn := rfl
@[simp] theorem add_regs (a n : Nat) : (s.add a n).regs = s.regs := rfl
@[simp] theorem add_inforce (a n : Nat) : (s.add a n).inforce = s.inforce := rfl
@[simp] theorem add_live (a n : Nat) : (s.add a n).live = s.live := rfl
@[simp] theorem add_latch (a n : Nat) : (s.add a n).latch = s.latch := rfl
@[simp] theorem add_bus (a n : Nat) : (s.add a n).bus = s.bus := rfl
@[simp] theorem add_flash (a n : Nat) : (s.add a n).flash = s.flash := rfl
@[simp] theorem add_pwr (a n : Nat) : (s.add a n).pwr = s.pwr := rfl
@[simp] theorem add_boot (a n : Nat) : (s.add a n).boot = s.boot := rfl
@[simp] theorem add_upd (a n : Nat) : (s.add a n).upd = s.upd := rfl
@[simp] theorem add_run (a n : Nat) : (s.add a n).run = s.run := rfl
@[simp] theorem add_portPolicy (a n : Nat) : (s.add a n).portPolicy = s.portPolicy := rfl
@[simp] theorem add_channelPolicy (a n : Nat) : (s.add a n).channelPolicy = s.channelPolicy := rfl
@[simp] theorem add_devNumber (a n : Nat) : (s.add a n).devNumber = s.devNumber := rfl
@[simp] theorem add_lanes (a n : Nat) : (s.add a n).lanes = s.lanes := rfl
@[simp] theorem add_hostPorts (a n : Nat) : (s.add a n).hostPorts = s.hostPorts := rfl
@[simp] theorem add_linePorts (a n : Nat) : (s.add a n).linePorts = s.linePorts := rfl
@[simp] theorem add_hostOut (a n : Nat) : (s.add a n).hostOut = s.hostOut := rfl
@[simp] theorem add_lineOut (a n : Nat) : (s.add a n).lineOut = s.lineOut := rfl
@[simp] theorem add_pairs (a n : Nat) : (s.add a n).pairs = s.pairs := rfl
@[simp] theorem add_framers (a n : Nat) : (s.add a n).framers = s.framers := rfl
@[simp] theorem add_deskew (a n : Nat) : (s.add a n).deskew = s.deskew := rfl
@[simp] theorem add_circuits (a n : Nat) : (s.add a n).circuits = s.circuits := rfl
@[simp] theorem add_poolFree (a n : Nat) : (s.add a n).poolFree = s.poolFree := rfl
@[simp] theorem add_frames (a n : Nat) : (s.add a n).frames = s.frames := rfl
@[simp] theorem add_nextFrame (a n : Nat) : (s.add a n).nextFrame = s.nextFrame := rfl
@[simp] theorem add_encSeq (a n : Nat) : (s.add a n).encSeq = s.encSeq := rfl
@[simp] theorem add_decSeq (a n : Nat) : (s.add a n).decSeq = s.decSeq := rfl
@[simp] theorem add_cls (a n : Nat) : (s.add a n).cls = s.cls := rfl
@[simp] theorem add_polders (a n : Nat) : (s.add a n).polders = s.polders := rfl
@[simp] theorem add_engines (a n : Nat) : (s.add a n).engines = s.engines := rfl
@[simp] theorem add_counts (a n : Nat) : (s.add a n).counts = s.counts := rfl
@[simp] theorem add_pldAcc (a n : Nat) : (s.add a n).pldAcc = s.pldAcc := rfl
@[simp] theorem add_arbMax (a n : Nat) : (s.add a n).arbMax = s.arbMax := rfl
@[simp] theorem add_lkp (a n : Nat) : (s.add a n).lkp = s.lkp := rfl
@[simp] theorem add_chn (a n : Nat) : (s.add a n).chn = s.chn := rfl
@[simp] theorem add_cph (a n : Nat) : (s.add a n).cph = s.cph := rfl
@[simp] theorem add_key (a n : Nat) : (s.add a n).key = s.key := rfl
@[simp] theorem add_lev (a n : Nat) : (s.add a n).lev = s.lev := rfl
@[simp] theorem add_tim (a n : Nat) : (s.add a n).tim = s.tim := rfl
@[simp] theorem add_hbm (a n : Nat) : (s.add a n).hbm = s.hbm := rfl
@[simp] theorem add_evt (a n : Nat) : (s.add a n).evt = s.evt := rfl
@[simp] theorem add_wrd (a n : Nat) : (s.add a n).wrd = s.wrd := rfl
@[simp] theorem add_pp (a n : Nat) : (s.add a n).pp = s.pp := rfl
@[simp] theorem add_pmu (a n : Nat) : (s.add a n).pmu = s.pmu := rfl
@[simp] theorem add_pcie (a n : Nat) : (s.add a n).pcie = s.pcie := rfl
@[simp] theorem add_mbxPcie (a n : Nat) : (s.add a n).mbxPcie = s.mbxPcie := rfl
@[simp] theorem add_mbxI2c (a n : Nat) : (s.add a n).mbxI2c = s.mbxI2c := rfl
@[simp] theorem add_stw (a n : Nat) : (s.add a n).stw = s.stw := rfl
@[simp] theorem add_dbg (a n : Nat) : (s.add a n).dbg = s.dbg := rfl

/-! ### bump -/

@[simp] theorem bump_pending (a : Nat) : (s.bump a).pending = s.pending := rfl
@[simp] theorem bump_freeIdx (a : Nat) : (s.bump a).freeIdx = s.freeIdx := rfl
@[simp] theorem bump_now (a : Nat) : (s.bump a).now = s.now := rfl
@[simp] theorem bump_clockOn (a : Nat) : (s.bump a).clockOn = s.clockOn := rfl
@[simp] theorem bump_regs (a : Nat) : (s.bump a).regs = s.regs := rfl
@[simp] theorem bump_inforce (a : Nat) : (s.bump a).inforce = s.inforce := rfl
@[simp] theorem bump_live (a : Nat) : (s.bump a).live = s.live := rfl
@[simp] theorem bump_latch (a : Nat) : (s.bump a).latch = s.latch := rfl
@[simp] theorem bump_bus (a : Nat) : (s.bump a).bus = s.bus := rfl
@[simp] theorem bump_flash (a : Nat) : (s.bump a).flash = s.flash := rfl
@[simp] theorem bump_pwr (a : Nat) : (s.bump a).pwr = s.pwr := rfl
@[simp] theorem bump_boot (a : Nat) : (s.bump a).boot = s.boot := rfl
@[simp] theorem bump_upd (a : Nat) : (s.bump a).upd = s.upd := rfl
@[simp] theorem bump_run (a : Nat) : (s.bump a).run = s.run := rfl
@[simp] theorem bump_portPolicy (a : Nat) : (s.bump a).portPolicy = s.portPolicy := rfl
@[simp] theorem bump_channelPolicy (a : Nat) : (s.bump a).channelPolicy = s.channelPolicy := rfl
@[simp] theorem bump_devNumber (a : Nat) : (s.bump a).devNumber = s.devNumber := rfl
@[simp] theorem bump_lanes (a : Nat) : (s.bump a).lanes = s.lanes := rfl
@[simp] theorem bump_hostPorts (a : Nat) : (s.bump a).hostPorts = s.hostPorts := rfl
@[simp] theorem bump_linePorts (a : Nat) : (s.bump a).linePorts = s.linePorts := rfl
@[simp] theorem bump_hostOut (a : Nat) : (s.bump a).hostOut = s.hostOut := rfl
@[simp] theorem bump_lineOut (a : Nat) : (s.bump a).lineOut = s.lineOut := rfl
@[simp] theorem bump_pairs (a : Nat) : (s.bump a).pairs = s.pairs := rfl
@[simp] theorem bump_framers (a : Nat) : (s.bump a).framers = s.framers := rfl
@[simp] theorem bump_deskew (a : Nat) : (s.bump a).deskew = s.deskew := rfl
@[simp] theorem bump_circuits (a : Nat) : (s.bump a).circuits = s.circuits := rfl
@[simp] theorem bump_poolFree (a : Nat) : (s.bump a).poolFree = s.poolFree := rfl
@[simp] theorem bump_frames (a : Nat) : (s.bump a).frames = s.frames := rfl
@[simp] theorem bump_nextFrame (a : Nat) : (s.bump a).nextFrame = s.nextFrame := rfl
@[simp] theorem bump_encSeq (a : Nat) : (s.bump a).encSeq = s.encSeq := rfl
@[simp] theorem bump_decSeq (a : Nat) : (s.bump a).decSeq = s.decSeq := rfl
@[simp] theorem bump_cls (a : Nat) : (s.bump a).cls = s.cls := rfl
@[simp] theorem bump_polders (a : Nat) : (s.bump a).polders = s.polders := rfl
@[simp] theorem bump_engines (a : Nat) : (s.bump a).engines = s.engines := rfl
@[simp] theorem bump_counts (a : Nat) : (s.bump a).counts = s.counts := rfl
@[simp] theorem bump_pldAcc (a : Nat) : (s.bump a).pldAcc = s.pldAcc := rfl
@[simp] theorem bump_arbMax (a : Nat) : (s.bump a).arbMax = s.arbMax := rfl
@[simp] theorem bump_lkp (a : Nat) : (s.bump a).lkp = s.lkp := rfl
@[simp] theorem bump_chn (a : Nat) : (s.bump a).chn = s.chn := rfl
@[simp] theorem bump_cph (a : Nat) : (s.bump a).cph = s.cph := rfl
@[simp] theorem bump_key (a : Nat) : (s.bump a).key = s.key := rfl
@[simp] theorem bump_lev (a : Nat) : (s.bump a).lev = s.lev := rfl
@[simp] theorem bump_tim (a : Nat) : (s.bump a).tim = s.tim := rfl
@[simp] theorem bump_hbm (a : Nat) : (s.bump a).hbm = s.hbm := rfl
@[simp] theorem bump_evt (a : Nat) : (s.bump a).evt = s.evt := rfl
@[simp] theorem bump_wrd (a : Nat) : (s.bump a).wrd = s.wrd := rfl
@[simp] theorem bump_pp (a : Nat) : (s.bump a).pp = s.pp := rfl
@[simp] theorem bump_pmu (a : Nat) : (s.bump a).pmu = s.pmu := rfl
@[simp] theorem bump_pcie (a : Nat) : (s.bump a).pcie = s.pcie := rfl
@[simp] theorem bump_mbxPcie (a : Nat) : (s.bump a).mbxPcie = s.mbxPcie := rfl
@[simp] theorem bump_mbxI2c (a : Nat) : (s.bump a).mbxI2c = s.mbxI2c := rfl
@[simp] theorem bump_stw (a : Nat) : (s.bump a).stw = s.stw := rfl
@[simp] theorem bump_dbg (a : Nat) : (s.bump a).dbg = s.dbg := rfl

/-! ### setLane -/

@[simp] theorem setLane_pending (l : Nat) (v : Lane) : (s.setLane l v).pending = s.pending := rfl
@[simp] theorem setLane_freeIdx (l : Nat) (v : Lane) : (s.setLane l v).freeIdx = s.freeIdx := rfl
@[simp] theorem setLane_now (l : Nat) (v : Lane) : (s.setLane l v).now = s.now := rfl
@[simp] theorem setLane_clockOn (l : Nat) (v : Lane) : (s.setLane l v).clockOn = s.clockOn := rfl
@[simp] theorem setLane_regs (l : Nat) (v : Lane) : (s.setLane l v).regs = s.regs := rfl
@[simp] theorem setLane_inforce (l : Nat) (v : Lane) : (s.setLane l v).inforce = s.inforce := rfl
@[simp] theorem setLane_live (l : Nat) (v : Lane) : (s.setLane l v).live = s.live := rfl
@[simp] theorem setLane_ctr (l : Nat) (v : Lane) : (s.setLane l v).ctr = s.ctr := rfl
@[simp] theorem setLane_latch (l : Nat) (v : Lane) : (s.setLane l v).latch = s.latch := rfl
@[simp] theorem setLane_bus (l : Nat) (v : Lane) : (s.setLane l v).bus = s.bus := rfl
@[simp] theorem setLane_flash (l : Nat) (v : Lane) : (s.setLane l v).flash = s.flash := rfl
@[simp] theorem setLane_pwr (l : Nat) (v : Lane) : (s.setLane l v).pwr = s.pwr := rfl
@[simp] theorem setLane_boot (l : Nat) (v : Lane) : (s.setLane l v).boot = s.boot := rfl
@[simp] theorem setLane_upd (l : Nat) (v : Lane) : (s.setLane l v).upd = s.upd := rfl
@[simp] theorem setLane_run (l : Nat) (v : Lane) : (s.setLane l v).run = s.run := rfl
@[simp] theorem setLane_portPolicy (l : Nat) (v : Lane) : (s.setLane l v).portPolicy = s.portPolicy := rfl
@[simp] theorem setLane_channelPolicy (l : Nat) (v : Lane) : (s.setLane l v).channelPolicy = s.channelPolicy := rfl
@[simp] theorem setLane_devNumber (l : Nat) (v : Lane) : (s.setLane l v).devNumber = s.devNumber := rfl
@[simp] theorem setLane_hostPorts (l : Nat) (v : Lane) : (s.setLane l v).hostPorts = s.hostPorts := rfl
@[simp] theorem setLane_linePorts (l : Nat) (v : Lane) : (s.setLane l v).linePorts = s.linePorts := rfl
@[simp] theorem setLane_hostOut (l : Nat) (v : Lane) : (s.setLane l v).hostOut = s.hostOut := rfl
@[simp] theorem setLane_lineOut (l : Nat) (v : Lane) : (s.setLane l v).lineOut = s.lineOut := rfl
@[simp] theorem setLane_pairs (l : Nat) (v : Lane) : (s.setLane l v).pairs = s.pairs := rfl
@[simp] theorem setLane_framers (l : Nat) (v : Lane) : (s.setLane l v).framers = s.framers := rfl
@[simp] theorem setLane_deskew (l : Nat) (v : Lane) : (s.setLane l v).deskew = s.deskew := rfl
@[simp] theorem setLane_circuits (l : Nat) (v : Lane) : (s.setLane l v).circuits = s.circuits := rfl
@[simp] theorem setLane_poolFree (l : Nat) (v : Lane) : (s.setLane l v).poolFree = s.poolFree := rfl
@[simp] theorem setLane_frames (l : Nat) (v : Lane) : (s.setLane l v).frames = s.frames := rfl
@[simp] theorem setLane_nextFrame (l : Nat) (v : Lane) : (s.setLane l v).nextFrame = s.nextFrame := rfl
@[simp] theorem setLane_encSeq (l : Nat) (v : Lane) : (s.setLane l v).encSeq = s.encSeq := rfl
@[simp] theorem setLane_decSeq (l : Nat) (v : Lane) : (s.setLane l v).decSeq = s.decSeq := rfl
@[simp] theorem setLane_cls (l : Nat) (v : Lane) : (s.setLane l v).cls = s.cls := rfl
@[simp] theorem setLane_polders (l : Nat) (v : Lane) : (s.setLane l v).polders = s.polders := rfl
@[simp] theorem setLane_engines (l : Nat) (v : Lane) : (s.setLane l v).engines = s.engines := rfl
@[simp] theorem setLane_counts (l : Nat) (v : Lane) : (s.setLane l v).counts = s.counts := rfl
@[simp] theorem setLane_pldAcc (l : Nat) (v : Lane) : (s.setLane l v).pldAcc = s.pldAcc := rfl
@[simp] theorem setLane_arbMax (l : Nat) (v : Lane) : (s.setLane l v).arbMax = s.arbMax := rfl
@[simp] theorem setLane_lkp (l : Nat) (v : Lane) : (s.setLane l v).lkp = s.lkp := rfl
@[simp] theorem setLane_chn (l : Nat) (v : Lane) : (s.setLane l v).chn = s.chn := rfl
@[simp] theorem setLane_cph (l : Nat) (v : Lane) : (s.setLane l v).cph = s.cph := rfl
@[simp] theorem setLane_key (l : Nat) (v : Lane) : (s.setLane l v).key = s.key := rfl
@[simp] theorem setLane_lev (l : Nat) (v : Lane) : (s.setLane l v).lev = s.lev := rfl
@[simp] theorem setLane_tim (l : Nat) (v : Lane) : (s.setLane l v).tim = s.tim := rfl
@[simp] theorem setLane_hbm (l : Nat) (v : Lane) : (s.setLane l v).hbm = s.hbm := rfl
@[simp] theorem setLane_evt (l : Nat) (v : Lane) : (s.setLane l v).evt = s.evt := rfl
@[simp] theorem setLane_wrd (l : Nat) (v : Lane) : (s.setLane l v).wrd = s.wrd := rfl
@[simp] theorem setLane_pp (l : Nat) (v : Lane) : (s.setLane l v).pp = s.pp := rfl
@[simp] theorem setLane_pmu (l : Nat) (v : Lane) : (s.setLane l v).pmu = s.pmu := rfl
@[simp] theorem setLane_pcie (l : Nat) (v : Lane) : (s.setLane l v).pcie = s.pcie := rfl
@[simp] theorem setLane_mbxPcie (l : Nat) (v : Lane) : (s.setLane l v).mbxPcie = s.mbxPcie := rfl
@[simp] theorem setLane_mbxI2c (l : Nat) (v : Lane) : (s.setLane l v).mbxI2c = s.mbxI2c := rfl
@[simp] theorem setLane_stw (l : Nat) (v : Lane) : (s.setLane l v).stw = s.stw := rfl
@[simp] theorem setLane_dbg (l : Nat) (v : Lane) : (s.setLane l v).dbg = s.dbg := rfl

/-! ### setPair -/

@[simp] theorem setPair_pending (n : Nat) (v : Pair) : (s.setPair n v).pending = s.pending := rfl
@[simp] theorem setPair_freeIdx (n : Nat) (v : Pair) : (s.setPair n v).freeIdx = s.freeIdx := rfl
@[simp] theorem setPair_now (n : Nat) (v : Pair) : (s.setPair n v).now = s.now := rfl
@[simp] theorem setPair_clockOn (n : Nat) (v : Pair) : (s.setPair n v).clockOn = s.clockOn := rfl
@[simp] theorem setPair_regs (n : Nat) (v : Pair) : (s.setPair n v).regs = s.regs := rfl
@[simp] theorem setPair_inforce (n : Nat) (v : Pair) : (s.setPair n v).inforce = s.inforce := rfl
@[simp] theorem setPair_live (n : Nat) (v : Pair) : (s.setPair n v).live = s.live := rfl
@[simp] theorem setPair_ctr (n : Nat) (v : Pair) : (s.setPair n v).ctr = s.ctr := rfl
@[simp] theorem setPair_latch (n : Nat) (v : Pair) : (s.setPair n v).latch = s.latch := rfl
@[simp] theorem setPair_bus (n : Nat) (v : Pair) : (s.setPair n v).bus = s.bus := rfl
@[simp] theorem setPair_flash (n : Nat) (v : Pair) : (s.setPair n v).flash = s.flash := rfl
@[simp] theorem setPair_pwr (n : Nat) (v : Pair) : (s.setPair n v).pwr = s.pwr := rfl
@[simp] theorem setPair_boot (n : Nat) (v : Pair) : (s.setPair n v).boot = s.boot := rfl
@[simp] theorem setPair_upd (n : Nat) (v : Pair) : (s.setPair n v).upd = s.upd := rfl
@[simp] theorem setPair_run (n : Nat) (v : Pair) : (s.setPair n v).run = s.run := rfl
@[simp] theorem setPair_portPolicy (n : Nat) (v : Pair) : (s.setPair n v).portPolicy = s.portPolicy := rfl
@[simp] theorem setPair_channelPolicy (n : Nat) (v : Pair) : (s.setPair n v).channelPolicy = s.channelPolicy := rfl
@[simp] theorem setPair_devNumber (n : Nat) (v : Pair) : (s.setPair n v).devNumber = s.devNumber := rfl
@[simp] theorem setPair_lanes (n : Nat) (v : Pair) : (s.setPair n v).lanes = s.lanes := rfl
@[simp] theorem setPair_hostPorts (n : Nat) (v : Pair) : (s.setPair n v).hostPorts = s.hostPorts := rfl
@[simp] theorem setPair_linePorts (n : Nat) (v : Pair) : (s.setPair n v).linePorts = s.linePorts := rfl
@[simp] theorem setPair_hostOut (n : Nat) (v : Pair) : (s.setPair n v).hostOut = s.hostOut := rfl
@[simp] theorem setPair_lineOut (n : Nat) (v : Pair) : (s.setPair n v).lineOut = s.lineOut := rfl
@[simp] theorem setPair_framers (n : Nat) (v : Pair) : (s.setPair n v).framers = s.framers := rfl
@[simp] theorem setPair_deskew (n : Nat) (v : Pair) : (s.setPair n v).deskew = s.deskew := rfl
@[simp] theorem setPair_circuits (n : Nat) (v : Pair) : (s.setPair n v).circuits = s.circuits := rfl
@[simp] theorem setPair_poolFree (n : Nat) (v : Pair) : (s.setPair n v).poolFree = s.poolFree := rfl
@[simp] theorem setPair_frames (n : Nat) (v : Pair) : (s.setPair n v).frames = s.frames := rfl
@[simp] theorem setPair_nextFrame (n : Nat) (v : Pair) : (s.setPair n v).nextFrame = s.nextFrame := rfl
@[simp] theorem setPair_encSeq (n : Nat) (v : Pair) : (s.setPair n v).encSeq = s.encSeq := rfl
@[simp] theorem setPair_decSeq (n : Nat) (v : Pair) : (s.setPair n v).decSeq = s.decSeq := rfl
@[simp] theorem setPair_cls (n : Nat) (v : Pair) : (s.setPair n v).cls = s.cls := rfl
@[simp] theorem setPair_polders (n : Nat) (v : Pair) : (s.setPair n v).polders = s.polders := rfl
@[simp] theorem setPair_engines (n : Nat) (v : Pair) : (s.setPair n v).engines = s.engines := rfl
@[simp] theorem setPair_counts (n : Nat) (v : Pair) : (s.setPair n v).counts = s.counts := rfl
@[simp] theorem setPair_pldAcc (n : Nat) (v : Pair) : (s.setPair n v).pldAcc = s.pldAcc := rfl
@[simp] theorem setPair_arbMax (n : Nat) (v : Pair) : (s.setPair n v).arbMax = s.arbMax := rfl
@[simp] theorem setPair_lkp (n : Nat) (v : Pair) : (s.setPair n v).lkp = s.lkp := rfl
@[simp] theorem setPair_chn (n : Nat) (v : Pair) : (s.setPair n v).chn = s.chn := rfl
@[simp] theorem setPair_cph (n : Nat) (v : Pair) : (s.setPair n v).cph = s.cph := rfl
@[simp] theorem setPair_key (n : Nat) (v : Pair) : (s.setPair n v).key = s.key := rfl
@[simp] theorem setPair_lev (n : Nat) (v : Pair) : (s.setPair n v).lev = s.lev := rfl
@[simp] theorem setPair_tim (n : Nat) (v : Pair) : (s.setPair n v).tim = s.tim := rfl
@[simp] theorem setPair_hbm (n : Nat) (v : Pair) : (s.setPair n v).hbm = s.hbm := rfl
@[simp] theorem setPair_evt (n : Nat) (v : Pair) : (s.setPair n v).evt = s.evt := rfl
@[simp] theorem setPair_wrd (n : Nat) (v : Pair) : (s.setPair n v).wrd = s.wrd := rfl
@[simp] theorem setPair_pp (n : Nat) (v : Pair) : (s.setPair n v).pp = s.pp := rfl
@[simp] theorem setPair_pmu (n : Nat) (v : Pair) : (s.setPair n v).pmu = s.pmu := rfl
@[simp] theorem setPair_pcie (n : Nat) (v : Pair) : (s.setPair n v).pcie = s.pcie := rfl
@[simp] theorem setPair_mbxPcie (n : Nat) (v : Pair) : (s.setPair n v).mbxPcie = s.mbxPcie := rfl
@[simp] theorem setPair_mbxI2c (n : Nat) (v : Pair) : (s.setPair n v).mbxI2c = s.mbxI2c := rfl
@[simp] theorem setPair_stw (n : Nat) (v : Pair) : (s.setPair n v).stw = s.stw := rfl
@[simp] theorem setPair_dbg (n : Nat) (v : Pair) : (s.setPair n v).dbg = s.dbg := rfl

/-! ### setFramer -/

@[simp] theorem setFramer_pending (n : Nat) (v : Framer) : (s.setFramer n v).pending = s.pending := rfl
@[simp] theorem setFramer_freeIdx (n : Nat) (v : Framer) : (s.setFramer n v).freeIdx = s.freeIdx := rfl
@[simp] theorem setFramer_now (n : Nat) (v : Framer) : (s.setFramer n v).now = s.now := rfl
@[simp] theorem setFramer_clockOn (n : Nat) (v : Framer) : (s.setFramer n v).clockOn = s.clockOn := rfl
@[simp] theorem setFramer_regs (n : Nat) (v : Framer) : (s.setFramer n v).regs = s.regs := rfl
@[simp] theorem setFramer_inforce (n : Nat) (v : Framer) : (s.setFramer n v).inforce = s.inforce := rfl
@[simp] theorem setFramer_live (n : Nat) (v : Framer) : (s.setFramer n v).live = s.live := rfl
@[simp] theorem setFramer_ctr (n : Nat) (v : Framer) : (s.setFramer n v).ctr = s.ctr := rfl
@[simp] theorem setFramer_latch (n : Nat) (v : Framer) : (s.setFramer n v).latch = s.latch := rfl
@[simp] theorem setFramer_bus (n : Nat) (v : Framer) : (s.setFramer n v).bus = s.bus := rfl
@[simp] theorem setFramer_flash (n : Nat) (v : Framer) : (s.setFramer n v).flash = s.flash := rfl
@[simp] theorem setFramer_pwr (n : Nat) (v : Framer) : (s.setFramer n v).pwr = s.pwr := rfl
@[simp] theorem setFramer_boot (n : Nat) (v : Framer) : (s.setFramer n v).boot = s.boot := rfl
@[simp] theorem setFramer_upd (n : Nat) (v : Framer) : (s.setFramer n v).upd = s.upd := rfl
@[simp] theorem setFramer_run (n : Nat) (v : Framer) : (s.setFramer n v).run = s.run := rfl
@[simp] theorem setFramer_portPolicy (n : Nat) (v : Framer) : (s.setFramer n v).portPolicy = s.portPolicy := rfl
@[simp] theorem setFramer_channelPolicy (n : Nat) (v : Framer) : (s.setFramer n v).channelPolicy = s.channelPolicy := rfl
@[simp] theorem setFramer_devNumber (n : Nat) (v : Framer) : (s.setFramer n v).devNumber = s.devNumber := rfl
@[simp] theorem setFramer_lanes (n : Nat) (v : Framer) : (s.setFramer n v).lanes = s.lanes := rfl
@[simp] theorem setFramer_hostPorts (n : Nat) (v : Framer) : (s.setFramer n v).hostPorts = s.hostPorts := rfl
@[simp] theorem setFramer_linePorts (n : Nat) (v : Framer) : (s.setFramer n v).linePorts = s.linePorts := rfl
@[simp] theorem setFramer_hostOut (n : Nat) (v : Framer) : (s.setFramer n v).hostOut = s.hostOut := rfl
@[simp] theorem setFramer_lineOut (n : Nat) (v : Framer) : (s.setFramer n v).lineOut = s.lineOut := rfl
@[simp] theorem setFramer_pairs (n : Nat) (v : Framer) : (s.setFramer n v).pairs = s.pairs := rfl
@[simp] theorem setFramer_deskew (n : Nat) (v : Framer) : (s.setFramer n v).deskew = s.deskew := rfl
@[simp] theorem setFramer_circuits (n : Nat) (v : Framer) : (s.setFramer n v).circuits = s.circuits := rfl
@[simp] theorem setFramer_poolFree (n : Nat) (v : Framer) : (s.setFramer n v).poolFree = s.poolFree := rfl
@[simp] theorem setFramer_frames (n : Nat) (v : Framer) : (s.setFramer n v).frames = s.frames := rfl
@[simp] theorem setFramer_nextFrame (n : Nat) (v : Framer) : (s.setFramer n v).nextFrame = s.nextFrame := rfl
@[simp] theorem setFramer_encSeq (n : Nat) (v : Framer) : (s.setFramer n v).encSeq = s.encSeq := rfl
@[simp] theorem setFramer_decSeq (n : Nat) (v : Framer) : (s.setFramer n v).decSeq = s.decSeq := rfl
@[simp] theorem setFramer_cls (n : Nat) (v : Framer) : (s.setFramer n v).cls = s.cls := rfl
@[simp] theorem setFramer_polders (n : Nat) (v : Framer) : (s.setFramer n v).polders = s.polders := rfl
@[simp] theorem setFramer_engines (n : Nat) (v : Framer) : (s.setFramer n v).engines = s.engines := rfl
@[simp] theorem setFramer_counts (n : Nat) (v : Framer) : (s.setFramer n v).counts = s.counts := rfl
@[simp] theorem setFramer_pldAcc (n : Nat) (v : Framer) : (s.setFramer n v).pldAcc = s.pldAcc := rfl
@[simp] theorem setFramer_arbMax (n : Nat) (v : Framer) : (s.setFramer n v).arbMax = s.arbMax := rfl
@[simp] theorem setFramer_lkp (n : Nat) (v : Framer) : (s.setFramer n v).lkp = s.lkp := rfl
@[simp] theorem setFramer_chn (n : Nat) (v : Framer) : (s.setFramer n v).chn = s.chn := rfl
@[simp] theorem setFramer_cph (n : Nat) (v : Framer) : (s.setFramer n v).cph = s.cph := rfl
@[simp] theorem setFramer_key (n : Nat) (v : Framer) : (s.setFramer n v).key = s.key := rfl
@[simp] theorem setFramer_lev (n : Nat) (v : Framer) : (s.setFramer n v).lev = s.lev := rfl
@[simp] theorem setFramer_tim (n : Nat) (v : Framer) : (s.setFramer n v).tim = s.tim := rfl
@[simp] theorem setFramer_hbm (n : Nat) (v : Framer) : (s.setFramer n v).hbm = s.hbm := rfl
@[simp] theorem setFramer_evt (n : Nat) (v : Framer) : (s.setFramer n v).evt = s.evt := rfl
@[simp] theorem setFramer_wrd (n : Nat) (v : Framer) : (s.setFramer n v).wrd = s.wrd := rfl
@[simp] theorem setFramer_pp (n : Nat) (v : Framer) : (s.setFramer n v).pp = s.pp := rfl
@[simp] theorem setFramer_pmu (n : Nat) (v : Framer) : (s.setFramer n v).pmu = s.pmu := rfl
@[simp] theorem setFramer_pcie (n : Nat) (v : Framer) : (s.setFramer n v).pcie = s.pcie := rfl
@[simp] theorem setFramer_mbxPcie (n : Nat) (v : Framer) : (s.setFramer n v).mbxPcie = s.mbxPcie := rfl
@[simp] theorem setFramer_mbxI2c (n : Nat) (v : Framer) : (s.setFramer n v).mbxI2c = s.mbxI2c := rfl
@[simp] theorem setFramer_stw (n : Nat) (v : Framer) : (s.setFramer n v).stw = s.stw := rfl
@[simp] theorem setFramer_dbg (n : Nat) (v : Framer) : (s.setFramer n v).dbg = s.dbg := rfl

/-! ### setCircuit -/

@[simp] theorem setCircuit_pending (n : Nat) (v : Circuit) : (s.setCircuit n v).pending = s.pending := rfl
@[simp] theorem setCircuit_freeIdx (n : Nat) (v : Circuit) : (s.setCircuit n v).freeIdx = s.freeIdx := rfl
@[simp] theorem setCircuit_now (n : Nat) (v : Circuit) : (s.setCircuit n v).now = s.now := rfl
@[simp] theorem setCircuit_clockOn (n : Nat) (v : Circuit) : (s.setCircuit n v).clockOn = s.clockOn := rfl
@[simp] theorem setCircuit_regs (n : Nat) (v : Circuit) : (s.setCircuit n v).regs = s.regs := rfl
@[simp] theorem setCircuit_inforce (n : Nat) (v : Circuit) : (s.setCircuit n v).inforce = s.inforce := rfl
@[simp] theorem setCircuit_live (n : Nat) (v : Circuit) : (s.setCircuit n v).live = s.live := rfl
@[simp] theorem setCircuit_ctr (n : Nat) (v : Circuit) : (s.setCircuit n v).ctr = s.ctr := rfl
@[simp] theorem setCircuit_latch (n : Nat) (v : Circuit) : (s.setCircuit n v).latch = s.latch := rfl
@[simp] theorem setCircuit_bus (n : Nat) (v : Circuit) : (s.setCircuit n v).bus = s.bus := rfl
@[simp] theorem setCircuit_flash (n : Nat) (v : Circuit) : (s.setCircuit n v).flash = s.flash := rfl
@[simp] theorem setCircuit_pwr (n : Nat) (v : Circuit) : (s.setCircuit n v).pwr = s.pwr := rfl
@[simp] theorem setCircuit_boot (n : Nat) (v : Circuit) : (s.setCircuit n v).boot = s.boot := rfl
@[simp] theorem setCircuit_upd (n : Nat) (v : Circuit) : (s.setCircuit n v).upd = s.upd := rfl
@[simp] theorem setCircuit_run (n : Nat) (v : Circuit) : (s.setCircuit n v).run = s.run := rfl
@[simp] theorem setCircuit_portPolicy (n : Nat) (v : Circuit) : (s.setCircuit n v).portPolicy = s.portPolicy := rfl
@[simp] theorem setCircuit_channelPolicy (n : Nat) (v : Circuit) : (s.setCircuit n v).channelPolicy = s.channelPolicy := rfl
@[simp] theorem setCircuit_devNumber (n : Nat) (v : Circuit) : (s.setCircuit n v).devNumber = s.devNumber := rfl
@[simp] theorem setCircuit_lanes (n : Nat) (v : Circuit) : (s.setCircuit n v).lanes = s.lanes := rfl
@[simp] theorem setCircuit_hostPorts (n : Nat) (v : Circuit) : (s.setCircuit n v).hostPorts = s.hostPorts := rfl
@[simp] theorem setCircuit_linePorts (n : Nat) (v : Circuit) : (s.setCircuit n v).linePorts = s.linePorts := rfl
@[simp] theorem setCircuit_hostOut (n : Nat) (v : Circuit) : (s.setCircuit n v).hostOut = s.hostOut := rfl
@[simp] theorem setCircuit_lineOut (n : Nat) (v : Circuit) : (s.setCircuit n v).lineOut = s.lineOut := rfl
@[simp] theorem setCircuit_pairs (n : Nat) (v : Circuit) : (s.setCircuit n v).pairs = s.pairs := rfl
@[simp] theorem setCircuit_framers (n : Nat) (v : Circuit) : (s.setCircuit n v).framers = s.framers := rfl
@[simp] theorem setCircuit_deskew (n : Nat) (v : Circuit) : (s.setCircuit n v).deskew = s.deskew := rfl
@[simp] theorem setCircuit_poolFree (n : Nat) (v : Circuit) : (s.setCircuit n v).poolFree = s.poolFree := rfl
@[simp] theorem setCircuit_frames (n : Nat) (v : Circuit) : (s.setCircuit n v).frames = s.frames := rfl
@[simp] theorem setCircuit_nextFrame (n : Nat) (v : Circuit) : (s.setCircuit n v).nextFrame = s.nextFrame := rfl
@[simp] theorem setCircuit_encSeq (n : Nat) (v : Circuit) : (s.setCircuit n v).encSeq = s.encSeq := rfl
@[simp] theorem setCircuit_decSeq (n : Nat) (v : Circuit) : (s.setCircuit n v).decSeq = s.decSeq := rfl
@[simp] theorem setCircuit_cls (n : Nat) (v : Circuit) : (s.setCircuit n v).cls = s.cls := rfl
@[simp] theorem setCircuit_polders (n : Nat) (v : Circuit) : (s.setCircuit n v).polders = s.polders := rfl
@[simp] theorem setCircuit_engines (n : Nat) (v : Circuit) : (s.setCircuit n v).engines = s.engines := rfl
@[simp] theorem setCircuit_counts (n : Nat) (v : Circuit) : (s.setCircuit n v).counts = s.counts := rfl
@[simp] theorem setCircuit_pldAcc (n : Nat) (v : Circuit) : (s.setCircuit n v).pldAcc = s.pldAcc := rfl
@[simp] theorem setCircuit_arbMax (n : Nat) (v : Circuit) : (s.setCircuit n v).arbMax = s.arbMax := rfl
@[simp] theorem setCircuit_lkp (n : Nat) (v : Circuit) : (s.setCircuit n v).lkp = s.lkp := rfl
@[simp] theorem setCircuit_chn (n : Nat) (v : Circuit) : (s.setCircuit n v).chn = s.chn := rfl
@[simp] theorem setCircuit_cph (n : Nat) (v : Circuit) : (s.setCircuit n v).cph = s.cph := rfl
@[simp] theorem setCircuit_key (n : Nat) (v : Circuit) : (s.setCircuit n v).key = s.key := rfl
@[simp] theorem setCircuit_lev (n : Nat) (v : Circuit) : (s.setCircuit n v).lev = s.lev := rfl
@[simp] theorem setCircuit_tim (n : Nat) (v : Circuit) : (s.setCircuit n v).tim = s.tim := rfl
@[simp] theorem setCircuit_hbm (n : Nat) (v : Circuit) : (s.setCircuit n v).hbm = s.hbm := rfl
@[simp] theorem setCircuit_evt (n : Nat) (v : Circuit) : (s.setCircuit n v).evt = s.evt := rfl
@[simp] theorem setCircuit_wrd (n : Nat) (v : Circuit) : (s.setCircuit n v).wrd = s.wrd := rfl
@[simp] theorem setCircuit_pp (n : Nat) (v : Circuit) : (s.setCircuit n v).pp = s.pp := rfl
@[simp] theorem setCircuit_pmu (n : Nat) (v : Circuit) : (s.setCircuit n v).pmu = s.pmu := rfl
@[simp] theorem setCircuit_pcie (n : Nat) (v : Circuit) : (s.setCircuit n v).pcie = s.pcie := rfl
@[simp] theorem setCircuit_mbxPcie (n : Nat) (v : Circuit) : (s.setCircuit n v).mbxPcie = s.mbxPcie := rfl
@[simp] theorem setCircuit_mbxI2c (n : Nat) (v : Circuit) : (s.setCircuit n v).mbxI2c = s.mbxI2c := rfl
@[simp] theorem setCircuit_stw (n : Nat) (v : Circuit) : (s.setCircuit n v).stw = s.stw := rfl
@[simp] theorem setCircuit_dbg (n : Nat) (v : Circuit) : (s.setCircuit n v).dbg = s.dbg := rfl

/-! ### setPolder -/

@[simp] theorem setPolder_pending (n : Nat) (v : Polder) : (s.setPolder n v).pending = s.pending := rfl
@[simp] theorem setPolder_freeIdx (n : Nat) (v : Polder) : (s.setPolder n v).freeIdx = s.freeIdx := rfl
@[simp] theorem setPolder_now (n : Nat) (v : Polder) : (s.setPolder n v).now = s.now := rfl
@[simp] theorem setPolder_clockOn (n : Nat) (v : Polder) : (s.setPolder n v).clockOn = s.clockOn := rfl
@[simp] theorem setPolder_regs (n : Nat) (v : Polder) : (s.setPolder n v).regs = s.regs := rfl
@[simp] theorem setPolder_inforce (n : Nat) (v : Polder) : (s.setPolder n v).inforce = s.inforce := rfl
@[simp] theorem setPolder_live (n : Nat) (v : Polder) : (s.setPolder n v).live = s.live := rfl
@[simp] theorem setPolder_ctr (n : Nat) (v : Polder) : (s.setPolder n v).ctr = s.ctr := rfl
@[simp] theorem setPolder_latch (n : Nat) (v : Polder) : (s.setPolder n v).latch = s.latch := rfl
@[simp] theorem setPolder_bus (n : Nat) (v : Polder) : (s.setPolder n v).bus = s.bus := rfl
@[simp] theorem setPolder_flash (n : Nat) (v : Polder) : (s.setPolder n v).flash = s.flash := rfl
@[simp] theorem setPolder_pwr (n : Nat) (v : Polder) : (s.setPolder n v).pwr = s.pwr := rfl
@[simp] theorem setPolder_boot (n : Nat) (v : Polder) : (s.setPolder n v).boot = s.boot := rfl
@[simp] theorem setPolder_upd (n : Nat) (v : Polder) : (s.setPolder n v).upd = s.upd := rfl
@[simp] theorem setPolder_run (n : Nat) (v : Polder) : (s.setPolder n v).run = s.run := rfl
@[simp] theorem setPolder_portPolicy (n : Nat) (v : Polder) : (s.setPolder n v).portPolicy = s.portPolicy := rfl
@[simp] theorem setPolder_channelPolicy (n : Nat) (v : Polder) : (s.setPolder n v).channelPolicy = s.channelPolicy := rfl
@[simp] theorem setPolder_devNumber (n : Nat) (v : Polder) : (s.setPolder n v).devNumber = s.devNumber := rfl
@[simp] theorem setPolder_lanes (n : Nat) (v : Polder) : (s.setPolder n v).lanes = s.lanes := rfl
@[simp] theorem setPolder_hostPorts (n : Nat) (v : Polder) : (s.setPolder n v).hostPorts = s.hostPorts := rfl
@[simp] theorem setPolder_linePorts (n : Nat) (v : Polder) : (s.setPolder n v).linePorts = s.linePorts := rfl
@[simp] theorem setPolder_hostOut (n : Nat) (v : Polder) : (s.setPolder n v).hostOut = s.hostOut := rfl
@[simp] theorem setPolder_lineOut (n : Nat) (v : Polder) : (s.setPolder n v).lineOut = s.lineOut := rfl
@[simp] theorem setPolder_pairs (n : Nat) (v : Polder) : (s.setPolder n v).pairs = s.pairs := rfl
@[simp] theorem setPolder_framers (n : Nat) (v : Polder) : (s.setPolder n v).framers = s.framers := rfl
@[simp] theorem setPolder_deskew (n : Nat) (v : Polder) : (s.setPolder n v).deskew = s.deskew := rfl
@[simp] theorem setPolder_circuits (n : Nat) (v : Polder) : (s.setPolder n v).circuits = s.circuits := rfl
@[simp] theorem setPolder_poolFree (n : Nat) (v : Polder) : (s.setPolder n v).poolFree = s.poolFree := rfl
@[simp] theorem setPolder_frames (n : Nat) (v : Polder) : (s.setPolder n v).frames = s.frames := rfl
@[simp] theorem setPolder_nextFrame (n : Nat) (v : Polder) : (s.setPolder n v).nextFrame = s.nextFrame := rfl
@[simp] theorem setPolder_encSeq (n : Nat) (v : Polder) : (s.setPolder n v).encSeq = s.encSeq := rfl
@[simp] theorem setPolder_decSeq (n : Nat) (v : Polder) : (s.setPolder n v).decSeq = s.decSeq := rfl
@[simp] theorem setPolder_cls (n : Nat) (v : Polder) : (s.setPolder n v).cls = s.cls := rfl
@[simp] theorem setPolder_engines (n : Nat) (v : Polder) : (s.setPolder n v).engines = s.engines := rfl
@[simp] theorem setPolder_counts (n : Nat) (v : Polder) : (s.setPolder n v).counts = s.counts := rfl
@[simp] theorem setPolder_pldAcc (n : Nat) (v : Polder) : (s.setPolder n v).pldAcc = s.pldAcc := rfl
@[simp] theorem setPolder_arbMax (n : Nat) (v : Polder) : (s.setPolder n v).arbMax = s.arbMax := rfl
@[simp] theorem setPolder_lkp (n : Nat) (v : Polder) : (s.setPolder n v).lkp = s.lkp := rfl
@[simp] theorem setPolder_chn (n : Nat) (v : Polder) : (s.setPolder n v).chn = s.chn := rfl
@[simp] theorem setPolder_cph (n : Nat) (v : Polder) : (s.setPolder n v).cph = s.cph := rfl
@[simp] theorem setPolder_key (n : Nat) (v : Polder) : (s.setPolder n v).key = s.key := rfl
@[simp] theorem setPolder_lev (n : Nat) (v : Polder) : (s.setPolder n v).lev = s.lev := rfl
@[simp] theorem setPolder_tim (n : Nat) (v : Polder) : (s.setPolder n v).tim = s.tim := rfl
@[simp] theorem setPolder_hbm (n : Nat) (v : Polder) : (s.setPolder n v).hbm = s.hbm := rfl
@[simp] theorem setPolder_evt (n : Nat) (v : Polder) : (s.setPolder n v).evt = s.evt := rfl
@[simp] theorem setPolder_wrd (n : Nat) (v : Polder) : (s.setPolder n v).wrd = s.wrd := rfl
@[simp] theorem setPolder_pp (n : Nat) (v : Polder) : (s.setPolder n v).pp = s.pp := rfl
@[simp] theorem setPolder_pmu (n : Nat) (v : Polder) : (s.setPolder n v).pmu = s.pmu := rfl
@[simp] theorem setPolder_pcie (n : Nat) (v : Polder) : (s.setPolder n v).pcie = s.pcie := rfl
@[simp] theorem setPolder_mbxPcie (n : Nat) (v : Polder) : (s.setPolder n v).mbxPcie = s.mbxPcie := rfl
@[simp] theorem setPolder_mbxI2c (n : Nat) (v : Polder) : (s.setPolder n v).mbxI2c = s.mbxI2c := rfl
@[simp] theorem setPolder_stw (n : Nat) (v : Polder) : (s.setPolder n v).stw = s.stw := rfl
@[simp] theorem setPolder_dbg (n : Nat) (v : Polder) : (s.setPolder n v).dbg = s.dbg := rfl

/-! ### setEngine -/

@[simp] theorem setEngine_pending (n : Nat) (v : Engine) : (s.setEngine n v).pending = s.pending := rfl
@[simp] theorem setEngine_freeIdx (n : Nat) (v : Engine) : (s.setEngine n v).freeIdx = s.freeIdx := rfl
@[simp] theorem setEngine_now (n : Nat) (v : Engine) : (s.setEngine n v).now = s.now := rfl
@[simp] theorem setEngine_clockOn (n : Nat) (v : Engine) : (s.setEngine n v).clockOn = s.clockOn := rfl
@[simp] theorem setEngine_regs (n : Nat) (v : Engine) : (s.setEngine n v).regs = s.regs := rfl
@[simp] theorem setEngine_inforce (n : Nat) (v : Engine) : (s.setEngine n v).inforce = s.inforce := rfl
@[simp] theorem setEngine_live (n : Nat) (v : Engine) : (s.setEngine n v).live = s.live := rfl
@[simp] theorem setEngine_ctr (n : Nat) (v : Engine) : (s.setEngine n v).ctr = s.ctr := rfl
@[simp] theorem setEngine_latch (n : Nat) (v : Engine) : (s.setEngine n v).latch = s.latch := rfl
@[simp] theorem setEngine_bus (n : Nat) (v : Engine) : (s.setEngine n v).bus = s.bus := rfl
@[simp] theorem setEngine_flash (n : Nat) (v : Engine) : (s.setEngine n v).flash = s.flash := rfl
@[simp] theorem setEngine_pwr (n : Nat) (v : Engine) : (s.setEngine n v).pwr = s.pwr := rfl
@[simp] theorem setEngine_boot (n : Nat) (v : Engine) : (s.setEngine n v).boot = s.boot := rfl
@[simp] theorem setEngine_upd (n : Nat) (v : Engine) : (s.setEngine n v).upd = s.upd := rfl
@[simp] theorem setEngine_run (n : Nat) (v : Engine) : (s.setEngine n v).run = s.run := rfl
@[simp] theorem setEngine_portPolicy (n : Nat) (v : Engine) : (s.setEngine n v).portPolicy = s.portPolicy := rfl
@[simp] theorem setEngine_channelPolicy (n : Nat) (v : Engine) : (s.setEngine n v).channelPolicy = s.channelPolicy := rfl
@[simp] theorem setEngine_devNumber (n : Nat) (v : Engine) : (s.setEngine n v).devNumber = s.devNumber := rfl
@[simp] theorem setEngine_lanes (n : Nat) (v : Engine) : (s.setEngine n v).lanes = s.lanes := rfl
@[simp] theorem setEngine_hostPorts (n : Nat) (v : Engine) : (s.setEngine n v).hostPorts = s.hostPorts := rfl
@[simp] theorem setEngine_linePorts (n : Nat) (v : Engine) : (s.setEngine n v).linePorts = s.linePorts := rfl
@[simp] theorem setEngine_hostOut (n : Nat) (v : Engine) : (s.setEngine n v).hostOut = s.hostOut := rfl
@[simp] theorem setEngine_lineOut (n : Nat) (v : Engine) : (s.setEngine n v).lineOut = s.lineOut := rfl
@[simp] theorem setEngine_pairs (n : Nat) (v : Engine) : (s.setEngine n v).pairs = s.pairs := rfl
@[simp] theorem setEngine_framers (n : Nat) (v : Engine) : (s.setEngine n v).framers = s.framers := rfl
@[simp] theorem setEngine_deskew (n : Nat) (v : Engine) : (s.setEngine n v).deskew = s.deskew := rfl
@[simp] theorem setEngine_circuits (n : Nat) (v : Engine) : (s.setEngine n v).circuits = s.circuits := rfl
@[simp] theorem setEngine_poolFree (n : Nat) (v : Engine) : (s.setEngine n v).poolFree = s.poolFree := rfl
@[simp] theorem setEngine_frames (n : Nat) (v : Engine) : (s.setEngine n v).frames = s.frames := rfl
@[simp] theorem setEngine_nextFrame (n : Nat) (v : Engine) : (s.setEngine n v).nextFrame = s.nextFrame := rfl
@[simp] theorem setEngine_encSeq (n : Nat) (v : Engine) : (s.setEngine n v).encSeq = s.encSeq := rfl
@[simp] theorem setEngine_decSeq (n : Nat) (v : Engine) : (s.setEngine n v).decSeq = s.decSeq := rfl
@[simp] theorem setEngine_cls (n : Nat) (v : Engine) : (s.setEngine n v).cls = s.cls := rfl
@[simp] theorem setEngine_polders (n : Nat) (v : Engine) : (s.setEngine n v).polders = s.polders := rfl
@[simp] theorem setEngine_counts (n : Nat) (v : Engine) : (s.setEngine n v).counts = s.counts := rfl
@[simp] theorem setEngine_pldAcc (n : Nat) (v : Engine) : (s.setEngine n v).pldAcc = s.pldAcc := rfl
@[simp] theorem setEngine_arbMax (n : Nat) (v : Engine) : (s.setEngine n v).arbMax = s.arbMax := rfl
@[simp] theorem setEngine_lkp (n : Nat) (v : Engine) : (s.setEngine n v).lkp = s.lkp := rfl
@[simp] theorem setEngine_chn (n : Nat) (v : Engine) : (s.setEngine n v).chn = s.chn := rfl
@[simp] theorem setEngine_cph (n : Nat) (v : Engine) : (s.setEngine n v).cph = s.cph := rfl
@[simp] theorem setEngine_key (n : Nat) (v : Engine) : (s.setEngine n v).key = s.key := rfl
@[simp] theorem setEngine_lev (n : Nat) (v : Engine) : (s.setEngine n v).lev = s.lev := rfl
@[simp] theorem setEngine_tim (n : Nat) (v : Engine) : (s.setEngine n v).tim = s.tim := rfl
@[simp] theorem setEngine_hbm (n : Nat) (v : Engine) : (s.setEngine n v).hbm = s.hbm := rfl
@[simp] theorem setEngine_evt (n : Nat) (v : Engine) : (s.setEngine n v).evt = s.evt := rfl
@[simp] theorem setEngine_wrd (n : Nat) (v : Engine) : (s.setEngine n v).wrd = s.wrd := rfl
@[simp] theorem setEngine_pp (n : Nat) (v : Engine) : (s.setEngine n v).pp = s.pp := rfl
@[simp] theorem setEngine_pmu (n : Nat) (v : Engine) : (s.setEngine n v).pmu = s.pmu := rfl
@[simp] theorem setEngine_pcie (n : Nat) (v : Engine) : (s.setEngine n v).pcie = s.pcie := rfl
@[simp] theorem setEngine_mbxPcie (n : Nat) (v : Engine) : (s.setEngine n v).mbxPcie = s.mbxPcie := rfl
@[simp] theorem setEngine_mbxI2c (n : Nat) (v : Engine) : (s.setEngine n v).mbxI2c = s.mbxI2c := rfl
@[simp] theorem setEngine_stw (n : Nat) (v : Engine) : (s.setEngine n v).stw = s.stw := rfl
@[simp] theorem setEngine_dbg (n : Nat) (v : Engine) : (s.setEngine n v).dbg = s.dbg := rfl

/-! ### setFrame -/

@[simp] theorem setFrame_pending (i : Nat) (f : Frame) : (s.setFrame i f).pending = s.pending := rfl
@[simp] theorem setFrame_freeIdx (i : Nat) (f : Frame) : (s.setFrame i f).freeIdx = s.freeIdx := rfl
@[simp] theorem setFrame_now (i : Nat) (f : Frame) : (s.setFrame i f).now = s.now := rfl
@[simp] theorem setFrame_clockOn (i : Nat) (f : Frame) : (s.setFrame i f).clockOn = s.clockOn := rfl
@[simp] theorem setFrame_regs (i : Nat) (f : Frame) : (s.setFrame i f).regs = s.regs := rfl
@[simp] theorem setFrame_inforce (i : Nat) (f : Frame) : (s.setFrame i f).inforce = s.inforce := rfl
@[simp] theorem setFrame_live (i : Nat) (f : Frame) : (s.setFrame i f).live = s.live := rfl
@[simp] theorem setFrame_ctr (i : Nat) (f : Frame) : (s.setFrame i f).ctr = s.ctr := rfl
@[simp] theorem setFrame_latch (i : Nat) (f : Frame) : (s.setFrame i f).latch = s.latch := rfl
@[simp] theorem setFrame_bus (i : Nat) (f : Frame) : (s.setFrame i f).bus = s.bus := rfl
@[simp] theorem setFrame_flash (i : Nat) (f : Frame) : (s.setFrame i f).flash = s.flash := rfl
@[simp] theorem setFrame_pwr (i : Nat) (f : Frame) : (s.setFrame i f).pwr = s.pwr := rfl
@[simp] theorem setFrame_boot (i : Nat) (f : Frame) : (s.setFrame i f).boot = s.boot := rfl
@[simp] theorem setFrame_upd (i : Nat) (f : Frame) : (s.setFrame i f).upd = s.upd := rfl
@[simp] theorem setFrame_run (i : Nat) (f : Frame) : (s.setFrame i f).run = s.run := rfl
@[simp] theorem setFrame_portPolicy (i : Nat) (f : Frame) : (s.setFrame i f).portPolicy = s.portPolicy := rfl
@[simp] theorem setFrame_channelPolicy (i : Nat) (f : Frame) : (s.setFrame i f).channelPolicy = s.channelPolicy := rfl
@[simp] theorem setFrame_devNumber (i : Nat) (f : Frame) : (s.setFrame i f).devNumber = s.devNumber := rfl
@[simp] theorem setFrame_lanes (i : Nat) (f : Frame) : (s.setFrame i f).lanes = s.lanes := rfl
@[simp] theorem setFrame_hostPorts (i : Nat) (f : Frame) : (s.setFrame i f).hostPorts = s.hostPorts := rfl
@[simp] theorem setFrame_linePorts (i : Nat) (f : Frame) : (s.setFrame i f).linePorts = s.linePorts := rfl
@[simp] theorem setFrame_hostOut (i : Nat) (f : Frame) : (s.setFrame i f).hostOut = s.hostOut := rfl
@[simp] theorem setFrame_lineOut (i : Nat) (f : Frame) : (s.setFrame i f).lineOut = s.lineOut := rfl
@[simp] theorem setFrame_pairs (i : Nat) (f : Frame) : (s.setFrame i f).pairs = s.pairs := rfl
@[simp] theorem setFrame_framers (i : Nat) (f : Frame) : (s.setFrame i f).framers = s.framers := rfl
@[simp] theorem setFrame_deskew (i : Nat) (f : Frame) : (s.setFrame i f).deskew = s.deskew := rfl
@[simp] theorem setFrame_circuits (i : Nat) (f : Frame) : (s.setFrame i f).circuits = s.circuits := rfl
@[simp] theorem setFrame_poolFree (i : Nat) (f : Frame) : (s.setFrame i f).poolFree = s.poolFree := rfl
@[simp] theorem setFrame_nextFrame (i : Nat) (f : Frame) : (s.setFrame i f).nextFrame = s.nextFrame := rfl
@[simp] theorem setFrame_encSeq (i : Nat) (f : Frame) : (s.setFrame i f).encSeq = s.encSeq := rfl
@[simp] theorem setFrame_decSeq (i : Nat) (f : Frame) : (s.setFrame i f).decSeq = s.decSeq := rfl
@[simp] theorem setFrame_cls (i : Nat) (f : Frame) : (s.setFrame i f).cls = s.cls := rfl
@[simp] theorem setFrame_polders (i : Nat) (f : Frame) : (s.setFrame i f).polders = s.polders := rfl
@[simp] theorem setFrame_engines (i : Nat) (f : Frame) : (s.setFrame i f).engines = s.engines := rfl
@[simp] theorem setFrame_counts (i : Nat) (f : Frame) : (s.setFrame i f).counts = s.counts := rfl
@[simp] theorem setFrame_pldAcc (i : Nat) (f : Frame) : (s.setFrame i f).pldAcc = s.pldAcc := rfl
@[simp] theorem setFrame_arbMax (i : Nat) (f : Frame) : (s.setFrame i f).arbMax = s.arbMax := rfl
@[simp] theorem setFrame_lkp (i : Nat) (f : Frame) : (s.setFrame i f).lkp = s.lkp := rfl
@[simp] theorem setFrame_chn (i : Nat) (f : Frame) : (s.setFrame i f).chn = s.chn := rfl
@[simp] theorem setFrame_cph (i : Nat) (f : Frame) : (s.setFrame i f).cph = s.cph := rfl
@[simp] theorem setFrame_key (i : Nat) (f : Frame) : (s.setFrame i f).key = s.key := rfl
@[simp] theorem setFrame_lev (i : Nat) (f : Frame) : (s.setFrame i f).lev = s.lev := rfl
@[simp] theorem setFrame_tim (i : Nat) (f : Frame) : (s.setFrame i f).tim = s.tim := rfl
@[simp] theorem setFrame_hbm (i : Nat) (f : Frame) : (s.setFrame i f).hbm = s.hbm := rfl
@[simp] theorem setFrame_evt (i : Nat) (f : Frame) : (s.setFrame i f).evt = s.evt := rfl
@[simp] theorem setFrame_wrd (i : Nat) (f : Frame) : (s.setFrame i f).wrd = s.wrd := rfl
@[simp] theorem setFrame_pp (i : Nat) (f : Frame) : (s.setFrame i f).pp = s.pp := rfl
@[simp] theorem setFrame_pmu (i : Nat) (f : Frame) : (s.setFrame i f).pmu = s.pmu := rfl
@[simp] theorem setFrame_pcie (i : Nat) (f : Frame) : (s.setFrame i f).pcie = s.pcie := rfl
@[simp] theorem setFrame_mbxPcie (i : Nat) (f : Frame) : (s.setFrame i f).mbxPcie = s.mbxPcie := rfl
@[simp] theorem setFrame_mbxI2c (i : Nat) (f : Frame) : (s.setFrame i f).mbxI2c = s.mbxI2c := rfl
@[simp] theorem setFrame_stw (i : Nat) (f : Frame) : (s.setFrame i f).stw = s.stw := rfl
@[simp] theorem setFrame_dbg (i : Nat) (f : Frame) : (s.setFrame i f).dbg = s.dbg := rfl

/-! ### setBase -/

@[simp] theorem setBase_pending (b : Nat) (v : TimeBase) : (s.setBase b v).pending = s.pending := rfl
@[simp] theorem setBase_freeIdx (b : Nat) (v : TimeBase) : (s.setBase b v).freeIdx = s.freeIdx := rfl
@[simp] theorem setBase_now (b : Nat) (v : TimeBase) : (s.setBase b v).now = s.now := rfl
@[simp] theorem setBase_clockOn (b : Nat) (v : TimeBase) : (s.setBase b v).clockOn = s.clockOn := rfl
@[simp] theorem setBase_regs (b : Nat) (v : TimeBase) : (s.setBase b v).regs = s.regs := rfl
@[simp] theorem setBase_inforce (b : Nat) (v : TimeBase) : (s.setBase b v).inforce = s.inforce := rfl
@[simp] theorem setBase_live (b : Nat) (v : TimeBase) : (s.setBase b v).live = s.live := rfl
@[simp] theorem setBase_ctr (b : Nat) (v : TimeBase) : (s.setBase b v).ctr = s.ctr := rfl
@[simp] theorem setBase_latch (b : Nat) (v : TimeBase) : (s.setBase b v).latch = s.latch := rfl
@[simp] theorem setBase_bus (b : Nat) (v : TimeBase) : (s.setBase b v).bus = s.bus := rfl
@[simp] theorem setBase_flash (b : Nat) (v : TimeBase) : (s.setBase b v).flash = s.flash := rfl
@[simp] theorem setBase_pwr (b : Nat) (v : TimeBase) : (s.setBase b v).pwr = s.pwr := rfl
@[simp] theorem setBase_boot (b : Nat) (v : TimeBase) : (s.setBase b v).boot = s.boot := rfl
@[simp] theorem setBase_upd (b : Nat) (v : TimeBase) : (s.setBase b v).upd = s.upd := rfl
@[simp] theorem setBase_run (b : Nat) (v : TimeBase) : (s.setBase b v).run = s.run := rfl
@[simp] theorem setBase_portPolicy (b : Nat) (v : TimeBase) : (s.setBase b v).portPolicy = s.portPolicy := rfl
@[simp] theorem setBase_channelPolicy (b : Nat) (v : TimeBase) : (s.setBase b v).channelPolicy = s.channelPolicy := rfl
@[simp] theorem setBase_devNumber (b : Nat) (v : TimeBase) : (s.setBase b v).devNumber = s.devNumber := rfl
@[simp] theorem setBase_lanes (b : Nat) (v : TimeBase) : (s.setBase b v).lanes = s.lanes := rfl
@[simp] theorem setBase_hostPorts (b : Nat) (v : TimeBase) : (s.setBase b v).hostPorts = s.hostPorts := rfl
@[simp] theorem setBase_linePorts (b : Nat) (v : TimeBase) : (s.setBase b v).linePorts = s.linePorts := rfl
@[simp] theorem setBase_hostOut (b : Nat) (v : TimeBase) : (s.setBase b v).hostOut = s.hostOut := rfl
@[simp] theorem setBase_lineOut (b : Nat) (v : TimeBase) : (s.setBase b v).lineOut = s.lineOut := rfl
@[simp] theorem setBase_pairs (b : Nat) (v : TimeBase) : (s.setBase b v).pairs = s.pairs := rfl
@[simp] theorem setBase_framers (b : Nat) (v : TimeBase) : (s.setBase b v).framers = s.framers := rfl
@[simp] theorem setBase_deskew (b : Nat) (v : TimeBase) : (s.setBase b v).deskew = s.deskew := rfl
@[simp] theorem setBase_circuits (b : Nat) (v : TimeBase) : (s.setBase b v).circuits = s.circuits := rfl
@[simp] theorem setBase_poolFree (b : Nat) (v : TimeBase) : (s.setBase b v).poolFree = s.poolFree := rfl
@[simp] theorem setBase_frames (b : Nat) (v : TimeBase) : (s.setBase b v).frames = s.frames := rfl
@[simp] theorem setBase_nextFrame (b : Nat) (v : TimeBase) : (s.setBase b v).nextFrame = s.nextFrame := rfl
@[simp] theorem setBase_encSeq (b : Nat) (v : TimeBase) : (s.setBase b v).encSeq = s.encSeq := rfl
@[simp] theorem setBase_decSeq (b : Nat) (v : TimeBase) : (s.setBase b v).decSeq = s.decSeq := rfl
@[simp] theorem setBase_cls (b : Nat) (v : TimeBase) : (s.setBase b v).cls = s.cls := rfl
@[simp] theorem setBase_polders (b : Nat) (v : TimeBase) : (s.setBase b v).polders = s.polders := rfl
@[simp] theorem setBase_engines (b : Nat) (v : TimeBase) : (s.setBase b v).engines = s.engines := rfl
@[simp] theorem setBase_counts (b : Nat) (v : TimeBase) : (s.setBase b v).counts = s.counts := rfl
@[simp] theorem setBase_pldAcc (b : Nat) (v : TimeBase) : (s.setBase b v).pldAcc = s.pldAcc := rfl
@[simp] theorem setBase_arbMax (b : Nat) (v : TimeBase) : (s.setBase b v).arbMax = s.arbMax := rfl
@[simp] theorem setBase_lkp (b : Nat) (v : TimeBase) : (s.setBase b v).lkp = s.lkp := rfl
@[simp] theorem setBase_chn (b : Nat) (v : TimeBase) : (s.setBase b v).chn = s.chn := rfl
@[simp] theorem setBase_cph (b : Nat) (v : TimeBase) : (s.setBase b v).cph = s.cph := rfl
@[simp] theorem setBase_key (b : Nat) (v : TimeBase) : (s.setBase b v).key = s.key := rfl
@[simp] theorem setBase_lev (b : Nat) (v : TimeBase) : (s.setBase b v).lev = s.lev := rfl
@[simp] theorem setBase_hbm (b : Nat) (v : TimeBase) : (s.setBase b v).hbm = s.hbm := rfl
@[simp] theorem setBase_evt (b : Nat) (v : TimeBase) : (s.setBase b v).evt = s.evt := rfl
@[simp] theorem setBase_wrd (b : Nat) (v : TimeBase) : (s.setBase b v).wrd = s.wrd := rfl
@[simp] theorem setBase_pp (b : Nat) (v : TimeBase) : (s.setBase b v).pp = s.pp := rfl
@[simp] theorem setBase_pmu (b : Nat) (v : TimeBase) : (s.setBase b v).pmu = s.pmu := rfl
@[simp] theorem setBase_pcie (b : Nat) (v : TimeBase) : (s.setBase b v).pcie = s.pcie := rfl
@[simp] theorem setBase_mbxPcie (b : Nat) (v : TimeBase) : (s.setBase b v).mbxPcie = s.mbxPcie := rfl
@[simp] theorem setBase_mbxI2c (b : Nat) (v : TimeBase) : (s.setBase b v).mbxI2c = s.mbxI2c := rfl
@[simp] theorem setBase_stw (b : Nat) (v : TimeBase) : (s.setBase b v).stw = s.stw := rfl
@[simp] theorem setBase_dbg (b : Nat) (v : TimeBase) : (s.setBase b v).dbg = s.dbg := rfl

/-! ### setRegs -/

@[simp] theorem setRegs_pending (l : List (Nat × Word)) : (s.setRegs l).pending = s.pending := rfl
@[simp] theorem setRegs_freeIdx (l : List (Nat × Word)) : (s.setRegs l).freeIdx = s.freeIdx := rfl
@[simp] theorem setRegs_now (l : List (Nat × Word)) : (s.setRegs l).now = s.now := rfl
@[simp] theorem setRegs_clockOn (l : List (Nat × Word)) : (s.setRegs l).clockOn = s.clockOn := rfl
@[simp] theorem setRegs_inforce (l : List (Nat × Word)) : (s.setRegs l).inforce = s.inforce := rfl
@[simp] theorem setRegs_live (l : List (Nat × Word)) : (s.setRegs l).live = s.live := rfl
@[simp] theorem setRegs_ctr (l : List (Nat × Word)) : (s.setRegs l).ctr = s.ctr := rfl
@[simp] theorem setRegs_latch (l : List (Nat × Word)) : (s.setRegs l).latch = s.latch := rfl
@[simp] theorem setRegs_bus (l : List (Nat × Word)) : (s.setRegs l).bus = s.bus := rfl
@[simp] theorem setRegs_flash (l : List (Nat × Word)) : (s.setRegs l).flash = s.flash := rfl
@[simp] theorem setRegs_pwr (l : List (Nat × Word)) : (s.setRegs l).pwr = s.pwr := rfl
@[simp] theorem setRegs_boot (l : List (Nat × Word)) : (s.setRegs l).boot = s.boot := rfl
@[simp] theorem setRegs_upd (l : List (Nat × Word)) : (s.setRegs l).upd = s.upd := rfl
@[simp] theorem setRegs_run (l : List (Nat × Word)) : (s.setRegs l).run = s.run := rfl
@[simp] theorem setRegs_portPolicy (l : List (Nat × Word)) : (s.setRegs l).portPolicy = s.portPolicy := rfl
@[simp] theorem setRegs_channelPolicy (l : List (Nat × Word)) : (s.setRegs l).channelPolicy = s.channelPolicy := rfl
@[simp] theorem setRegs_devNumber (l : List (Nat × Word)) : (s.setRegs l).devNumber = s.devNumber := rfl
@[simp] theorem setRegs_lanes (l : List (Nat × Word)) : (s.setRegs l).lanes = s.lanes := rfl
@[simp] theorem setRegs_hostPorts (l : List (Nat × Word)) : (s.setRegs l).hostPorts = s.hostPorts := rfl
@[simp] theorem setRegs_linePorts (l : List (Nat × Word)) : (s.setRegs l).linePorts = s.linePorts := rfl
@[simp] theorem setRegs_hostOut (l : List (Nat × Word)) : (s.setRegs l).hostOut = s.hostOut := rfl
@[simp] theorem setRegs_lineOut (l : List (Nat × Word)) : (s.setRegs l).lineOut = s.lineOut := rfl
@[simp] theorem setRegs_pairs (l : List (Nat × Word)) : (s.setRegs l).pairs = s.pairs := rfl
@[simp] theorem setRegs_framers (l : List (Nat × Word)) : (s.setRegs l).framers = s.framers := rfl
@[simp] theorem setRegs_deskew (l : List (Nat × Word)) : (s.setRegs l).deskew = s.deskew := rfl
@[simp] theorem setRegs_circuits (l : List (Nat × Word)) : (s.setRegs l).circuits = s.circuits := rfl
@[simp] theorem setRegs_poolFree (l : List (Nat × Word)) : (s.setRegs l).poolFree = s.poolFree := rfl
@[simp] theorem setRegs_frames (l : List (Nat × Word)) : (s.setRegs l).frames = s.frames := rfl
@[simp] theorem setRegs_nextFrame (l : List (Nat × Word)) : (s.setRegs l).nextFrame = s.nextFrame := rfl
@[simp] theorem setRegs_encSeq (l : List (Nat × Word)) : (s.setRegs l).encSeq = s.encSeq := rfl
@[simp] theorem setRegs_decSeq (l : List (Nat × Word)) : (s.setRegs l).decSeq = s.decSeq := rfl
@[simp] theorem setRegs_cls (l : List (Nat × Word)) : (s.setRegs l).cls = s.cls := rfl
@[simp] theorem setRegs_polders (l : List (Nat × Word)) : (s.setRegs l).polders = s.polders := rfl
@[simp] theorem setRegs_engines (l : List (Nat × Word)) : (s.setRegs l).engines = s.engines := rfl
@[simp] theorem setRegs_counts (l : List (Nat × Word)) : (s.setRegs l).counts = s.counts := rfl
@[simp] theorem setRegs_pldAcc (l : List (Nat × Word)) : (s.setRegs l).pldAcc = s.pldAcc := rfl
@[simp] theorem setRegs_arbMax (l : List (Nat × Word)) : (s.setRegs l).arbMax = s.arbMax := rfl
@[simp] theorem setRegs_lkp (l : List (Nat × Word)) : (s.setRegs l).lkp = s.lkp := rfl
@[simp] theorem setRegs_chn (l : List (Nat × Word)) : (s.setRegs l).chn = s.chn := rfl
@[simp] theorem setRegs_cph (l : List (Nat × Word)) : (s.setRegs l).cph = s.cph := rfl
@[simp] theorem setRegs_key (l : List (Nat × Word)) : (s.setRegs l).key = s.key := rfl
@[simp] theorem setRegs_lev (l : List (Nat × Word)) : (s.setRegs l).lev = s.lev := rfl
@[simp] theorem setRegs_tim (l : List (Nat × Word)) : (s.setRegs l).tim = s.tim := rfl
@[simp] theorem setRegs_hbm (l : List (Nat × Word)) : (s.setRegs l).hbm = s.hbm := rfl
@[simp] theorem setRegs_evt (l : List (Nat × Word)) : (s.setRegs l).evt = s.evt := rfl
@[simp] theorem setRegs_wrd (l : List (Nat × Word)) : (s.setRegs l).wrd = s.wrd := rfl
@[simp] theorem setRegs_pp (l : List (Nat × Word)) : (s.setRegs l).pp = s.pp := rfl
@[simp] theorem setRegs_pmu (l : List (Nat × Word)) : (s.setRegs l).pmu = s.pmu := rfl
@[simp] theorem setRegs_pcie (l : List (Nat × Word)) : (s.setRegs l).pcie = s.pcie := rfl
@[simp] theorem setRegs_mbxPcie (l : List (Nat × Word)) : (s.setRegs l).mbxPcie = s.mbxPcie := rfl
@[simp] theorem setRegs_mbxI2c (l : List (Nat × Word)) : (s.setRegs l).mbxI2c = s.mbxI2c := rfl
@[simp] theorem setRegs_stw (l : List (Nat × Word)) : (s.setRegs l).stw = s.stw := rfl
@[simp] theorem setRegs_dbg (l : List (Nat × Word)) : (s.setRegs l).dbg = s.dbg := rfl

/-! ### A read after a write -/

theorem lane_setLane (l m : Nat) (v : Lane) : (s.setLane l v).lane m = if m = l then v else s.lane m := Tab.get_put _ _ _ _ _
@[simp] theorem lane_setLane_same (l : Nat) (v : Lane) : (s.setLane l v).lane l = v := Tab.get_put_same _ _ _ _
theorem pair_setPair (l m : Nat) (v : Pair) : (s.setPair l v).pair m = if m = l then v else s.pair m := Tab.get_put _ _ _ _ _
@[simp] theorem pair_setPair_same (l : Nat) (v : Pair) : (s.setPair l v).pair l = v := Tab.get_put_same _ _ _ _
theorem framer_setFramer (l m : Nat) (v : Framer) : (s.setFramer l v).framer m = if m = l then v else s.framer m := Tab.get_put _ _ _ _ _
@[simp] theorem framer_setFramer_same (l : Nat) (v : Framer) : (s.setFramer l v).framer l = v := Tab.get_put_same _ _ _ _
theorem circuit_setCircuit (l m : Nat) (v : Circuit) : (s.setCircuit l v).circuit m = if m = l then v else s.circuit m := Tab.get_put _ _ _ _ _
@[simp] theorem circuit_setCircuit_same (l : Nat) (v : Circuit) : (s.setCircuit l v).circuit l = v := Tab.get_put_same _ _ _ _
theorem polder_setPolder (l m : Nat) (v : Polder) : (s.setPolder l v).polder m = if m = l then v else s.polder m := Tab.get_put _ _ _ _ _
@[simp] theorem polder_setPolder_same (l : Nat) (v : Polder) : (s.setPolder l v).polder l = v := Tab.get_put_same _ _ _ _
theorem engine_setEngine (l m : Nat) (v : Engine) : (s.setEngine l v).engine m = if m = l then v else s.engine m := Tab.get_put _ _ _ _ _
@[simp] theorem engine_setEngine_same (l : Nat) (v : Engine) : (s.setEngine l v).engine l = v := Tab.get_put_same _ _ _ _
theorem base_setBase (l m : Nat) (v : TimeBase) : (s.setBase l v).base m = if m = l then v else s.base m := Tab.get_put _ _ _ _ _
@[simp] theorem base_setBase_same (l : Nat) (v : TimeBase) : (s.setBase l v).base l = v := Tab.get_put_same _ _ _ _
theorem frame_setFrame (i j : Nat) (f : Frame) : (s.setFrame i f).frame j = if j = i then some f else s.frame j := by
  split
  · subst_vars; exact Tab.find_ins_same _ _ _
  · exact Tab.find_ins_other _ ‹_› _
@[simp] theorem frame_setFrame_same (i : Nat) (f : Frame) : (s.setFrame i f).frame i = some f := Tab.find_ins_same _ _ _

end Sys2Proof.Machine.State
end

