-- ==== Sys2Proof/Laws/Still.lean ====
section
/-! SUPPORT. How the parts beyond traffic pass through updates, branches and folds. -/

namespace Sys2Proof.Machine.State

/-- Every part of the state beyond traffic. -/
def still (s : State) :=
  (s.pending, s.now, s.clockOn, s.inforce, s.live, s.latch, s.bus, s.flash, s.pwr, s.boot, s.upd, s.run, s.portPolicy, s.channelPolicy, s.devNumber, s.poolFree, s.cls, s.counts, s.pldAcc, s.arbMax, s.lkp, s.key, s.lev, s.wrd, s.pcie, s.mbxPcie, s.mbxI2c, s.dbg)

/-- A function that leaves the rest alone changes nothing but traffic. -/
theorem Only.of_still {s t : State} (h : t.still = s.still) : Only Part.traffic s t := by
  simp only [still, Prod.mk.injEq] at h
  obtain ⟨h0, h1, h2, h3, h4, h5, h6, h7, h8, h9, h10, h11, h12, h13, h14, h15, h16, h17, h18, h19, h20, h21, h22, h23, h24, h25, h26, h27⟩ := h
  intro p hp
  cases p <;> first | exact absurd (by decide) hp | assumption

@[simp] theorem still_mk (p fi nw ck rg fo lv ct lt bs fl pw bt ud rn pc cc dv ln hp lp ho lo pr fm dk ci po fr nf es ds cs pd en cn pa am lk ch cp ke
    le ti hb ev wd pp pm pe mp mi st dg) :
    State.still ⟨p, fi, nw, ck, rg, fo, lv, ct, lt, bs, fl, pw, bt, ud, rn, pc, cc, dv, ln, hp, lp, ho, lo, pr, fm, dk, ci, po, fr, nf, es, ds,
      cs, pd, en, cn, pa, am, lk, ch, cp, ke, le, ti, hb, ev, wd, pp, pm, pe, mp, mi, st, dg⟩ =
    (p, nw, ck, fo, lv, lt, bs, fl, pw, bt, ud, rn, pc, cc, dv, po, cs, cn, pa, am, lk, ke, le, wd, pe, mp, mi, dg) := rfl

@[simp] theorem still_eta (s : State) : (s.pending, s.now, s.clockOn, s.inforce, s.live, s.latch, s.bus, s.flash, s.pwr, s.boot, s.upd, s.run, s.portPolicy, s.channelPolicy, s.devNumber, s.poolFree, s.cls, s.counts, s.pldAcc, s.arbMax, s.lkp, s.key, s.lev, s.wrd, s.pcie, s.mbxPcie, s.mbxI2c, s.dbg) =
    s.still := rfl

@[simp] theorem still_ite {c : Prop} [Decidable c] (s t : State) : (if c then s else t).still = if c then s.still else t.still := by
  split <;> rfl

@[simp] theorem still_foldl {β : Type} {f : State → β → State} (h : ∀ t x, (f t x).still = t.still) (l : List β) (s : State) :
    (l.foldl f s).still = s.still := by
  induction l generalizing s with
  | nil => rfl
  | cons x r ih => exact (ih _).trans (h s x)

@[simp] theorem still_foldl_snd {α β : Type} {f : α × State → β → α × State} (h : ∀ a x, (f a x).2.still = a.2.still) (l : List β)
    (a : α × State) : (l.foldl f a).2.still = a.2.still := by
  induction l generalizing a with
  | nil => rfl
  | cons x r ih => exact (ih _).trans (h a x)

@[simp] theorem still_foldl_fst {α β : Type} {f : State × α → β → State × α} (h : ∀ a x, (f a x).1.still = a.1.still) (l : List β)
    (a : State × α) : (l.foldl f a).1.still = a.1.still := by
  induction l generalizing a with
  | nil => rfl
  | cons x r ih => exact (ih _).trans (h a x)

@[simp] theorem still_repeat {f : State → State} (h : ∀ t, (f t).still = t.still) (n : Nat) (s : State) : (Nat.repeat f n s).still = s.still := by
  induction n generalizing s with
  | zero => rfl
  | succ n ih => exact (h _).trans (ih s)

theorem still_foldl_opt {β : Type} {g : Option State → β → Option State} (h0 : ∀ x, g none x = none)
    (h : ∀ t x r, g (some t) x = some r → r.still = t.still) (l : List β) (s t : State) (e : l.foldl g (some s) = some t) : t.still = s.still := by
  induction l generalizing s with
  | nil => cases e; rfl
  | cons x r ih =>
    rw [List.foldl_cons] at e
    cases hx : g (some s) x with
    | none =>
      rw [hx] at e
      have : ∀ m : List β, m.foldl g none = none := by
        intro m
        induction m with
        | nil => rfl
        | cons y q iq => rw [List.foldl_cons, h0]; exact iq
      rw [this] at e
      cases e
    | some u => rw [hx] at e; exact (ih u e).trans (h s x u hx)

end Sys2Proof.Machine.State
end

