-- ==== Sys2Proof/Laws/StillLink.lean ====
section
/-! SUPPORT. Which functions of the shared operations, links and units change nothing but traffic. -/

namespace Sys2Proof.Machine.State

/-! ### Machine/Ops.lean -/

@[simp] theorem msixCall_still (s : State) (x1) : (msixCall s x1).still = s.still := by
  unfold State.msixCall
  repeat' split
  all_goals simp_all

@[simp] theorem pend_still (s : State) (x1) : (pend s x1).still = s.still := by
  unfold State.pend
  repeat' split
  all_goals simp_all

@[simp] theorem stand_still (s : State) (x1) (x2) (x3) (x4) (x5) : (stand s x1 x2 x3 x4 x5).still = s.still := by
  rfl

@[simp] theorem add_still (s : State) (x1) (x2) : (add s x1 x2).still = s.still := by
  unfold State.add
  repeat' split
  all_goals simp_all

@[simp] theorem bump_still (s : State) (x1) : (bump s x1).still = s.still := by
  unfold State.bump
  repeat' split
  all_goals simp_all

@[simp] theorem setReg_still (s : State) (x1) (x2) : (setReg s x1 x2).still = s.still := by
  unfold State.setReg
  repeat' split
  all_goals simp_all

@[simp] theorem orReg_still (s : State) (x1) (x2) : (orReg s x1 x2).still = s.still := by
  unfold State.orReg
  repeat' split
  all_goals simp_all

@[simp] theorem histWrite_still (s : State) (x1) : (histWrite s x1).still = s.still := by
  unfold State.histWrite
  repeat' split
  all_goals simp_all

@[simp] theorem deliverCore_still (s : State) (x1) (x2) (x3) (x4) (x5) (x6) (x7) : (deliverCore s x1 x2 x3 x4 x5 x6 x7).still = s.still := by
  unfold State.deliverCore
  iterate 3 (all_goals (repeat' split); all_goals (try simp_all))

@[simp] theorem uncountOut_still (s : State) (x1) (x2) (x3) : (uncountOut s x1 x2 x3).still = s.still := by
  unfold State.uncountOut
  repeat' split
  all_goals simp_all

@[simp] theorem setPortOut_still (s : State) (x1) (x2) (x3) : (setPortOut s x1 x2 x3).still = s.still := by
  unfold State.setPortOut
  repeat' split
  all_goals simp_all

@[simp] theorem setChIndex_still (s : State) (x1) (x2) (x3) : (setChIndex s x1 x2 x3).still = s.still := by
  unfold State.setChIndex
  repeat' split
  all_goals simp_all

@[simp] theorem setRecord_still (s : State) (x1) (x2) : (setRecord s x1 x2).still = s.still := by
  unfold State.setRecord
  repeat' split
  all_goals simp_all

@[simp] theorem unprotect_still (s : State) (x1) : (unprotect s x1).still = s.still := by
  unfold State.unprotect
  iterate 3 (all_goals (repeat' split); all_goals (try simp_all))

@[simp] theorem raiseLow_still (s : State) (x1) (x2) (x3) (x4) : (raiseLow s x1 x2 x3 x4).still = s.still := by
  unfold State.raiseLow
  repeat' split
  all_goals simp_all

@[simp] theorem tsqPut_still (s : State) (x1) : (tsqPut s x1).still = s.still := by
  unfold State.tsqPut
  repeat' split
  all_goals simp_all

@[simp] theorem stompOn_still (s : State) (x1) (x2) : (stompOn s x1 x2).still = s.still := by
  unfold State.stompOn
  repeat' split
  all_goals simp_all

@[simp] theorem stomp_still (s : State) (x1) : (stomp s x1).still = s.still := by
  unfold State.stomp
  repeat' split
  all_goals simp_all

@[simp] theorem tsDropped_still (s : State) (x1) : (tsDropped s x1).still = s.still := by
  unfold State.tsDropped
  repeat' split
  all_goals simp_all

@[simp] theorem setEngine_still (s : State) (x1) (x2) : (setEngine s x1 x2).still = s.still := by
  unfold State.setEngine
  repeat' split
  all_goals simp_all

@[simp] theorem freeCtx_still (s : State) (x1) : (freeCtx s x1).still = s.still := by
  unfold State.freeCtx
  repeat' split
  all_goals simp_all

@[simp] theorem setFrame_still (s : State) (x1) (x2) : (setFrame s x1 x2).still = s.still := by
  unfold State.setFrame
  repeat' split
  all_goals simp_all

@[simp] theorem delFrame_still (s : State) (x1) (x2) : (delFrame s x1 x2).still = s.still := by
  unfold State.delFrame
  repeat' split
  all_goals simp_all

@[simp] theorem dismiss_still (s : State) (x1) (x2) : (dismiss s x1 x2).still = s.still := by
  unfold State.dismiss
  repeat' split
  all_goals simp_all

@[simp] theorem dropFrame_still (s : State) (x1) (x2) : (dropFrame s x1 x2).still = s.still := by
  unfold State.dropFrame
  repeat' split
  all_goals simp_all

@[simp] theorem dropWhere_still (s : State) (x1) (x2) : (dropWhere s x1 x2).still = s.still := by
  unfold State.dropWhere
  repeat' split
  all_goals simp_all

@[simp] theorem endOutputOn_still (s : State) (x1) (x2) (x3) : (endOutputOn s x1 x2 x3).still = s.still := by
  unfold State.endOutputOn
  repeat' split
  all_goals simp_all

@[simp] theorem endOutput_still (s : State) (x1) (x2) : (endOutput s x1 x2).still = s.still := by
  unfold State.endOutput
  repeat' split
  all_goals simp_all

@[simp] theorem endBoth_still (s : State) (x1) (x2) (x3) : (endBoth s x1 x2 x3).still = s.still := by
  unfold State.endBoth
  repeat' split
  all_goals simp_all

@[simp] theorem endOutputs_still (s : State) : (endOutputs s).still = s.still := by
  unfold State.endOutputs
  repeat' split
  all_goals simp_all

@[simp] theorem raisePad_still (s : State) (x1) (x2) : (raisePad s x1 x2).still = s.still := by
  unfold State.raisePad
  iterate 3 (all_goals (repeat' split); all_goals (try simp_all))

@[simp] theorem trunkPut_still (s : State) (x1) (x2) : (trunkPut s x1 x2).still = s.still := by
  unfold State.trunkPut
  repeat' split
  all_goals simp_all

@[simp] theorem framerSend_still (s : State) (x1) (x2) : (framerSend s x1 x2).still = s.still := by
  unfold State.framerSend
  repeat' split
  all_goals simp_all

@[simp] theorem controlSend_still (s : State) (x1) (x2) : (controlSend s x1 x2).still = s.still := by
  unfold State.controlSend
  repeat' split
  all_goals simp_all

@[simp] theorem roleChange_still (s : State) (x1) (x2) : (roleChange s x1 x2).still = s.still := by
  unfold State.roleChange
  repeat' split
  all_goals simp_all

@[simp] theorem fatalYield_still (s : State) (x1) : (fatalYield s x1).still = s.still := by
  unfold State.fatalYield
  repeat' split
  all_goals simp_all

@[simp] theorem latchC4_still (s : State) (x1) : (latchC4 s x1).still = s.still := by
  unfold State.latchC4
  repeat' split
  all_goals simp_all

@[simp] theorem deliver_still (s : State) (x1) (x2) (x3) (x4) (x5) (x6) (x7) : (deliver s x1 x2 x3 x4 x5 x6 x7).still = s.still := by
  unfold State.deliver
  repeat' split
  all_goals simp_all

@[simp] theorem raise_still (s : State) (x1) (x2) (x3) (x4) : (raise s x1 x2 x3 x4).still = s.still := by
  unfold State.raise
  repeat' split
  all_goals simp_all

@[simp] theorem cause_still (s : State) (x1) (x2) (x3) (x4) (x5) : (cause s x1 x2 x3 x4 x5).still = s.still := by
  unfold State.cause
  repeat' split
  all_goals simp_all

@[simp] theorem accErr_still (s : State) : (accErr s).still = s.still := by
  unfold State.accErr
  repeat' split
  all_goals simp_all

@[simp] theorem setField_still (s : State) (x1) (x2) (x3) (x4) : (setField s x1 x2 x3 x4).still = s.still := by
  unfold State.setField
  repeat' split
  all_goals simp_all

@[simp] theorem fresh_still (s : State) : (fresh s).2.still = s.still := by
  unfold State.fresh
  repeat' split
  all_goals simp_all

theorem fresh__to {s : State}  {r} (h : fresh s = r) : r.2.still = s.still := h ▸ fresh_still s

@[simp] theorem setLane_still (s : State) (x1) (x2) : (setLane s x1 x2).still = s.still := by
  unfold State.setLane
  repeat' split
  all_goals simp_all

@[simp] theorem addReg_still (s : State) (x1) (x2) : (addReg s x1 x2).still = s.still := by
  unfold State.addReg
  repeat' split
  all_goals simp_all

@[simp] theorem setBase_still (s : State) (x1) (x2) : (setBase s x1 x2).still = s.still := by
  unfold State.setBase
  repeat' split
  all_goals simp_all

@[simp] theorem setRegs_still (s : State) (x1) : (setRegs s x1).still = s.still := by
  unfold State.setRegs
  repeat' split
  all_goals simp_all

@[simp] theorem setFramer_still (s : State) (x1) (x2) : (setFramer s x1 x2).still = s.still := by
  unfold State.setFramer
  repeat' split
  all_goals simp_all

@[simp] theorem setCircuit_still (s : State) (x1) (x2) : (setCircuit s x1 x2).still = s.still := by
  unfold State.setCircuit
  repeat' split
  all_goals simp_all

@[simp] theorem capture_still (s : State) (x1) (x2) : (capture s x1 x2).still = s.still := by
  unfold State.capture
  repeat' split
  all_goals simp_all

@[simp] theorem pmuAdd_still (s : State) (x1) (x2) : (pmuAdd s x1 x2).still = s.still := by
  unfold State.pmuAdd
  repeat' split
  all_goals simp_all

@[simp] theorem pmuCount_still (s : State) (x1) (x2) (x3) (x4) : (pmuCount s x1 x2 x3 x4).still = s.still := by
  unfold State.pmuCount
  repeat' split
  all_goals simp_all

@[simp] theorem sampleLost_still (s : State) : (sampleLost s).still = s.still := by
  unfold State.sampleLost
  repeat' split
  all_goals simp_all

@[simp] theorem ringThreshold_still (s : State) : (ringThreshold s).still = s.still := by
  unfold State.ringThreshold
  repeat' split
  all_goals simp_all

@[simp] theorem ringPut_still (s : State) (x1) : (ringPut s x1).still = s.still := by
  unfold State.ringPut
  repeat' split
  all_goals simp_all

@[simp] theorem sample_still (s : State) (x1) (x2) (x3) (x4) (x5) : (sample s x1 x2 x3 x4 x5).still = s.still := by
  unfold State.sample
  repeat' split
  all_goals simp_all

@[simp] theorem setWords_still (s : State) (x1) (x2) : (setWords s x1 x2).still = s.still := by
  unfold State.setWords
  repeat' split
  all_goals simp_all

@[simp] theorem captureWith_still (s : State) (x1) (x2) (x3) : (captureWith s x1 x2 x3).still = s.still := by
  unfold State.captureWith
  repeat' split
  all_goals simp_all

@[simp] theorem clearCtr_still (s : State) (x1) (x2) : (clearCtr s x1 x2).still = s.still := by
  unfold State.clearCtr
  repeat' split
  all_goals simp_all

@[simp] theorem clearRegs_still (s : State) (x1) (x2) : (clearRegs s x1 x2).still = s.still := by
  unfold State.clearRegs
  repeat' split
  all_goals simp_all

@[simp] theorem suppress_still (s : State) (x1) (x2) : (suppress s x1 x2).still = s.still := by
  unfold State.suppress
  repeat' split
  all_goals simp_all

@[simp] theorem etherPut_still (s : State) (x1) (x2) (x3) : (etherPut s x1 x2 x3).still = s.still := by
  unfold State.etherPut
  repeat' split
  all_goals simp_all

@[simp] theorem setPolder_still (s : State) (x1) (x2) : (setPolder s x1 x2).still = s.still := by
  unfold State.setPolder
  repeat' split
  all_goals simp_all

@[simp] theorem setPort_still (s : State) (x1) (x2) (x3) : (setPort s x1 x2 x3).still = s.still := by
  unfold State.setPort
  repeat' split
  all_goals simp_all

@[simp] theorem dropPairRemoved_still (s : State) (x1) : (dropPairRemoved s x1).still = s.still := by
  unfold State.dropPairRemoved
  repeat' split
  all_goals simp_all

@[simp] theorem setPair_still (s : State) (x1) (x2) : (setPair s x1 x2).still = s.still := by
  unfold State.setPair
  repeat' split
  all_goals simp_all

@[simp] theorem stopRefused_still (s : State) (x1) : (stopRefused s x1).still = s.still := by
  unfold State.stopRefused
  repeat' split
  all_goals simp_all

/-! ### Machine/Access.lean -/

@[simp] theorem letIn_still (s : State) (x1) (x2) (hx2 : ∀ t, (x2 t).still = t.still) : (letIn s x1 x2).still = s.still := by
  unfold State.letIn
  iterate 3 (all_goals (repeat' split); all_goals (try simp_all [hx2]))
  all_goals (iterate 2 first | refine (still_foldl (fun t x => ?_) _ _).trans ?_ | refine (still_foldl_snd (fun t x => ?_) _ _).trans ?_ | skip)
  iterate 3 (all_goals (repeat' split); all_goals (try simp_all [hx2]))

@[simp] theorem wr_still (s : State) (x1) (x2) (x3) (hx3 : ∀ t, (x3 t).still = t.still) : (wr s x1 x2 x3).still = s.still := by
  unfold State.wr
  iterate 3 (all_goals (repeat' split); all_goals (try simp_all [hx3]))
  all_goals (iterate 2 first | refine (still_foldl (fun t x => ?_) _ _).trans ?_ | refine (still_foldl_snd (fun t x => ?_) _ _).trans ?_ | skip)
  iterate 3 (all_goals (repeat' split); all_goals (try simp_all [hx3]))

@[simp] theorem clearCounts_still (s : State) (x1) : (clearCounts s x1).still = s.still := by
  unfold State.clearCounts
  repeat' split
  all_goals simp_all

/-! ### Machine/Secrets.lean -/

@[simp] theorem keyCause_still (s : State) (x1) (x2) : (keyCause s x1 x2).still = s.still := by
  unfold State.keyCause
  repeat' split
  all_goals simp_all

@[simp] theorem keyBump_still (s : State) (x1) : (keyBump s x1).still = s.still := by
  unfold State.keyBump
  repeat' split
  all_goals simp_all

@[simp] theorem cellFault_still (s : State) (x1) (x2) : (cellFault s x1 x2).still = s.still := by
  unfold State.cellFault
  repeat' split
  all_goals simp_all

@[simp] theorem deviceFault_still (s : State) : (deviceFault s).still = s.still := by
  unfold State.deviceFault
  repeat' split
  all_goals simp_all

@[simp] theorem entropy_still (s : State) (x1) : (entropy s x1).2.still = s.still := by
  unfold State.entropy
  repeat' split
  all_goals simp_all
  all_goals (first | done | (have h := fresh__to (by assumption); simp_all))

theorem entropy__to {s : State} {x1} {r} (h : entropy s x1 = r) : r.2.still = s.still := h ▸ entropy_still s x1

/-! ### Machine/Links.lean -/

@[simp] theorem framerCause_still (s : State) (x1) (x2) (x3) (x4) : (framerCause s x1 x2 x3 x4).still = s.still := by
  unfold State.framerCause
  repeat' split
  all_goals simp_all

@[simp] theorem pipeNeed_still (s : State) (x1) : (pipeNeed s x1).still = s.still := by
  unfold State.pipeNeed
  repeat' split
  all_goals simp_all

@[simp] theorem polderNeed_still (n) (a : Nat × State) (p) : (polderNeed n a p).2.still = a.2.still := by
  unfold State.polderNeed
  iterate 3 (all_goals (repeat' split); all_goals (try simp_all))

@[simp] theorem wakeUnits_still (s : State) : (wakeUnits s).still = s.still := by
  unfold State.wakeUnits
  iterate 3 (all_goals (repeat' split); all_goals (try simp_all))

@[simp] theorem fit48_still (s : State) : (fit48 s).still = s.still := by
  unfold State.fit48
  repeat' split
  all_goals simp_all

@[simp] theorem settle_still (s : State) : (settle s).still = s.still := by
  unfold State.settle
  repeat' split
  all_goals simp_all

@[simp] theorem portCause_still (s : State) (x1) (x2) (x3) (x4) : (portCause s x1 x2 x3 x4).still = s.still := by
  unfold State.portCause
  repeat' split
  all_goals simp_all

@[simp] theorem portFollow_still (s : State) (x1) (x2) (x3) : (portFollow s x1 x2 x3).still = s.still := by
  unfold State.portFollow
  repeat' split
  all_goals simp_all

@[simp] theorem framerPort_still (s : State) (x1) (x2) : (framerPort s x1 x2).still = s.still := by
  unfold State.framerPort
  repeat' split
  all_goals simp_all

@[simp] theorem leaveSync_still (s : State) (x1) (x2) (x3) : (leaveSync s x1 x2 x3).still = s.still := by
  unfold State.leaveSync
  repeat' split
  all_goals simp_all

@[simp] theorem framerFollow_still (s : State) (x1) : (framerFollow s x1).still = s.still := by
  unfold State.framerFollow
  repeat' split
  all_goals simp_all

@[simp] theorem laneFollow_still (s : State) (x1) (x2) : (laneFollow s x1 x2).still = s.still := by
  unfold State.laneFollow
  repeat' split
  all_goals simp_all

@[simp] theorem streamStop_still (s : State) (x1) : (streamStop s x1).still = s.still := by
  unfold State.streamStop
  repeat' split
  all_goals simp_all

@[simp] theorem setStage_still (s : State) (x1) (x2) : (setStage s x1 x2).still = s.still := by
  unfold State.setStage
  repeat' split
  all_goals simp_all

@[simp] theorem dozeLane_still (s : State) (x1) : (dozeLane s x1).still = s.still := by
  unfold State.dozeLane
  repeat' split
  all_goals simp_all

@[simp] theorem dozePair_still (s : State) (x1) : (dozePair s x1).still = s.still := by
  unfold State.dozePair
  repeat' split
  all_goals simp_all

@[simp] theorem dropLanePair_still (s : State) (x1) : (dropLanePair s x1).still = s.still := by
  unfold State.dropLanePair
  repeat' split
  all_goals simp_all

@[simp] theorem unitsWoken_still (s : State) : (unitsWoken s).still = s.still := by
  unfold State.unitsWoken
  repeat' split
  all_goals simp_all

@[simp] theorem holdSide_still (s : State) (x1) : (holdSide s x1).still = s.still := by
  unfold State.holdSide
  repeat' split
  all_goals simp_all

@[simp] theorem laneCause_still (s : State) (x1) (x2) (x3) : (laneCause s x1 x2 x3).still = s.still := by
  unfold State.laneCause
  repeat' split
  all_goals simp_all

@[simp] theorem laneDown_still (s : State) (x1) (x2) : (laneDown s x1 x2).still = s.still := by
  unfold State.laneDown
  repeat' split
  all_goals simp_all

@[simp] theorem laneUp_still (s : State) (x1) : (laneUp s x1).still = s.still := by
  unfold State.laneUp
  repeat' split
  all_goals simp_all

@[simp] theorem loopFrom_still (s : State) (x1) (x2) : (loopFrom s x1 x2).still = s.still := by
  unfold State.loopFrom
  repeat' split
  all_goals simp_all

@[simp] theorem moveLane_still (s : State) (x1) (x2) (x3) : (moveLane s x1 x2 x3).still = s.still := by
  unfold State.moveLane
  repeat' split
  all_goals simp_all

@[simp] theorem removePort_still (s : State) (x1) (x2) (x3) : (removePort s x1 x2 x3).still = s.still := by
  unfold State.removePort
  repeat' split
  all_goals simp_all

@[simp] theorem removeLane_still (s : State) (x1) (x2) : (removeLane s x1 x2).still = s.still := by
  unfold State.removeLane
  iterate 3 (all_goals (repeat' split); all_goals (try simp_all))

@[simp] theorem retireLane_still (s : State) (x1) : (retireLane s x1).still = s.still := by
  unfold State.retireLane
  iterate 3 (all_goals (repeat' split); all_goals (try simp_all))

/-! ### Machine/Units.lean -/

@[simp] theorem cphCause_still (s : State) (x1) (x2) (x3) : (cphCause s x1 x2 x3).still = s.still := by
  unfold State.cphCause
  repeat' split
  all_goals simp_all

@[simp] theorem takeBack_still (s : State) (x1) (x2) : (takeBack s x1 x2).still = s.still := by
  unfold State.takeBack
  repeat' split
  all_goals simp_all

@[simp] theorem dropEngines_still (s : State) (x1) : (dropEngines s x1).still = s.still := by
  unfold State.dropEngines
  iterate 3 (all_goals (repeat' split); all_goals (try simp_all))
  all_goals (iterate 2 first | refine (still_foldl (fun t x => ?_) _ _).trans ?_ | refine (still_foldl_snd (fun t x => ?_) _ _).trans ?_ | skip)
  iterate 3 (all_goals (repeat' split); all_goals (try simp_all))

@[simp] theorem engineOut_still (s : State) (x1) : (engineOut s x1).still = s.still := by
  unfold State.engineOut
  repeat' split
  all_goals simp_all

@[simp] theorem pipeDrop_still (s : State) (x1) : (pipeDrop s x1).still = s.still := by
  unfold State.pipeDrop
  repeat' split
  all_goals simp_all

@[simp] theorem pipesOut_still (s : State) (x1) (x2) : (pipesOut s x1 x2).still = s.still := by
  unfold State.pipesOut
  iterate 3 (all_goals (repeat' split); all_goals (try simp_all))
  all_goals (iterate 2 first | refine (still_foldl (fun t x => ?_) _ _).trans ?_ | refine (still_foldl_snd (fun t x => ?_) _ _).trans ?_ | skip)
  iterate 3 (all_goals (repeat' split); all_goals (try simp_all))

@[simp] theorem pldCause_still (s : State) (x1) (x2) (x3) : (pldCause s x1 x2 x3).still = s.still := by
  unfold State.pldCause
  repeat' split
  all_goals simp_all

@[simp] theorem polderOut_still (s : State) (x1) (x2) : (polderOut s x1 x2).still = s.still := by
  unfold State.polderOut
  repeat' split
  all_goals simp_all

@[simp] theorem removeGroup_still (s : State) (x1) : (removeGroup s x1).still = s.still := by
  unfold State.removeGroup
  repeat' split
  all_goals simp_all

@[simp] theorem removePolder_still (s : State) (x1) : (removePolder s x1).still = s.still := by
  unfold State.removePolder
  repeat' split
  all_goals simp_all

@[simp] theorem removeEngine_still (s : State) (x1) : (removeEngine s x1).still = s.still := by
  unfold State.removeEngine
  repeat' split
  all_goals simp_all

@[simp] theorem warmDrop_still (s : State) : (warmDrop s).still = s.still := by
  unfold State.warmDrop
  repeat' split
  all_goals simp_all

/-! ### Machine/Clock.lean -/

@[simp] theorem timCause_still (s : State) (x1) (x2) : (timCause s x1 x2).still = s.still := by
  unfold State.timCause
  repeat' split
  all_goals simp_all

@[simp] theorem pulseSkipped_still (s : State) (x1) : (pulseSkipped s x1).still = s.still := by
  unfold State.pulseSkipped
  repeat' split
  all_goals simp_all

@[simp] theorem setPulse_still (s : State) (x1) (x2) : (setPulse s x1 x2).still = s.still := by
  unfold State.setPulse
  repeat' split
  all_goals simp_all

@[simp] theorem pulseJump_still (s : State) (x1) (x2) : (pulseJump s x1 x2).still = s.still := by
  unfold State.pulseJump
  repeat' split
  all_goals simp_all

@[simp] theorem pulsesJump_still (s : State) (x1) (x2) : (pulsesJump s x1 x2).still = s.still := by
  unfold State.pulsesJump
  repeat' split
  all_goals simp_all

@[simp] theorem pulseBegin_still (s : State) (x1) : (pulseBegin s x1).still = s.still := by
  unfold State.pulseBegin
  repeat' split
  all_goals simp_all

@[simp] theorem pulseEnd_still (s : State) (x1) : (pulseEnd s x1).still = s.still := by
  unfold State.pulseEnd
  repeat' split
  all_goals simp_all

@[simp] theorem pulsesEnd_still (s : State) : (pulsesEnd s).still = s.still := by
  unfold State.pulsesEnd
  repeat' split
  all_goals simp_all

/-! ### Machine/Lookups.lean -/

@[simp] theorem hbmWake_still (s : State) : (hbmWake s).still = s.still := by
  unfold State.hbmWake
  repeat' split
  all_goals simp_all

@[simp] theorem countHit_still (s : State) (x1) : (countHit s x1).still = s.still := by
  unfold State.countHit
  repeat' split
  all_goals simp_all

@[simp] theorem inserted_still (s : State) : (inserted s).still = s.still := by
  unfold State.inserted
  repeat' split
  all_goals simp_all

@[simp] theorem lkpCause_still (s : State) (x1) (x2) : (lkpCause s x1 x2).still = s.still := by
  unfold State.lkpCause
  repeat' split
  all_goals simp_all

@[simp] theorem lkpResult_still (s : State) (x1) (x2) : (lkpResult s x1 x2).still = s.still := by
  unfold State.lkpResult
  repeat' split
  all_goals simp_all

@[simp] theorem lkpLookup_still (s : State) (x1) (x2) : (lkpLookup s x1 x2).still = s.still := by
  unfold State.lkpLookup
  repeat' split
  all_goals simp_all

@[simp] theorem lkpRefused_still (s : State) (x1) : (lkpRefused s x1).still = s.still := by
  unfold State.lkpRefused
  repeat' split
  all_goals simp_all

/-! ### Machine/Power.lean -/

@[simp] theorem railOut_still (s : State) (x1) : (railOut s x1).still = s.still := by
  unfold State.railOut
  repeat' split
  all_goals simp_all

@[simp] theorem sideLost_still (s : State) (x1) : (sideLost s x1).still = s.still := by
  unfold State.sideLost
  repeat' split
  all_goals simp_all

/-! ### Machine/Framing.lean -/

@[simp] theorem subReg_still (s : State) (x1) (x2) : (subReg s x1 x2).still = s.still := by
  unfold State.subReg
  repeat' split
  all_goals simp_all

@[simp] theorem pmEnter_still (s : State) (x1) (x2) (x3) (x4) (x5) (x6) : (pmEnter s x1 x2 x3 x4 x5 x6).1.still = s.still := by
  unfold State.pmEnter
  repeat' split
  all_goals simp_all

theorem pmEnter__to {s : State} {x1} {x2} {x3} {x4} {x5} {x6} {r} (h : pmEnter s x1 x2 x3 x4 x5 x6 = r) : r.1.still = s.still := h ▸ pmEnter_still s x1 x2 x3 x4 x5 x6

@[simp] theorem enterFar_still (s : State) (x1) (x2) : (enterFar s x1 x2).still = s.still := by
  unfold State.enterFar
  repeat' split
  all_goals simp_all
  all_goals (first | done | (have h := pmEnter__to (by assumption); simp_all))

@[simp] theorem closeFar_still (s : State) (x1) : (closeFar s x1).still = s.still := by
  unfold State.closeFar
  repeat' split
  all_goals simp_all

@[simp] theorem closeNear_still (s : State) (x1) : (closeNear s x1).still = s.still := by
  unfold State.closeNear
  repeat' split
  all_goals simp_all
  all_goals (first | done | (have h := pmEnter__to (by assumption); simp_all))

@[simp] theorem secondJump_still (s : State) (x1) (x2) (x3) : (secondJump s x1 x2 x3).still = s.still := by
  unfold State.secondJump
  repeat' split
  all_goals simp_all

@[simp] theorem slip_still (s : State) (x1) (x2) (x3) : (slip s x1 x2 x3).still = s.still := by
  unfold State.slip
  repeat' split
  all_goals simp_all

@[simp] theorem circuitJump_still (s : State) (x1) (x2) : (circuitJump s x1 x2).still = s.still := by
  unfold State.circuitJump
  iterate 3 (all_goals (repeat' split); all_goals (try simp_all))

@[simp] theorem jump_still (s : State) (x1) (x2) (x3) : (jump s x1 x2 x3).still = s.still := by
  unfold State.jump
  repeat' split
  all_goals simp_all

@[simp] theorem circuitDown_still (s : State) (x1) : (circuitDown s x1).still = s.still := by
  unfold State.circuitDown
  repeat' split
  all_goals simp_all

@[simp] theorem emit_still (s : State) (x1) (x2) : (emit s x1 x2).still = s.still := by
  unfold State.emit
  repeat' split
  all_goals simp_all

@[simp] theorem playInstant_still (s : State) (x1) : (playInstant s x1).still = s.still := by
  unfold State.playInstant
  iterate 3 (all_goals (repeat' split); all_goals (try simp_all))

@[simp] theorem play_still (s : State) (x1) : (play s x1).still = s.still := by
  unfold State.play
  repeat' split
  all_goals simp_all

@[simp] theorem arriveIdle_still (s : State) (x1) (x2) : (arriveIdle s x1 x2).still = s.still := by
  unfold State.arriveIdle
  repeat' split
  all_goals simp_all

@[simp] theorem arrivePlaying_still (s : State) (x1) (x2) : (arrivePlaying s x1 x2).still = s.still := by
  unfold State.arrivePlaying
  repeat' split
  all_goals simp_all

@[simp] theorem block_still (s : State) (x1) (x2) : (block s x1 x2).still = s.still := by
  unfold State.block
  repeat' split
  all_goals simp_all

@[simp] theorem blockIcv_still (s : State) (x1) (x2) : (blockIcv s x1 x2).still = s.still := by
  unfold State.blockIcv
  repeat' split
  all_goals simp_all

@[simp] theorem closeSecond_still (s : State) (x1) : (closeSecond s x1).still = s.still := by
  unfold State.closeSecond
  repeat' split
  all_goals simp_all

@[simp] theorem spillway_still (s : State) (x1) (x2) (x3) (x4) : (spillway s x1 x2 x3 x4).still = s.still := by
  unfold State.spillway
  repeat' split
  all_goals simp_all

/-! ### Machine/Lanes.lean -/

@[simp] theorem adapt_still (s : State) (x1) (x2) : (adapt s x1 x2).still = s.still := by
  unfold State.adapt
  repeat' split
  all_goals simp_all
  all_goals (first | done | (have h := fresh__to (by assumption); simp_all))

@[simp] theorem askFarEnd_still (s : State) (x1) (x2) : (askFarEnd s x1 x2).still = s.still := by
  unfold State.askFarEnd
  repeat' split
  all_goals simp_all
  all_goals (first | done | (have h := fresh__to (by assumption); simp_all))

@[simp] theorem countAdjust_still (s : State) (x1) (x2) : (countAdjust s x1 x2).still = s.still := by
  unfold State.countAdjust
  repeat' split
  all_goals simp_all

@[simp] theorem streamStart_still (s : State) (x1) (x2) : (streamStart s x1 x2).still = s.still := by
  unfold State.streamStart
  repeat' split
  all_goals simp_all

@[simp] theorem streamPut_still (s : State) (x1) (x2) (x3) : (streamPut s x1 x2 x3).2.still = s.still := by
  unfold State.streamPut
  exact setFramer_still _ _ _

theorem streamPut__to {s : State} {x1} {x2} {x3} {r} (h : streamPut s x1 x2 x3 = r) : r.2.still = s.still := h ▸ streamPut_still s x1 x2 x3

@[simp] theorem streamFill_still (s : State) (x1) (x2) : (streamFill s x1 x2).2.still = s.still := by
  exact (streamPut_still _ _ _ _).trans (fresh_still _)

theorem streamFill__to {s : State} {x1} {x2} {r} (h : streamFill s x1 x2 = r) : r.2.still = s.still := h ▸ streamFill_still s x1 x2

@[simp] theorem streamNext_still (s : State) (x1) : (streamNext s x1).2.still = s.still := by
  unfold State.streamNext
  dsimp only
  split
  · exact streamFill_still _ _ _
  · split
    · exact streamFill_still _ _ _
    · exact streamPut_still _ _ _ _

theorem streamNext__to {s : State} {x1} {r} (h : streamNext s x1 = r) : r.2.still = s.still := h ▸ streamNext_still s x1

@[simp] theorem streamTake_still (x0) (x1) (x2) (s : State) : (streamTake x0 x1 x2 s).2.still = s.still := by
  induction x1 generalizing s x2 with
  | zero => rfl
  | succ k ih =>
    unfold State.streamTake
    split
    · rfl
    · exact (ih _ _).trans (streamNext_still _ _)

theorem streamTake__to {s : State} {x0} {x1} {x2} {r} (h : streamTake x0 x1 x2 s = r) : r.2.still = s.still := h ▸ streamTake_still x0 x1 x2 s

@[simp] theorem cutRow_still (s : State) (x1) (x2) : (cutRow s x1 x2).still = s.still := by
  unfold State.cutRow
  repeat' split
  all_goals simp_all
  all_goals (first | done | (have h := streamTake__to (by assumption); simp_all))

@[simp] theorem deskewDrop_still (s : State) (x1) (x2) : (deskewDrop s x1 x2).still = s.still := by
  unfold State.deskewDrop
  repeat' split
  all_goals simp_all

@[simp] theorem deskewLost_still (s : State) (x1) : (deskewLost s x1).still = s.still := by
  unfold State.deskewLost
  repeat' split
  all_goals simp_all

@[simp] theorem deskewRows_still (s : State) (x1) : (deskewRows s x1).still = s.still := by
  unfold State.deskewRows
  repeat' split
  all_goals simp_all

@[simp] theorem passWords_still (s : State) (x1) (x2) : (passWords s x1 x2).still = s.still := by
  unfold State.passWords
  repeat' split
  all_goals simp_all

@[simp] theorem elasticPass_still (s : State) (x1) (x2) (x3) : (elasticPass s x1 x2 x3).still = s.still := by
  unfold State.elasticPass
  repeat' split
  all_goals simp_all

@[simp] theorem laneClear_still (s : State) (x1) : (laneClear s x1).still = s.still := by
  unfold State.laneClear
  repeat' split
  all_goals simp_all

@[simp] theorem patternCheck_still (s : State) (x1) (x2) : (patternCheck s x1 x2).still = s.still := by
  unfold State.patternCheck
  iterate 3 (all_goals (repeat' split); all_goals (try simp_all))

@[simp] theorem rxFeed_still (s : State) (x1) (x2) : (rxFeed s x1 x2).still = s.still := by
  unfold State.rxFeed
  repeat' split
  all_goals simp_all

@[simp] theorem lineSend_still (s : State) (x1) (x2) (x3) : (lineSend s x1 x2 x3).still = s.still := by
  unfold State.lineSend
  repeat' split
  all_goals simp_all

@[simp] theorem markerLost_still (s : State) (x1) : (markerLost s x1).still = s.still := by
  unfold State.markerLost
  repeat' split
  all_goals simp_all

@[simp] theorem markerTake_still (s : State) (x1) (x2) (x3) (x4) : (markerTake s x1 x2 x3 x4).still = s.still := by
  unfold State.markerTake
  repeat' split
  all_goals simp_all

@[simp] theorem prbsErrors_still (s : State) (x1) (x2) : (prbsErrors s x1 x2).still = s.still := by
  unfold State.prbsErrors
  repeat' split
  all_goals simp_all

@[simp] theorem rxTake_still (s : State) (x1) (x2) : (rxTake s x1 x2).still = s.still := by
  unfold State.rxTake
  iterate 3 (all_goals (repeat' split); all_goals (try simp_all))

@[simp] theorem sendBlock_still (s : State) (x1) (x2) : (sendBlock s x1 x2).still = s.still := by
  unfold State.sendBlock
  repeat' split
  all_goals simp_all

@[simp] theorem sendPattern_still (s : State) (x1) : (sendPattern s x1).still = s.still := by
  unfold State.sendPattern
  exact (lineSend_still _ _ _ _).trans (fresh_still _)

@[simp] theorem takeFom_still (s : State) (x1) (x2) : (takeFom s x1 x2).still = s.still := by
  unfold State.takeFom
  repeat' split
  all_goals simp_all

@[simp] theorem testSet_still (s : State) (x1) : (testSet s x1).still = s.still := by
  unfold State.testSet
  iterate 3 (all_goals (repeat' split); all_goals (try simp_all))

/-! ### Machine/Timing.lean -/

@[simp] theorem setResult_still (s : State) (x1) (x2) : (setResult s x1 x2).still = s.still := by
  unfold State.setResult
  repeat' split
  all_goals simp_all

@[simp] theorem applyBase_still (s : State) (x1) (x2) : (applyBase s x1 x2).still = s.still := by
  unfold State.applyBase
  iterate 3 (all_goals (repeat' split); all_goals (try simp_all))

@[simp] theorem baseCtrl_still (s : State) (x1) (x2) : (baseCtrl s x1 x2).still = s.still := by
  unfold State.baseCtrl
  repeat' split
  all_goals simp_all

@[simp] theorem setCap_still (s : State) (x1) (x2) : (setCap s x1 x2).still = s.still := by
  unfold State.setCap
  repeat' split
  all_goals simp_all

@[simp] theorem capPop_still (s : State) (x1) : (capPop s x1).still = s.still := by
  unfold State.capPop
  iterate 3 (all_goals (repeat' split); all_goals (try simp_all))

@[simp] theorem setCal_still (s : State) (x1) (x2) : (setCal s x1 x2).still = s.still := by
  unfold State.setCal
  repeat' split
  all_goals simp_all

@[simp] theorem tsqPop_still (s : State) : (tsqPop s).still = s.still := by
  unfold State.tsqPop
  repeat' split
  all_goals simp_all

/-! ### Machine/Trunk.lean -/

@[simp] theorem toHunt_still (s : State) (x1) (x2) : (toHunt s x1 x2).still = s.still := by
  unfold State.toHunt
  repeat' split
  all_goals simp_all

@[simp] theorem failHeader_still (s : State) (x1) : (failHeader s x1).still = s.still := by
  unfold State.failHeader
  iterate 3 (all_goals (repeat' split); all_goals (try simp_all))

@[simp] theorem forceNow_still (s : State) (x1) : (forceNow s x1).still = s.still := by
  unfold State.forceNow
  repeat' split
  all_goals simp_all

@[simp] theorem forceHunt_still (s : State) (x1) : (forceHunt s x1).still = s.still := by
  unfold State.forceHunt
  repeat' split
  all_goals simp_all

@[simp] theorem toSync_still (s : State) (x1) (x2) : (toSync s x1 x2).still = s.still := by
  unfold State.toSync
  repeat' split
  all_goals simp_all

@[simp] theorem passHeader_still (s : State) (x1) (x2) (x3) : (passHeader s x1 x2 x3).still = s.still := by
  unfold State.passHeader
  iterate 3 (all_goals (repeat' split); all_goals (try simp_all))

@[simp] theorem headerCheck_still (s : State) (x1) : (headerCheck s x1).still = s.still := by
  unfold State.headerCheck
  iterate 3 (all_goals (repeat' split); all_goals (try simp_all))

@[simp] theorem forcedCheck_still (s : State) (x1) : (forcedCheck s x1).still = s.still := by
  unfold State.forcedCheck
  repeat' split
  all_goals simp_all

@[simp] theorem framerClear_still (s : State) (x1) : (framerClear s x1).still = s.still := by
  unfold State.framerClear
  repeat' split
  all_goals simp_all

@[simp] theorem monitorTake_still (s : State) (x1) (x2) : (monitorTake s x1 x2).still = s.still := by
  unfold State.monitorTake
  iterate 3 (all_goals (repeat' split); all_goals (try simp_all))
  all_goals (iterate 2 first | refine (still_foldl (fun t x => ?_) _ _).trans ?_ | refine (still_foldl_snd (fun t x => ?_) _ _).trans ?_ | skip)
  iterate 3 (all_goals (repeat' split); all_goals (try simp_all))

theorem takePassed_still (s : State) (x1) (x2) : ∀ r, takePassed s x1 x2 = some r → r.2.still = s.still := by
  unfold State.takePassed
  intro t h
  iterate 3 (all_goals (repeat' split at h); all_goals (try simp_all))
  all_goals (first | done | (subst h; simp) | (obtain rfl | rfl := h <;> simp))

/-! ### Machine/Ports.lean -/

@[simp] theorem addFrame_still (s : State) (x1) : (addFrame s x1).still = s.still := by
  unfold State.addFrame
  repeat' split
  all_goals simp_all

@[simp] theorem pairEvent_still (s : State) (x1) (x2) : (pairEvent s x1 x2).still = s.still := by
  unfold State.pairEvent
  repeat' split
  all_goals simp_all

@[simp] theorem fecCount_still (s : State) (x1) (x2) : (fecCount s x1 x2).still = s.still := by
  unfold State.fecCount
  repeat' split
  all_goals simp_all

@[simp] theorem toSteward_still (s : State) (x1) (x2) : (toSteward s x1 x2).still = s.still := by
  unfold State.toSteward
  repeat' split
  all_goals simp_all

@[simp] theorem received_still (s : State) (x1) (x2) (x3) : (received s x1 x2 x3).2.still = s.still := by
  unfold State.received
  iterate 3 (all_goals (repeat' split); all_goals (try simp_all))

theorem received__to {s : State} {x1} {x2} {x3} {r} (h : received s x1 x2 x3 = r) : r.2.still = s.still := h ▸ received_still s x1 x2 x3

@[simp] theorem trunkArrive_still (s : State) (x1) (x2) (x3) (x4) (x5) (x6) : (trunkArrive s x1 x2 x3 x4 x5 x6).still = s.still := by
  unfold State.trunkArrive
  repeat' split
  all_goals simp_all

/-! ### Machine/Classify.lean -/

@[simp] theorem clsCause_still (s : State) (x1) (x2) : (clsCause s x1 x2).still = s.still := by
  unfold State.clsCause
  repeat' split
  all_goals simp_all

@[simp] theorem accResult_still (s : State) (x1) : (accResult s x1).still = s.still := by
  unfold State.accResult
  repeat' split
  all_goals simp_all

@[simp] theorem blockSlots_still (s : State) (x1) : (blockSlots s x1).still = s.still := by
  unfold State.blockSlots
  repeat' split
  all_goals simp_all

@[simp] theorem clsCapture_still (s : State) (x1) (x2) (x3) : (clsCapture s x1 x2 x3).still = s.still := by
  unfold State.clsCapture
  repeat' split
  all_goals simp_all

@[simp] theorem ensignResult_still (s : State) (x1) : (ensignResult s x1).still = s.still := by
  unfold State.ensignResult
  repeat' split
  all_goals simp_all

@[simp] theorem giveVerdict_still (s : State) (x1) (x2) (x3) (x4) : (giveVerdict s x1 x2 x3 x4).still = s.still := by
  unfold State.giveVerdict
  repeat' split
  all_goals simp_all

@[simp] theorem giveDefault_still (s : State) (x1) (x2) (x3) : (giveDefault s x1 x2 x3).still = s.still := by
  unfold State.giveDefault
  repeat' split
  all_goals simp_all

@[simp] theorem numbered_still (s : State) (x1) : (numbered s x1).2.still = s.still := by
  unfold State.numbered
  repeat' split
  all_goals simp_all

theorem numbered__to {s : State} {x1} {r} (h : numbered s x1 = r) : r.2.still = s.still := h ▸ numbered_still s x1

@[simp] theorem resultFixed_still (s : State) (x1) (x2) : (resultFixed s x1 x2).still = s.still := by
  unfold State.resultFixed
  repeat' split
  all_goals simp_all

end Sys2Proof.Machine.State
end

