-- ==== Sys2Proof/Laws/StillUnit.lean ====
section
/-! SUPPORT. Which functions of the other units change nothing but traffic. -/

namespace Sys2Proof.Machine.State

/-! ### Machine/Image.lean -/

@[simp] theorem takeTimeConfig_still (s : State) (x1) (x2) : (takeTimeConfig s x1 x2).still = s.still := by
  unfold State.takeTimeConfig
  repeat' split
  all_goals simp_all

@[simp] theorem takeEqualisation_still (s : State) (x1) : (takeEqualisation s x1).still = s.still := by
  unfold State.takeEqualisation
  repeat' split
  all_goals simp_all

/-! ### Machine/Boot.lean -/

@[simp] theorem loadPrograms_still (s : State) (x1) (x2) : (loadPrograms s x1 x2).still = s.still := by
  unfold State.loadPrograms
  iterate 3 (all_goals (repeat' split); all_goals (try simp_all))
  all_goals (iterate 2 first | refine (still_foldl (fun t x => ?_) _ _).trans ?_ | refine (still_foldl_snd (fun t x => ?_) _ _).trans ?_ | skip)
  iterate 3 (all_goals (repeat' split); all_goals (try simp_all))

@[simp] theorem openImport_still (s : State) (x1) (x2) : (openImport s x1 x2).2.still = s.still := by
  unfold State.openImport
  repeat' split
  all_goals simp_all

theorem openImport__to {s : State} {x1} {x2} {r} (h : openImport s x1 x2 = r) : r.2.still = s.still := h ▸ openImport_still s x1 x2

/-! ### Machine/Store.lean -/

@[simp] theorem chnCause_still (s : State) (x1) (x2) : (chnCause s x1 x2).still = s.still := by
  unfold State.chnCause
  repeat' split
  all_goals simp_all

@[simp] theorem noteQueue_still (s : State) (x1) (x2) : (noteQueue s x1 x2).still = s.still := by
  unfold State.noteQueue
  repeat' split
  all_goals simp_all

@[simp] theorem recordFault_still (s : State) (x1) (x2) : (recordFault s x1 x2).still = s.still := by
  unfold State.recordFault
  iterate 3 (all_goals (repeat' split); all_goals (try simp_all))

@[simp] theorem chEffect_still (s : State) (x1) (x2) : (chEffect s x1 x2).still = s.still := by
  unfold State.chEffect
  repeat' split
  all_goals simp_all

@[simp] theorem bindServed_still (s : State) (x1) (x2) (x3) : (bindServed s x1 x2 x3).1.still = s.still := by
  unfold State.bindServed
  repeat' split
  all_goals simp_all

theorem bindServed__to {s : State} {x1} {x2} {x3} {r} (h : bindServed s x1 x2 x3 = r) : r.1.still = s.still := h ▸ bindServed_still s x1 x2 x3

@[simp] theorem bindTo_still (s : State) (x1) (x2) : (bindTo s x1 x2).2.2.still = s.still := by
  unfold State.bindTo
  iterate 3 (all_goals (repeat' split); all_goals (try simp_all))
  all_goals (first | done | (have h := bindServed__to (by assumption); simp_all))

theorem bindTo__to {s : State} {x1} {x2} {r} (h : bindTo s x1 x2 = r) : r.2.2.still = s.still := h ▸ bindTo_still s x1 x2

@[simp] theorem cacheTake_still (s : State) (x1) : (cacheTake s x1).still = s.still := by
  unfold State.cacheTake
  iterate 3 (all_goals (repeat' split); all_goals (try simp_all))

@[simp] theorem hbmCause_still (s : State) (x1) (x2) : (hbmCause s x1 x2).still = s.still := by
  unfold State.hbmCause
  repeat' split
  all_goals simp_all

@[simp] theorem hbmCapture_still (s : State) (x1) (x2) (x3) : (hbmCapture s x1 x2 x3).still = s.still := by
  unfold State.hbmCapture
  repeat' split
  all_goals simp_all

@[simp] theorem hbmFixed_still (s : State) (x1) (x2) (x3) : (hbmFixed s x1 x2 x3).still = s.still := by
  unfold State.hbmFixed
  repeat' split
  all_goals simp_all

@[simp] theorem hbmBad_still (s : State) (x1) (x2) : (hbmBad s x1 x2).still = s.still := by
  unfold State.hbmBad
  repeat' split
  all_goals simp_all

@[simp] theorem farFault_still (s : State) (x1) (x2) : (farFault s x1 x2).still = s.still := by
  unfold State.farFault
  repeat' split
  all_goals simp_all

@[simp] theorem reorderBad_still (s : State) (x1) : (reorderBad s x1).still = s.still := by
  unfold State.reorderBad
  repeat' split
  all_goals simp_all

/-! ### Machine/Engines.lean -/

@[simp] theorem hbmAsk_still (s : State) (x1) : (hbmAsk s x1).still = s.still := by
  unfold State.hbmAsk
  repeat' split
  all_goals simp_all

@[simp] theorem park_still (s : State) (x1) (x2) (x3) (x4) (x5) : (park s x1 x2 x3 x4 x5).still = s.still := by
  unfold State.park
  repeat' split
  all_goals simp_all

@[simp] theorem setCtx_still (s : State) (x1) (x2) (x3) : (setCtx s x1 x2 x3).still = s.still := by
  unfold State.setCtx
  repeat' split
  all_goals simp_all

@[simp] theorem dispatchTo_still (s : State) (x1) (x2) (x3) : (dispatchTo s x1 x2 x3).still = s.still := by
  unfold State.dispatchTo
  repeat' split
  all_goals simp_all

@[simp] theorem endProgram_still (s : State) (x1) (x2) (x3) (x4) (x5) (x6) (x7) (x8) (x9) : (endProgram s x1 x2 x3 x4 x5 x6 x7 x8 x9).still = s.still := by
  unfold State.endProgram
  repeat' split
  all_goals simp_all

@[simp] theorem endDrop_still (s : State) (x1) (x2) (x3) (x4) (x5) (x6) (x7) : (endDrop s x1 x2 x3 x4 x5 x6 x7).still = s.still := by
  unfold State.endDrop
  repeat' split
  all_goals simp_all

@[simp] theorem lineCount_still (s : State) (x1) (x2) : (lineCount s x1 x2).still = s.still := by
  unfold State.lineCount
  repeat' split
  all_goals simp_all

@[simp] theorem grantLines_still (s : State) (x1) : (grantLines s x1).2.still = s.still := by
  unfold State.grantLines
  iterate 3 (all_goals (repeat' split); all_goals (try simp_all))

theorem grantLines__to {s : State} {x1} {r} (h : grantLines s x1 = r) : r.2.still = s.still := h ▸ grantLines_still s x1

@[simp] theorem lineChecked_still (s : State) (x1) (x2) (x3) (x4) : (lineChecked s x1 x2 x3 x4).still = s.still := by
  unfold State.lineChecked
  repeat' split
  all_goals simp_all

@[simp] theorem progFault_still (s : State) (x1) (x2) (x3) (x4) (x5) (x6) : (progFault s x1 x2 x3 x4 x5 x6).still = s.still := by
  unfold State.progFault
  repeat' split
  all_goals simp_all

@[simp] theorem ringWrite_still (s : State) : (ringWrite s).still = s.still := by
  unfold State.ringWrite
  iterate 3 (all_goals (repeat' split); all_goals (try simp_all))

/-! ### Machine/Words.lean -/

@[simp] theorem bindFar_still (s : State) (x1) (x2) (x3) (x4) (x5) : (bindFar s x1 x2 x3 x4 x5).still = s.still := by
  unfold State.bindFar
  repeat' split
  all_goals simp_all

@[simp] theorem bound_still (s : State) (x1) (x2) (x3) (x4) (x5) (x6) : (bound s x1 x2 x3 x4 x5 x6).1.still = s.still := by
  unfold State.bound
  repeat' split
  all_goals simp_all

theorem bound__to {s : State} {x1} {x2} {x3} {x4} {x5} {x6} {r} (h : bound s x1 x2 x3 x4 x5 x6 = r) : r.1.still = s.still := h ▸ bound_still s x1 x2 x3 x4 x5 x6

@[simp] theorem farAnswer_still (s : State) (x1) (x2) (x3) (x4) (x5) (x6) : (farAnswer s x1 x2 x3 x4 x5 x6).still = s.still := by
  unfold State.farAnswer
  repeat' split
  all_goals simp_all
  all_goals (first | done | (have h := bindTo__to (by assumption); simp_all) | (have h := bound__to (by assumption); simp_all))

@[simp] theorem resume_still (s : State) (x1) (x2) (x3) (x4) : (resume s x1 x2 x3 x4).still = s.still := by
  unfold State.resume
  repeat' split
  all_goals simp_all

/-! ### Machine/Polders.lean -/

@[simp] theorem pldReadOut_still (s : State) (x1) : (pldReadOut s x1).still = s.still := by
  unfold State.pldReadOut
  repeat' split
  all_goals simp_all

@[simp] theorem pldResult_still (s : State) (x1) : (pldResult s x1).still = s.still := by
  unfold State.pldResult
  repeat' split
  all_goals simp_all

@[simp] theorem storeErr_still (s : State) (x1) (x2) (x3) (x4) : (storeErr s x1 x2 x3 x4).still = s.still := by
  unfold State.storeErr
  repeat' split
  all_goals simp_all

@[simp] theorem updBlock_still (s : State) (x1) (x2) (x3) : (updBlock s x1 x2 x3).still = s.still := by
  unfold State.updBlock
  repeat' split
  all_goals simp_all

@[simp] theorem storeError_still (s : State) (x1) (x2) (x3) : (storeError s x1 x2 x3).still = s.still := by
  unfold State.storeError
  repeat' split
  all_goals simp_all

/-! ### Machine/Channels.lean -/

@[simp] theorem chAccept_still (s : State) (x1) (x2) (x3) (x4) (x5) : (chAccept s x1 x2 x3 x4 x5).still = s.still := by
  unfold State.chAccept
  repeat' split
  all_goals simp_all

@[simp] theorem chRefused_still (s : State) : (chRefused s).still = s.still := by
  unfold State.chRefused
  repeat' split
  all_goals simp_all

@[simp] theorem chBegin_still (s : State) (x1) : (chBegin s x1).still = s.still := by
  unfold State.chBegin
  repeat' split
  all_goals simp_all

@[simp] theorem chCommand_still (s : State) (x1) (x2) : (chCommand s x1 x2).still = s.still := by
  unfold State.chCommand
  repeat' split
  all_goals simp_all

@[simp] theorem chReadFault_still (s : State) (x1) (x2) : (chReadFault s x1 x2).still = s.still := by
  unfold State.chReadFault
  repeat' split
  all_goals simp_all

@[simp] theorem destroyAt_still (s : State) (x1) (x2) (x3) : (destroyAt s x1 x2 x3).still = s.still := by
  unfold State.destroyAt
  repeat' split
  all_goals simp_all

@[simp] theorem notePop_still (s : State) : (notePop s).still = s.still := by
  unfold State.notePop
  repeat' split
  all_goals simp_all

@[simp] theorem releaseKey_still (s : State) (x1) (x2) (x3) : (releaseKey s x1 x2 x3).still = s.still := by
  unfold State.releaseKey
  iterate 3 (all_goals (repeat' split); all_goals (try simp_all))

@[simp] theorem stopChannels_still (s : State) (x1) : (stopChannels s x1).still = s.still := by
  unfold State.stopChannels
  have h : ∀ (far : Bool) (t : State) (e : Nat × ChIndex), (match e.2.body with
      | none => t
      | some r =>
        let h := Handle.mk far e.1 e.2.gen
        let f := t.stopRecord h r x1
        if f.body = r then t else t.chEffect h f).still = t.still := by
    intro far t e
    split
    · rfl
    · dsimp only
      split <;> simp
  exact (still_foldl (h true) _ _).trans (still_foldl (h false) _ _)

/-! ### Machine/Cipher.lean -/

@[simp] theorem assocCell_still (s : State) (x1) : (assocCell s x1).still = s.still := by
  unfold State.assocCell
  repeat' split
  all_goals simp_all

@[simp] theorem beginCipher_still (s : State) (x1) (x2) (x3) (x4) : (beginCipher s x1 x2 x3 x4).still = s.still := by
  unfold State.beginCipher
  repeat' split
  all_goals simp_all

@[simp] theorem correct_still (s : State) (x1) (x2) : (correct s x1 x2).2.still = s.still := by
  unfold State.correct
  iterate 3 (all_goals (repeat' split); all_goals (try simp_all))

theorem correct__to {s : State} {x1} {x2} {r} (h : correct s x1 x2 = r) : r.2.still = s.still := h ▸ correct_still s x1 x2

@[simp] theorem countRound_still (s : State) : (countRound s).still = s.still := by
  unfold State.countRound
  repeat' split
  all_goals simp_all
  all_goals (first | done | (have h := fresh__to (by assumption); simp_all))

@[simp] theorem countSealed_still (s : State) (x1) (x2) (x3) : (countSealed s x1 x2 x3).still = s.still := by
  unfold State.countSealed
  iterate 3 (all_goals (repeat' split); all_goals (try simp_all))

@[simp] theorem decideDestroyed_still (s : State) (x1) : (decideDestroyed s x1).2.still = s.still := by
  unfold State.decideDestroyed
  repeat' split
  all_goals simp_all

theorem decideDestroyed__to {s : State} {x1} {r} (h : decideDestroyed s x1 = r) : r.2.still = s.still := h ▸ decideDestroyed_still s x1

@[simp] theorem decideFrame_still (s : State) (x1) (x2) : (decideFrame s x1 x2).2.still = s.still := by
  unfold State.decideFrame
  iterate 3 (all_goals (repeat' split); all_goals (try simp_all))
  all_goals (first | done | (have h := decideDestroyed__to (by assumption); simp_all))

theorem decideFrame__to {s : State} {x1} {x2} {r} (h : decideFrame s x1 x2 = r) : r.2.still = s.still := h ▸ decideFrame_still s x1 x2

@[simp] theorem deliverRx_still (s : State) (x1) (x2) (x3) : (deliverRx s x1 x2 x3).still = s.still := by
  unfold State.deliverRx
  repeat' split
  all_goals simp_all

@[simp] theorem gone_still (s : State) (x1) (x2) : (gone s x1 x2).still = s.still := by
  unfold State.gone
  repeat' split
  all_goals simp_all

@[simp] theorem tsDeparted_still (s : State) (x1) (x2) : (tsDeparted s x1 x2).still = s.still := by
  unfold State.tsDeparted
  repeat' split
  all_goals simp_all

@[simp] theorem etherOut_still (s : State) (x1) (x2) (x3) (x4) : (etherOut s x1 x2 x3 x4).still = s.still := by
  unfold State.etherOut
  repeat' split
  all_goals simp_all

@[simp] theorem departDec_still (s : State) (x1) (x2) (x3) : (departDec s x1 x2 x3).still = s.still := by
  unfold State.departDec
  repeat' split
  all_goals simp_all
  all_goals (first | done | (have h := correct__to (by assumption); simp_all))

@[simp] theorem sealOut_still (s : State) (x1) (x2) : (sealOut s x1 x2).2.2.still = s.still := by
  unfold State.sealOut
  iterate 3 (all_goals (repeat' split); all_goals (try simp_all))
  all_goals (first | done | (have h := correct__to (by assumption); simp_all))

theorem sealOut__to {s : State} {x1} {x2} {r} (h : sealOut s x1 x2 = r) : r.2.2.still = s.still := h ▸ sealOut_still s x1 x2

@[simp] theorem usedSlots_still (s : State) (x1) (x2) : (usedSlots s x1 x2).still = s.still := by
  unfold State.usedSlots
  repeat' split
  all_goals simp_all

@[simp] theorem trunkSend_still (s : State) (x1) (x2) (x3) (x4) : (trunkSend s x1 x2 x3 x4).still = s.still := by
  unfold State.trunkSend
  repeat' split
  all_goals simp_all

@[simp] theorem departEnc_still (s : State) (x1) (x2) (x3) : (departEnc s x1 x2 x3).still = s.still := by
  unfold State.departEnc
  iterate 3 (all_goals (repeat' split); all_goals (try simp_all))
  all_goals (first | done | (have h := sealOut__to (by assumption); simp_all))

@[simp] theorem dropDecided_still (s : State) (x1) (x2) : (dropDecided s x1 x2).still = s.still := by
  unfold State.dropDecided
  repeat' split
  all_goals simp_all

@[simp] theorem pipeError_still (s : State) (x1) (x2) : (pipeError s x1 x2).still = s.still := by
  unfold State.pipeError
  repeat' split
  all_goals simp_all

@[simp] theorem wakeFail_still (s : State) (x1) : (wakeFail s x1).still = s.still := by
  unfold State.wakeFail
  repeat' split
  all_goals simp_all

@[simp] theorem groupWoken_still (s : State) (x1) (x2) : (groupWoken s x1 x2).still = s.still := by
  unfold State.groupWoken
  repeat' split
  all_goals simp_all

@[simp] theorem inject_still (s : State) (x1) (x2) (x3) : (inject s x1 x2 x3).still = s.still := by
  unfold State.inject
  repeat' split
  all_goals simp_all

@[simp] theorem sendOn_still (s : State) (x1) (x2) (x3) (x4) : (sendOn s x1 x2 x3 x4).still = s.still := by
  unfold State.sendOn
  repeat' split
  all_goals simp_all

@[simp] theorem leaveEngine_still (s : State) (x1) (x2) (x3) : (leaveEngine s x1 x2 x3).still = s.still := by
  unfold State.leaveEngine
  repeat' split
  all_goals simp_all

@[simp] theorem roundBoundary_still (s : State) : (roundBoundary s).still = s.still := by
  unfold State.roundBoundary
  repeat' split
  all_goals simp_all

@[simp] theorem rxDecide_still (s : State) (x1) (x2) (x3) : (rxDecide s x1 x2 x3).still = s.still := by
  unfold State.rxDecide
  iterate 3 (all_goals (repeat' split); all_goals (try simp_all))
  all_goals (first | done | (have h := decideFrame__to (by assumption); simp_all) | (have h := correct__to (by assumption); simp_all))

@[simp] theorem spendRest_still (s : State) (x1) (x2) : (spendRest s x1 x2).still = s.still := by
  unfold State.spendRest
  repeat' split
  all_goals simp_all

@[simp] theorem testResult_still (s : State) (x1) : (testResult s x1).still = s.still := by
  unfold State.testResult
  repeat' split
  all_goals simp_all

@[simp] theorem testDone_still (s : State) (x1) : (testDone s x1).still = s.still := by
  unfold State.testDone
  repeat' split
  all_goals simp_all

@[simp] theorem writeBack_still (s : State) (x1) : (writeBack s x1).still = s.still := by
  unfold State.writeBack
  iterate 3 (all_goals (repeat' split); all_goals (try simp_all))

/-! ### Machine/KeyUnit.lean -/

theorem inTurn_still {α : Type} (f : α → State → α × State) (h : ∀ a t, (f a t).2.still = t.still) (l : List α) (s : State) :
    (inTurn f l s).2.still = s.still := by
  induction l generalizing s with
  | nil => rfl
  | cons a r ih => exact (ih _).trans (h a s)

@[simp] theorem keyAborted_still (s : State) (x1) (x2) : (keyAborted s x1 x2).still = s.still := by
  unfold State.keyAborted
  repeat' split
  all_goals simp_all

@[simp] theorem keyRefused_still (s : State) : (keyRefused s).still = s.still := by
  unfold State.keyRefused
  repeat' split
  all_goals simp_all

@[simp] theorem keyResult_still (s : State) (x1) : (keyResult s x1).still = s.still := by
  unfold State.keyResult
  repeat' split
  all_goals simp_all

@[simp] theorem slotSnapshot_still (s : State) (x1) : (slotSnapshot s x1).still = s.still := by
  unfold State.slotSnapshot
  repeat' split
  all_goals simp_all

/-! ### Machine/Tamper.lean -/

@[simp] theorem destroyAll_still (s : State) : (destroyAll s).still = s.still := by
  unfold State.destroyAll
  refine (still_foldl (fun t e => ?_) _ _).trans (still_foldl (fun t e => ?_) _ _) <;> split <;> simp

@[simp] theorem levCause_still (s : State) (x1) (x2) (x3) : (levCause s x1 x2 x3).still = s.still := by
  unfold State.levCause
  repeat' split
  all_goals simp_all

@[simp] theorem stopCipher_still (s : State) : (stopCipher s).still = s.still := by
  unfold State.stopCipher
  repeat' split
  all_goals simp_all

@[simp] theorem unlResult_still (s : State) (x1) : (unlResult s x1).still = s.still := by
  unfold State.unlResult
  repeat' split
  all_goals simp_all

/-! ### Machine/HbmUnit.lean -/

@[simp] theorem discardRing_still (s : State) (x1) : (discardRing s x1).still = s.still := by
  unfold State.discardRing
  repeat' split
  all_goals simp_all

@[simp] theorem scrubBad_still (s : State) (x1) : (scrubBad s x1).still = s.still := by
  unfold State.scrubBad
  repeat' split
  all_goals simp_all

@[simp] theorem scrub_still (s : State) (x1) (x2) (x3) : (scrub s x1 x2 x3).still = s.still := by
  unfold State.scrub
  repeat' split
  all_goals simp_all

/-! ### Machine/Events.lean -/

@[simp] theorem ackSource_still (s : State) (x1) : (ackSource s x1).still = s.still := by
  unfold State.ackSource
  repeat' split
  all_goals simp_all

@[simp] theorem goSolo_still (s : State) : (goSolo s).still = s.still := by
  unfold State.goSolo
  repeat' split
  all_goals simp_all

@[simp] theorem histPop_still (s : State) : (histPop s).still = s.still := by
  unfold State.histPop
  repeat' split
  all_goals simp_all

@[simp] theorem msixSend_still (s : State) (x1) : (msixSend s x1).still = s.still := by
  unfold State.msixSend
  repeat' split
  all_goals simp_all

@[simp] theorem restartSteward_still (s : State) : (restartSteward s).still = s.still := by
  unfold State.restartSteward
  repeat' split
  all_goals simp_all

/-! ### Machine/PairLink.lean -/

@[simp] theorem becomeActive_still (s : State) (x1) (x2) : (becomeActive s x1 x2).still = s.still := by
  unfold State.becomeActive
  repeat' split
  all_goals simp_all

@[simp] theorem becomeStandby_still (s : State) (x1) : (becomeStandby s x1).still = s.still := by
  unfold State.becomeStandby
  repeat' split
  all_goals simp_all

@[simp] theorem chooseRole_still (s : State) (x1) : (chooseRole s x1).still = s.still := by
  unfold State.chooseRole
  repeat' split
  all_goals simp_all

@[simp] theorem pairResult_still (s : State) (x1) : (pairResult s x1).still = s.still := by
  unfold State.pairResult
  repeat' split
  all_goals simp_all

@[simp] theorem claimIn_still (s : State) : (claimIn s).still = s.still := by
  have h : ∀ t : State, ((({ t with pp := { t.pp with outputs := false, burgee := false } } : State).controlSend 4 false).becomeStandby 1).still
      = t.still := by
    intro t
    rw [becomeStandby_still, controlSend_still]
    rfl
  have g : (if s.pp.bySwitch then s.pairResult 0 else s).still = s.still := by
    rw [still_ite, pairResult_still, ite_self]
  unfold State.claimIn
  split
  · exact (h _).trans g
  · rfl

@[simp] theorem heard_still (s : State) (x1) : (heard s x1).still = s.still := by
  unfold State.heard
  repeat' split
  all_goals simp_all

@[simp] theorem controlTake_still (s : State) (x1) (x2) (x3) (x4) (hx4 : ∀ t y0, (x4 t y0).still = t.still) : (controlTake s x1 x2 x3 x4).still = s.still := by
  unfold State.controlTake
  repeat' split
  all_goals simp_all [hx4]

@[simp] theorem startYield_still (s : State) (x1) : (startYield s x1).still = s.still := by
  unfold State.startYield
  repeat' split
  all_goals simp_all

@[simp] theorem health_still (s : State) (x1) : (health s x1).still = s.still := by
  unfold State.health
  repeat' split
  all_goals simp_all

@[simp] theorem receive_still (s : State) (x1) (x2) (x3) (x4) (hx4 : ∀ t y0, (x4 t y0).still = t.still) : (receive s x1 x2 x3 x4).still = s.still := by
  unfold State.receive
  repeat' split
  all_goals simp_all [hx4]
  all_goals (first | done | (have h := takePassed_still _ _ _ _ (by assumption); simp_all))

@[simp] theorem switch_still (s : State) : (switch s).still = s.still := by
  unfold State.switch
  repeat' split
  all_goals simp_all

@[simp] theorem yieldIn_still (s : State) (x1) : (yieldIn s x1).still = s.still := by
  unfold State.yieldIn
  repeat' split
  all_goals simp_all

/-! ### Machine/LiveChange.lean -/

@[simp] theorem resync_still (s : State) (x1) (x2) (x3) : (resync s x1 x2 x3).still = s.still := by
  unfold State.resync
  iterate 3 (all_goals (repeat' split); all_goals (try simp_all))
  all_goals (iterate 2 first | refine (still_foldl (fun t x => ?_) _ _).trans ?_ | refine (still_foldl_snd (fun t x => ?_) _ _).trans ?_ | skip)
  iterate 3 (all_goals (repeat' split); all_goals (try simp_all))

@[simp] theorem selectCounter_still (s : State) (x1) (x2) : (selectCounter s x1 x2).still = s.still := by
  unfold State.selectCounter
  split <;> rfl

/-! ### Machine/Mailbox.lean -/

@[simp] theorem flashError_still (s : State) : (flashError s).2.2.still = s.still := by
  unfold State.flashError
  repeat' split
  all_goals simp_all

theorem flashError__to {s : State}  {r} (h : flashError s = r) : r.2.2.still = s.still := h ▸ flashError_still s

@[simp] theorem flashRead_still (x0) (s : State) : (flashRead x0 s).2.2.still = s.still := by
  unfold State.flashRead
  iterate 3 (all_goals (repeat' split); all_goals (try simp_all))

theorem flashRead__to {s : State} {x0} {r} (h : flashRead x0 s = r) : r.2.2.still = s.still := h ▸ flashRead_still x0 s

@[simp] theorem mbxAttestOf_still (x0) (s : State) : (mbxAttestOf x0 s).2.2.still = s.still := by
  unfold State.mbxAttestOf
  repeat' split
  all_goals simp_all

theorem mbxAttestOf__to {s : State} {x0} {r} (h : mbxAttestOf x0 s = r) : r.2.2.still = s.still := h ▸ mbxAttestOf_still x0 s

/-! ### Machine/Perf.lean -/

@[simp] theorem pmuClear_still (s : State) : (pmuClear s).still = s.still := by
  unfold State.pmuClear
  repeat' split
  all_goals simp_all

@[simp] theorem ringBad_still (s : State) : (ringBad s).still = s.still := by
  unfold State.ringBad
  repeat' split
  all_goals simp_all

@[simp] theorem ringData_still (s : State) (x1) : (ringData s x1).still = s.still := by
  unfold State.ringData
  repeat' split
  all_goals simp_all

@[simp] theorem ringFresh_still (s : State) : (ringFresh s).still = s.still := by
  unfold State.ringFresh
  repeat' split
  all_goals simp_all

/-! ### Machine/Service.lean -/

@[simp] theorem endTest_still (s : State) (x1) : (endTest s x1).still = s.still := by
  unfold State.endTest
  repeat' split
  all_goals simp_all

@[simp] theorem recalLane_still (s : State) (x1) : (recalLane s x1).still = s.still := by
  unfold State.recalLane
  repeat' split
  all_goals simp_all

@[simp] theorem retireEngine_still (s : State) (x1) : (retireEngine s x1).still = s.still := by
  unfold State.retireEngine
  repeat' split
  all_goals simp_all

@[simp] theorem retirePort_still (s : State) (x1) (x2) : (retirePort s x1 x2).still = s.still := by
  unfold State.retirePort
  repeat' split
  all_goals simp_all

@[simp] theorem retirePair_still (s : State) (x1) : (retirePair s x1).still = s.still := by
  unfold State.retirePair
  repeat' split
  all_goals simp_all

@[simp] theorem retirePipes_still (s : State) (x1) (x2) : (retirePipes s x1 x2).still = s.still := by
  unfold State.retirePipes
  repeat' split
  all_goals simp_all

@[simp] theorem retirePolder_still (s : State) (x1) : (retirePolder s x1).still = s.still := by
  unfold State.retirePolder
  repeat' split
  all_goals simp_all

@[simp] theorem retireUnit_still (s : State) (x1) : (retireUnit s x1).still = s.still := by
  unfold State.retireUnit
  repeat' split
  all_goals simp_all

@[simp] theorem wakeLane_still (s : State) (x1) (x2) : (wakeLane s x1 x2).still = s.still := by
  unfold State.wakeLane
  repeat' split
  all_goals simp_all

@[simp] theorem returnPort_still (s : State) (x1) (x2) : (returnPort s x1 x2).still = s.still := by
  unfold State.returnPort
  repeat' split
  all_goals simp_all

@[simp] theorem returnLane_still (s : State) (x1) (x2) : (returnLane s x1 x2).still = s.still := by
  unfold State.returnLane
  iterate 3 (all_goals (repeat' split); all_goals (try simp_all))

@[simp] theorem returnPair_still (s : State) (x1) (x2) : (returnPair s x1 x2).still = s.still := by
  unfold State.returnPair
  repeat' split
  all_goals simp_all

@[simp] theorem returnPipes_still (s : State) (x1) : (returnPipes s x1).still = s.still := by
  unfold State.returnPipes
  repeat' split
  all_goals simp_all

@[simp] theorem returnPolder_still (s : State) (x1) : (returnPolder s x1).still = s.still := by
  unfold State.returnPolder
  repeat' split
  all_goals simp_all

@[simp] theorem unitRecal_still (x0) (s : State) : (unitRecal x0 s).2.2.still = s.still := by
  unfold State.unitRecal
  repeat' split
  all_goals simp_all

theorem unitRecal__to {s : State} {x0} {r} (h : unitRecal x0 s = r) : r.2.2.still = s.still := h ▸ unitRecal_still x0 s

@[simp] theorem unitRetire_still (x0) (s : State) : (unitRetire x0 s).2.2.still = s.still := by
  unfold State.unitRetire
  repeat' split
  all_goals simp_all

theorem unitRetire__to {s : State} {x0} {r} (h : unitRetire x0 s = r) : r.2.2.still = s.still := h ▸ unitRetire_still x0 s

/-! ### Machine/Update.lean -/

theorem still_bindfold {β : Type} {g : State → β → Option State} (h : ∀ t x r, g t x = some r → r.still = t.still) (l : List β) (s t : State)
    (e : l.foldl (fun acc x => acc.bind (fun u => g u x)) (some s) = some t) : t.still = s.still :=
  still_foldl_opt (fun _ => rfl) (fun t x r e => h t x r e) l s t e

theorem mergePrograms_still (s : State) (x1) (x2) : ∀ t, mergePrograms s x1 x2 = some t → t.still = s.still := by
  intro t h
  unfold State.mergePrograms at h
  refine still_bindfold (fun t x r e => ?_) _ _ _ h
  split at e
  · cases e; rfl
  · obtain ⟨u, _, rfl⟩ := Option.map_eq_some_iff.1 e
    exact setPolder_still _ _ _

@[simp] theorem retable_still (s : State) (x1) (x2) : (retable s x1 x2).still = s.still := by
  unfold State.retable
  repeat' split
  all_goals simp_all

@[simp] theorem seedAge_still (s : State) (x1) (x2) : (seedAge s x1 x2).still = s.still := by
  unfold State.seedAge
  repeat' split
  all_goals simp_all

@[simp] theorem stepFirmware_still (s : State) (x1) : (stepFirmware s x1).still = s.still := by
  unfold State.stepFirmware
  repeat' split
  all_goals simp_all

@[simp] theorem stepTime_still (s : State) (x1) : (stepTime s x1).still = s.still := by
  unfold State.stepTime
  repeat' split
  all_goals simp_all

@[simp] theorem stopPairs_still (s : State) (x1) : (stopPairs s x1).still = s.still := by
  unfold State.stopPairs
  repeat' split
  all_goals simp_all

/-! ### Machine/Manage.lean -/

@[simp] theorem clearPending_still (s : State) (x1) (x2) : (clearPending s x1 x2).still = s.still := by
  unfold State.clearPending
  repeat' split
  all_goals simp_all

@[simp] theorem i2cBad_still (s : State) : (i2cBad s).still = s.still := by
  unfold State.i2cBad
  repeat' split
  all_goals simp_all

@[simp] theorem onBit_still (s : State) (x1) (x2) (x3) (hx3 : ∀ t, (x3 t).still = t.still) : (onBit s x1 x2 x3).still = s.still := by
  unfold State.onBit
  repeat' split
  all_goals simp_all [hx3]

end Sys2Proof.Machine.State
end

