-- ==== Sys2Proof/Tests/Slice0.lean ====
section
/-! SUPPORT. Tests: ill-formed commands refused by the check, examples of the spec, and for every statement
with hypotheses a state that meets them. -/

namespace Sys2Proof.Tests

open Sys2Proof Sys2Proof.Machine Sys2Proof.Bits

/-- A module in RUN under a running clock. -/
def run0 : State := { State.reset with clockOn := true, boot := { State.reset.boot with state := .run } }

/-- A module in RUN with both feeds present and a shed level in force. -/
def fed0 : State :=
  { run0 with pwr := { run0.pwr with
      feedA := { run0.pwr.feedA with present := true, voltage := 750 }
      feedB := { run0.pwr.feedB with present := true, voltage := 750 }
      level := some 1, shedTo := some 2, wait0 := some 0, sysOk := true } }

/-- The same with the side references running. -/
def refs : State := { fed0 with pwr := { fed0.pwr with hostRef := true, lineRef := true } }

/-- A module in a state of bring-up, fed and with its system reference. -/
def boot (st : BootState) : State :=
  { State.reset with clockOn := true, pwr := fed0.pwr, boot := { State.reset.boot with state := st } }

/-- A lane in a stage, with the training protocol. -/
def laneIn (st : Stage) : Lane := { Lane.reset with stage := st, present := true, training := true, held := false }

/-- A module in RUN whose pair 0 is a trunk pair, with lanes 0 and 32 in a stage. -/
def lanes (st : Stage) : State := ((refs.setPair 0 { Pair.reset with mode := .trunk, width := 1 }).setLane 0 (laneIn st)).setLane 32 (laneIn st)

/-- The same with a capability word gathered on lane 32. -/
def gathered : State :=
  (lanes .exchange).setLane 32 { laneIn .exchange with
    rx := { (laneIn .exchange).rx with capBytes := beBytes 8 (pack [(1, 56, 8), (7, 40, 16), (1, 28, 4), (1, 27, 1)]) } }

/-- A trunk lane in TRAIN with a block of SEQ 5 waiting. -/
def queued : State := (lanes .train).setLane 32 { laneIn .train with tx := { (laneIn .train).tx with queue := [(5, [])] } }

/-- A trunk lane in word lock. -/
def slipped : State := (lanes .active).setLane 32 { laneIn .active with wordLock := true }

/-- A module in RUN whose vault holds a root, so that its registers answer. -/
def open0 (s : State) : State := { s with lev := { s.lev with root := some { share := zeros 32, mask := zeros 32, check := zeros 8 }, bad := false } }

/-- A module in RUN with a pair in line mode whose ports are up, its CURRENT slot named. -/
def etherUp : State :=
  (((((refs.setPair 0 { Pair.reset with mode := .line, width := 1, maxFrame := 1518 }).setLane 0 (laneIn .active)).setLane 32 (laneIn .active)).setPort false 0
    { Port.reset with pcsLock := true, fecLock := true, active := true })).setPort true 0 { Port.reset with pcsLock := true, fecLock := true, active := true }

/-- A module in RUN with a trunk pair whose framer is in SYNC and has passed a frame on. -/
def trunkUp : State :=
  (lanes .active).setFramer 0 { Framer.reset with sync := .sync, aligned := true, off := 6, rx := zeros 6, passed := [(false, 0, 0 :: 16 :: 16 :: zeros 19)] }

/-- An Ethernet frame that is arriving, number 0. -/
def arriving0 (n : Nat) : State := { etherUp with frames := [(0, etherUp.arriving 0 false (zeros n) none 0 0)], nextFrame := 1 }

/-- A framer of a trunk pair in a state, with bytes in its stream. -/
def framing (y : SyncState) (off : Nat) (rx : Bytes) : State :=
  (lanes .active).setFramer 0 { Framer.reset with sync := y, aligned := true, off := off, rx := rx }

/-- A framer in PRESYNC with a forced hunt waiting. -/
def forced : State := (framing .presync 6 (zeros 6)).setFramer 0 { (framing .presync 6 (zeros 6)).framer 0 with force := true }

/-- A module in RUN with a frame that arrives at a locked port. -/
def handing : State := arriving0 64

/-- A word in block 0 of every ensign, at address 0 of polder 0. -/
def polderWith (w : BitVec 64) : Polder :=
  { Polder.reset with state := .awake, blocks := [(0, { slots := 15, bounded := true, faulty := false, words := [(0, w)] })] }

/-- A context of frame 0 at word 0, bounded, in a tunnel pair's encrypt direction. -/
def ctx0 : Ctx :=
  { frame := 0, cond := .running, bytes := zeros 384, regs := [], z := false, c := false, s := false, h := false, pc := 0, tags := [],
    executed := 0, bounded := true, hbm := 0, lrn := 0, bindDone := false, bindcDone := false, nearBound := false, parkAt := 0, parked := 0,
    age := 0, readyAt := 0, waitTag := none, settled := none }

/-- A module whose engine 0 executes a word for frame 0. -/
def engaged (w : BitVec 64) : State :=
  ((arriving0 64).setPolder 0 (polderWith w)).setEngine 0 { ctxs := [(0, ctx0)], idleSince := 0 }

/-- An opcode in its place. -/
def opc (o : Nat) : BitVec 64 := BitVec.ofNat 64 (o * 2 ^ 58)

/-- Frame 0 of `engaged`. -/
def frame0 : Frame := etherUp.arriving 0 false (zeros 64) none 0 0

/-- What `State.Runs` says, as one decidable statement. -/
def runsB (s : State) (e op k : Nat) (c : Ctx) (f : Frame) (w : BitVec 64) : Bool :=
  decide (s.running? e = some (k, c)) && decide (s.frame c.frame = some f) && decide (c.executed < 120) &&
    decide (s.fetchFault e c = none) && decide ((s.polder (e / 32)).word c.pc = w) && decide (AWord.op w = op)

theorem runs_of_b {s : State} {e op k : Nat} {c : Ctx} {f : Frame} {w : BitVec 64} (h : runsB s e op k c f w = true) : s.Runs e op k c f w := by
  simp only [runsB, Bool.and_eq_true, decide_eq_true_eq] at h
  obtain ⟨⟨⟨⟨⟨a, b⟩, c⟩, d⟩, e⟩, f⟩ := h
  exact ⟨a, b, c, d, e, f⟩

/-- Context 0 with its budget used, or none running. -/
def spent : State := (engaged (opc 0)).setEngine 0 { ctxs := [(0, { ctx0 with executed := 120 })], idleSince := 0 }

/-- Frame 0 handed on, and an awake polder. -/
def handed0 : State := ((arriving0 64).setPolder 0 (polderWith 0)).setFrame 0 { frame0 with stage := .handed }

/-- A lookup in flight of a parked context. -/
def looked : State :=
  let s := (engaged 0).setEngine 0 { ctxs := [(0, { ctx0 with cond := .parked, waitTag := some 0, tags := [(0, { table := 0, hbm := true, issued := 0, result := none, key := [] })] })], idleSince := 0 }
  { s with hbm := { s.hbm with st := .active, reqs := [{ client := 0, age := 0, cycle := 0, engine := 0, ctx := 0, tag := some 0, granted := true, out := none, read := none }] } }

/-- A context of engine 0 in a condition. -/
def waiting0 (c : CtxCond) : State := (engaged 0).setEngine 0 { ctxs := [(0, { ctx0 with cond := c })], idleSince := 0 }

/-- Frame 0 in a stage with a verdict. -/
def staged (st : FrStage) (v : Verdict) : State := (arriving0 64).setFrame 0 { frame0 with stage := st, verdict := some v, rx := .good }

/-- A binding to near channel 0. -/
def bind0 : Binding :=
  { handle := 2 ^ 29, an := 0, keyGen := 0, pn := 1, suite := 0, mode := 1, conf := true, offset := 0, sci := 0, trunkChannel := 0 }

/-- Frame 0 of the decrypt direction, received whole, in a stage with a verdict. -/
def undone (st : FrStage) (o : Option CipherOut) : State :=
  (arriving0 64).setFrame 0 { frame0 with dec := true, stage := st, verdict := some .decrypt, rx := .good, bind := some bind0, out := o }

/-- A user test of pipe 0. -/
def testing : State :=
  { run0 with cph := { run0.cph with test := some { pipe := 0, key256 := false, dec := false, key := zeros 16, iv := zeros 12, aad := [], text := [], tag := zeros 16 } } }

/-- An access to the program store in progress. -/
def accessing : State := { run0 with pldAcc := some { cmd := 1, all := false, polder := 0, block := 0, word := 0, data := 0 } }

/-- Table 0 defined, and a command to it in progress. -/
def tabled : State :=
  let t : LkTable := { kind := 0, place := 0, keywords := 1, datawords := 1, learn := 0, blog2 := 2, rbits := 0, kbits := 0, lengths := [], seq := 0, exact := [], lpm := [], filter := [], prefixes := [] }
  { run0 with lkp := { run0.lkp with tables := [(0, t)], cmd := some { cmd := 2, static := true, target := 0, way := 0, probe := 0, table := 0, index := 0, data := zeros 64 } } }

/-- A channel command of a code on handle 0x40000000 in progress, given by the steward. -/
def chanCmd (code : Nat) : State :=
  { run0 with chn := { run0.chn with cmds := [{ code := code, host := false, handle := 2 ^ 30, arg := 0, data := [], domOk := false, domGen := 0 }] } }

/-- A domain command of a code in progress, given by the steward. -/
def keyCmd0 (code : Nat) : State :=
  { run0 with key := { run0.key with cmds := [{ code := code, host := false, slot := 0, parent := 1, usage := 0, data := [], parentGen := 0, parentDepth := 0, refused := none, att := none }] } }

/-- A command of the levee in progress. -/
def levBusy : State := { run0 with lev := { run0.lev with cmd := some 1 } }

/-- A response being checked. -/
def checked : State := { run0 with lev := { run0.lev with checking := some (zeros 48) } }

/-- A module whose boot flash holds its canonical form. -/
def flashed : State := { open0 run0 with flash := [(4, 0)] }

/-- The state after reset with a C4 fault latched and a command waiting. -/
def halted0 (c : Instr) : State := { State.reset with pending := [c], evt := { State.reset.evt with c4 := some 228 } }

/-- Ill-formed commands, which the check refuses. -/
theorem test_ill_formed_0 : ([.feedSample 4096 0 0 0, .feedSample 0 4096 0 0, .feedSample 0 0 256 0, .feedSample 0 0 0 256, .fomWindow 0 ⟨9, 0, 0, 8⟩ false, .fomWindow 0 ⟨0, 0, 9, 8⟩ false, .fomUpdate 0 ⟨0, 9, 0, 8⟩, .markerReceived 0 [] 33, .laneCalMeasureDone 0 (2 ^ 32) 0 true, .laneCalMeasureDone 0 0 (2 ^ 32) true, .laneCalTempUpdate 0 (2 ^ 32) 0, .laneCalTempUpdate 0 0 (2 ^ 32)] : List Instr).all (fun c => !c.wf) = true := by decide

/-- Ill-formed commands, which the check refuses. -/
theorem test_ill_formed_1 : ([.frameArrival 0 false 52429 0 [], .markerSend 0 52429, .counterLoRead .pf0 4, .counterLoRead .pf0 (2 ^ 26), .clsScrubVisit 0 0 16384 .none, .agerBucketVisit 0 262144, .indexRelease false 65536, .indexRelease true (2 ^ 24), .invalidationSweepVisit false 65536, .invalidationSweepVisit true (2 ^ 24), .stewardInject 0 false [], .pipeCheckError 0 false [1, 1]] : List Instr).all (fun c => !c.wf) = true := by decide

/-- Ill-formed commands, which the check refuses. -/
theorem test_ill_formed_2 : ([.captureEdge 0 true 52429, .hbmScrubLine 0x2A40000 .none false, .stackHot 85, .stackHot 256, .resyncDone 8 0 [1, 1], .registerWrite .pf0 2 15 0, .registerWrite .pf0 0x4000000 15 0, .registerWrite .pf0Bar2 0x4000 15 0, .registerWrite .pf1 0x0DFFFFC 15 0, .registerWrite .pf1 0x0E10000 15 0, .observerAccess 2 false 0, .observerAccess 0x10000 false 0] : List Instr).all (fun c => !c.wf) = true := by decide

/-- Ill-formed commands, which the check refuses. -/
theorem test_ill_formed_3 : ([.pcieConfigRequest false false 2 0 15, .pcieConfigRequest false false 4096 0 15, .i2cRead (2 ^ 32) 1, .i2cRead 0 256, .i2cWrite (2 ^ 32) 0, .stackHotEnd 86, .registerRead .i2c 2, .registerRead .steward 0x4000000] : List Instr).all (fun c => !c.wf) = true := by decide

/-- Byte strings too long for their commands are refused by the check, and there are such strings of every length. -/
theorem test_too_long (b : Bytes) :
    (1024 ≤ b.length → (Instr.healthRx 0 b).wf = false ∧ (Instr.renewRx 0 b).wf = false ∧ (Instr.yieldRx 0 b).wf = false ∧ (Instr.claimRx 0 b).wf = false ∧
      (Instr.stoppedRx 0 b).wf = false ∧ (Instr.monitorRx 0 b).wf = false) ∧
    (16385 ≤ b.length → (Instr.trunkHeaderCheck 0 b).wf = false) ∧ (65536 ≤ b.length → (Instr.i2cMbxSend b).wf = false) ∧
    ∀ n, (List.replicate n (0 : Byte)).length = n := by
  simp [Instr.wf]
  omega

/-- No row of the table gives bits, so no word spells a command. -/
theorem test_no_word_spells (n w : Nat) : decodeTableWord n w = none := rfl

/-- 19 R635, the example: IDN_ID and IDN_STATUS of a running module read by I2C. -/
theorem test_i2c_reads_identity :
    (match exec (.i2cRead 0 2) { open0 run0 with stw := { run0.stw with up := true } } with
     | .next t => some (t.bus.status, t.bus.bytes)
     | _ => none) = some (0, [0x06, 0x43, 0x2F, 0x47, 0x48, 0, 0, 0]) := by decide

/-- TRK_CIRC_CFG of circuit 677 while it is enabled, as in the example of 17. -/
def circuit677 : State := (open0 (lanes .active)).setReg 0x0512A50 0x8C200408

/-- 17, step 5 of the example: a changed DEPTH of an enabled circuit is refused and captured. -/
theorem test_stop_field_keeps_its_value :
    (match exec (.registerWrite .pf0 0x0512A50 15 0x8C200410) circuit677 with
     | .next t => some (t.reg 0x0512A50, t.reg Reg.idnStopRefused)
     | _ => none) = some (0x8C200408, 0x80512A50) := by decide

/-- 17, steps 1 to 3 of the example: under HOLD the written TRK_CONFIG reads back and is not in force. -/
theorem test_hold_keeps_the_value_in_force :
    (match exec (.registerWrite .pf0 0x0500004 15 0x65) (((open0 (lanes .active)).setReg Reg.idnApply 1).setReg 0x0500004 0x43) with
     | .next t => some (t.regValue 0x0500004, t.inForce 0x0500004)
     | _ => none) = some (0x65, 0x43) := by decide

/-- 00 R15: a W1C field is cleared where a 1 is written and kept elsewhere. -/
theorem test_w1c_clears :
    (match exec (.registerWrite .pf0 Reg.wrdEvent 15 0x101) ((open0 run0).setReg Reg.wrdEvent 0x30F) with
     | .next t => some (t.reg Reg.wrdEvent)
     | _ => none) = some 0x20E := by decide

/-- 03 R91: a register of another block does not answer before RUN. -/
theorem test_no_answer_before_run :
    (match exec (.registerRead .pf0 Reg.timCtr) (boot .leveeCheck) with
     | .next t => some (t.bus.rdata, t.regField Reg.idnStatus 31 1)
     | _ => none) = some (0xFFFFFFFF, 1) := by decide

/-- 16 R565: an entry leaves the history queue with its fields in place. -/
theorem test_history_entry :
    (match exec .evtHistPop { open0 run0 with evt := { run0.evt with hist := [{ seq := 7, source := 227, cause := 3, cls := 3, escalated := true, held := false, overflow := false, repeats := 2, time := 2 ^ 32 + 5 }] } } with
     | .next t => some (t.words Reg.evtHistData 4)
     | _ => none) = some [7, 0x020B03E3, 5, 1] := by decide

/-- 16 R564: POR_N keeps a latched C4 fault. -/
theorem test_por_keeps_the_latch :
    (match exec .porNAssert (halted0 .porNAssert) with
     | .next t => some (t.evt.c4, t.faultN)
     | _ => none) = some (some 228, true) := by decide

/-- 19 R622: the identifiers of the two functions. -/
theorem test_configuration_identifiers :
    (fed0.cfgRead false 0, fed0.cfgRead true 0, fed0.cfgRead false 8) = (0x64321F7A, 0x64331F7A, 0x10800000) := by decide

set_option maxRecDepth 100000 in
/-- 06 R208: the core header of LENGTH 18, TYPE 1, AN 2, PAD 4 carries its fields. -/
theorem test_core_header_fields :
    (let h := CipherFn.coreHeader 18 1 2 4
     (Ndoath.len h, Ndoath.typ h, Ndoath.an h, Ndoath.pad h, Ndoath.valid h)) = (18, 1, 2, 4, true) := by decide

set_option maxRecDepth 100000 in
/-- 15 R541: a scrub of a region-2 line concerns the sixteen channels whose tags it holds. -/
theorem test_tags_line : (State.farIn 0x240000100)[15]? = some 31 := rfl

theorem witness_IdleStepPassesOneCycle_1 : State.reset.pending = [] ∧ State.reset.clockOn = false := by decide

theorem witness_IdleStepPassesOneCycle_2 : run0.pending = [] ∧ run0.clockOn = true := by decide

theorem witness_StepRunsTheFrontCommand : ({ State.reset with pending := [Instr.porNAssert] } : State).pending = [Instr.porNAssert] := by decide

theorem witness_CommandsLeaveTheQueue : ∃ t, step ({ State.reset with pending := [.refclkSysRestored, .porNAssert] } : State) = .next t := ⟨_, rfl⟩

theorem witness_FlashKeepsItsForm : ({ State.reset with flash := [(4, 0)], pending := [.refclkSysRestored] } : State).flashOk = true ∧ ∃ t, step ({ State.reset with flash := [(4, 0)], pending := [.refclkSysRestored] } : State) = .next t := ⟨by decide, _, rfl⟩

theorem witness_OnlyFlashCommandsChangeTheFlash : (∀ m ok, Instr.porNAssert ≠ .mbxFlashWrite m ok) ∧ (∀ m ok, Instr.porNAssert ≠ .mbxFlashErase m ok) ∧ ∃ t, exec .porNAssert State.reset = .next t := ⟨fun _ _ h => (by cases h), fun _ _ h => (by cases h), _, rfl⟩

theorem witness_MinimumSecurityVersionNeverFalls : (∃ t, step ({ State.reset with pending := [.porNAssert] } : State) = .next t) ∧ ({ State.reset with boot := { State.reset.boot with state := .enginesLoad } } : State).booting .enginesLoad = true ∧ (∀ bad, Instr.porNAssert ≠ .enginesLoadDone bad) ∧ State.reset.running = false ∧ ∃ t, exec .porNAssert State.reset = .next t := ⟨⟨_, rfl⟩, by decide, fun _ h => (by cases h), by decide, _, rfl⟩

theorem witness_EveryWellFormedCommandCompletes : Instr.wf (.registerWrite .pf0 0x0000000 15 1) = true := by decide

theorem witness_IllFormedAddressesAreTurnedAway_1 : busAddr .pf0 2 = false := by decide

theorem witness_IllFormedAddressesAreTurnedAway_2 : busAddr .pf1 0 = false := by decide

theorem witness_IllFormedAddressesAreTurnedAway_3 : ¬(4096 % 4 = 0 ∧ 4096 < 4096) := by decide

theorem witness_IllFormedAddressesAreTurnedAway_4 : ¬(0x10000 % 4 = 0 ∧ 0x10000 < 0x10000) := by decide

theorem witness_IllFormedAddressesAreTurnedAway_5 : 0x2A40000 ≤ 0x2A40000 := by decide

theorem witness_ResetsStartOver : run0.allows .pf0 Reg.idnControl = true := by decide

theorem witness_FeedsAndShedLevels_1 : (run0.feed .a).present = false ∧ (run0.feed .a).cut = false := by decide

theorem witness_FeedsAndShedLevels_2 : fed0.pwr.feedA.present = true ∧ fed0.pwr.feedB.present = true := by decide

theorem witness_FeedsAndShedLevels_3 : (4095 < 4096 ∧ 255 < 256) ∧ fed0.fed = true ∧ fed0.boot.state ≠ .powerOk ∧ fed0.pwr.level = some 1 := by decide

theorem witness_FeedsAndShedLevels_4 : (fed0.feed .b).present = true := by decide

theorem witness_FeedsAndShedLevels_5 : fed0.pwr.shedTo = some 2 := by decide

theorem witness_FeedsAndShedLevels_6 : fed0.pwr.wait0.isSome = true ∧ fed0.waitOk 0 = true := by decide

theorem witness_FeedsAndShedLevels_7 : run0.allows .pf0 Reg.pwrControl = true := by decide

theorem witness_ReferencesAndRegulators_1 : fed0.pwr.sysOk = true := by decide

theorem witness_ReferencesAndRegulators_2 : State.reset.lanesRun = false := by decide

theorem witness_ReferencesAndRegulators_3 : refs.lanesRun = true ∧ refs.pwr.hostRef = true := by decide

theorem witness_ReferencesAndRegulators_4 : fed0.lanesRun = true ∧ fed0.pwr.hostRef = false := by decide

theorem witness_BringupAdvances_1 : ¬((false = true) ∧ true = true ∧ (boot .powerOk).booting .powerOk = true ∧ (boot .powerOk).fed = true ∧ (boot .powerOk).pwr.sysOk = true ∧ (boot .powerOk).evt.c4 = none) := by decide

theorem witness_BringupAdvances_2 : (boot .powerOk).booting .powerOk = true ∧ (boot .powerOk).fed = true ∧ (boot .powerOk).pwr.sysOk = true ∧ (boot .powerOk).evt.c4 = none := by decide

theorem witness_BringupAdvances_3 : (boot .leveeCheck).booting .leveeCheck = true := by decide

theorem witness_BringupAdvances_4 : (boot .imageFetch).booting .imageFetch = true := by decide

theorem witness_BringupAdvances_5 : (boot .imageFetch).boot.halted = false ∧ 2 ≤ (boot .imageFetch).boot.state.code ∧ (boot .imageFetch).boot.state.code ≤ 7 := by decide

theorem witness_BringupAdvances_6 : (boot .imageAuth).booting .imageAuth = true := by decide

theorem witness_BringupAdvances_7 : (boot .laneBringup).booting .laneBringup = true ∧ (boot .laneBringup).lanesReady = true := by decide

theorem witness_BringupAdvances_8 : (boot .laneBringup).booting .laneBringup = true := by decide

theorem witness_BringupAdvances_9 : (boot .hbmTrain).boot.halted = false ∧ (boot .hbmTrain).boot.state ≠ .powerOk ∧ (boot .hbmTrain).boot.state ≠ .laneBringup ∧ (boot .hbmTrain).boot.state ≠ .run := by decide

theorem witness_RecordsLoadAndRunIsReached_1 : (boot .keyUnseal).booting .keyUnseal = true := by decide

theorem witness_RecordsLoadAndRunIsReached_2 : (boot .hbmTrain).booting .hbmTrain = true := by decide

theorem witness_RecordsLoadAndRunIsReached_3 : (boot .enginesLoad).booting .enginesLoad = true := by decide

theorem witness_LanesWakeTrainAndLock_1 : (lanes .doze).wakeable 0 = true := by decide

theorem witness_LanesWakeTrainAndLock_2 : ((lanes .detect).lane 0).stage = .detect ∧ ((lanes .detect).lane 0).held = false := by decide

theorem witness_LanesWakeTrainAndLock_3 : ((lanes .doze).lane 65).stage = .doze := by decide

theorem witness_LanesWakeTrainAndLock_4 : ((lanes .train).lane 0).stage = .train := by decide

theorem witness_LanesWakeTrainAndLock_5 : (lanes .train).trains 0 = true ∧ ((lanes .train).lane 0).stage = .train := by decide

theorem witness_LanesWakeTrainAndLock_6 : ((lanes .train).lane 32).stage = .train := by decide

theorem witness_LanesWakeTrainAndLock_7 : ((lanes .lock).lane 32).stage = .lock ∧ (lanes .lock).laneTrunk 32 = true := by decide

theorem witness_LanesWakeTrainAndLock_8 : ((lanes .lock).lane 0).stage = .lock := by decide

theorem witness_LanesWakeTrainAndLock_9 : (gathered.lane 32).rx.capBytes.length = 8 ∧ gathered.coded 32 = true := by decide

theorem witness_LanesWakeTrainAndLock_10 : ((lanes .exchange).lane 32).stage = .exchange ∧ ((lanes .exchange).lane 32).rx.mismatch = false := by decide

theorem witness_LanesLeaveActiveAndCarryBlocks_1 : ((lanes .active).lane 0).stage = .active := by decide

theorem witness_LanesLeaveActiveAndCarryBlocks_2 : ((lanes .active).lane 32).stage = .active := by decide

theorem witness_LanesLeaveActiveAndCarryBlocks_3 : ((lanes .active).lane 32).stage = .active := by decide

theorem witness_LanesLeaveActiveAndCarryBlocks_4 : ((lanes .active).lane 0).stage = .active := by decide

theorem witness_LanesLeaveActiveAndCarryBlocks_5 : ((lanes .lock).lane 32).stage ≠ .doze ∧ (lanes .lock).sideRef 32 = true := by decide

theorem witness_LanesLeaveActiveAndCarryBlocks_6 : ((lanes .train).framerLanes 0).Nodup ∧ 32 ∈ (lanes .train).framerLanes 0 ∧ (lanes .train).laneSends 32 = true := by decide

theorem witness_LanesLeaveActiveAndCarryBlocks_7 : queued.framerOf 32 = some 0 ∧ queued.laneSends 32 = true ∧ queued.pattern 32 = 0 ∧ queued.nearLoop 32 = false ∧ (queued.lane 32).tx.queue.head? = some (5, []) ∧ (queued.lane 32).tx.run < 48 := by decide

set_option maxRecDepth 100000 in
theorem witness_LanesLeaveActiveAndCarryBlocks_8 : (let s := lanes .lock
    let m := Marker.make 0 5 8 0
    let n := s.lane 32
    let syms := (Pam4.ofWord m).map (fun x => BitVec.ofNat 2 (Pam4.swap n.rxInvert x))
    let d := (Pam4.destuff (syms.map (fun x => Pam4.swap n.rxInvert x.toNat)) n.rx.level n.rx.run (decide (n.rx.run = 48))).1
    s.coded 32 = true ∧ s.nearLoop 32 = false ∧ s.pattern 32 ≠ 1 ∧ s.pattern 32 ≠ 2 ∧ n.rx.expect = none ∧
      Pam4.hunt Marker.valid ((n.rx.symbols ++ d.map (fun x => BitVec.ofNat 2 x)).map (fun x => x.toNat)) = some (m, [])) := by decide

theorem witness_LanesLeaveActiveAndCarryBlocks_9 : (slipped.coded 32 = true) ∧ (slipped.lane 32).wordLock = true := by decide

theorem witness_LaneRegistersAndReads_1 : (open0 (lanes .doze)).allows .pf0 (Reg.lane 0 + 0x10) = true ∧ (open0 (lanes .doze)).laneRuns 0 = false ∧ (0 : Word).getLsbD 8 = false := by decide

theorem witness_LaneRegistersAndReads_2 : (open0 (lanes .doze)).allows .pf0 (Reg.lane 65 + 0x10) = true ∧ (open0 (lanes .doze)).laneRuns 65 = false ∧ (16 : Word).getLsbD 8 = false := by decide

theorem witness_LaneRegistersAndReads_3 : (open0 (lanes .active)).allows .pf0 (Reg.lane 0 + 0x10) = true ∧ (open0 (lanes .active)).laneRuns 0 = true ∧ (16 : Word).getLsbD 8 = false := by decide

theorem witness_LaneRegistersAndReads_4 : (open0 (lanes .doze)).allows .pf0 (Reg.lane 65 + 0x10) = true := by decide

theorem witness_LaneRegistersAndReads_5 : (open0 run0).reaches .pf0 (Reg.lane 65 + 4) = true ∧ (open0 run0).answers (Reg.lane 65 + 4) = true := by decide

theorem witness_LaneRegistersAndReads_6 : (open0 (lanes .doze)).reaches .pf0 (Reg.lane 32 + 0x34) = true ∧ (open0 (lanes .doze)).answers (Reg.lane 32 + 0x34) = true ∧ (open0 (lanes .doze)).laneTrunk 32 = true := by decide

theorem witness_TimeBasesApply : (open0 run0).allows .pf0 (State.baseReg 7 + 0x14) = true := by decide

theorem witness_TimeSnapshotsAndQueues_1 : (open0 run0).allows .pf0 Reg.timSnap = true := by decide

theorem witness_TimeSnapshotsAndQueues_2 : (open0 run0).allows .pf0 Reg.timTsqPop = true := by decide

theorem witness_TimeSnapshotsAndQueues_3 : (open0 run0).allows .pf0 (Reg.timCap + 0x40 * 1 + 8) = true := by decide

theorem witness_PulsesAndLaneCalibration_1 : (open0 run0).allows .pf0 (State.pulseReg 3) = true ∧ (open0 run0).pulseOn 3 = false := by decide

theorem witness_PulsesAndLaneCalibration_2 : ((lanes .lock).lane 32).stage = .lock := by decide

theorem witness_CountersCleared_1 : (open0 run0).allows .pf0 Reg.timControl = true ∧ (open0 run0).allows .pf0 Reg.lkpControl = true ∧ (open0 run0).allows .pf0 Reg.evtControl = true ∧ (open0 run0).allows .pf0 (Reg.polder 31 + 0x14) = true ∧ (open0 run0).allows .pf0 (Reg.port true 31 + 8) = true := by decide

theorem witness_CountersCleared_2 : (open0 run0).allows .pf0 Reg.cphControl = true := by decide

theorem witness_CountersCleared_3 : (open0 run0).allows .pf0 (Reg.framer 33 + 0x08) = true := by decide

theorem witness_FramesArrive_1 : etherUp.clockOn = true ∧ etherUp.portLanes false 0 ≠ [] ∧ (∀ l ∈ etherUp.portLanes false 0, (etherUp.lane l).stage = .active) ∧
    etherUp.isEther false 0 = true ∧ (etherUp.port false 0).pcsLock = true ∧ etherUp.portLooped false 0 = false := by decide

theorem witness_FramesArrive_2 : trunkUp.clockOn = true ∧ trunkUp.portLanes true 0 ≠ [] ∧ (∀ l ∈ trunkUp.portLanes true 0, (trunkUp.lane l).stage = .active) ∧
    (trunkUp.pair 0).mode = .trunk ∧ (trunkUp.framer 0).sync = .sync ∧
    (let b : Bytes := 0 :: 16 :: 16 :: zeros 19
     22 ≤ b.length ∧ Ndoath.size b = b.length ∧ 16 ≤ Ndoath.len b ∧ Ndoath.typ b = 1) := by decide

theorem witness_FramesArrive_3 : (trunkUp.framer 0).passed = [(false, 0, 0 :: 16 :: 16 :: zeros 19)] ∧ Ndoath.typ (0 :: 16 :: 16 :: zeros 19) = 1 ∧ (trunkUp.pair 0).mode = .trunk := by decide

theorem witness_FramesArrive_4 : ∃ l ∈ (lanes .lock).portLanes true 0, ((lanes .lock).lane l).stage ≠ .active := by decide

theorem witness_ReceptionEnds_1 : ∃ f, (arriving0 64).frame 0 = some f ∧ f.receiving = true := by decide

theorem witness_ReceptionEnds_2 : ∀ f, run0.frame 7 = some f → f.receiving = false := by decide

theorem witness_PortsFollowTheirConditions : (open0 etherUp).allows .pf0 (Reg.port false 0 + 0x08) = true ∧ (open0 etherUp).hidden (Reg.port false 0 + 0x08) = false ∧ (open0 etherUp).portRuns false 0 = true := by decide

theorem witness_HalfwordsLatch_1 : (open0 run0).reaches .pf0 Reg.timCtr = true ∧ (open0 run0).answers Reg.timCtr = true ∧ (open0 run0).pairValue Reg.timCtr = some 0 := by decide

theorem witness_HalfwordsLatch_2 : (open0 etherUp).reaches .pf0 0x0400044 = true ∧ (open0 etherUp).answers 0x0400044 = true ∧ (open0 etherUp).hidden 0x0400040 = false := by decide

theorem witness_TrunkDelineation_1 : (framing .hunt 0 (zeros 6)).framerUsed 0 = true ∧ ((framing .hunt 0 (zeros 6)).framer 0).sync ≠ .stopped ∧ ((framing .hunt 0 (zeros 6)).framer 0).force = false ∧ ((framing .hunt 0 (zeros 6)).framer 0).off + 6 ≤ ((framing .hunt 0 (zeros 6)).framer 0).rx.length + 0 := by decide

theorem witness_TrunkDelineation_2 : forced.framerUsed 0 = true ∧ (forced.framer 0).force = true ∧ (forced.framer 0).sync = .presync ∧ (forced.framer 0).off ≤ (forced.framer 0).rx.length := by decide

theorem witness_TrunkDelineation_3 : (framing .stopped 0 []).framerUsed 0 = true ∧ ((framing .stopped 0 []).framer 0).sync = .stopped := by decide

theorem witness_TrunkDelineation_4 : (framing .sync 6 (zeros 6)).framerUsed 0 = true ∧ ((framing .sync 6 (zeros 6)).framer 0).sync ≠ .stopped ∧ ((framing .sync 6 (zeros 6)).framer 0).force = false ∧ ((framing .sync 6 (zeros 6)).framer 0).rx.length + 0 < ((framing .sync 6 (zeros 6)).framer 0).off + 6 := by decide

theorem witness_TrunkDelineation_5 : (open0 (framing .sync 6 (zeros 6))).allows .pf0 (Reg.framer 0 + 0x08) = true ∧ (open0 (framing .sync 6 (zeros 6))).framerUsed 0 = true ∧ ((open0 (framing .sync 6 (zeros 6))).framer 0).sync ≠ .stopped := by decide

theorem witness_TrunkDelineation_6 : ((framing .sync 6 (zeros 6)).pair 0).mode = .trunk := by decide

theorem witness_MonitorFramesAndSeconds_1 : (zeros 16 : Bytes) ≠ [] := by decide

theorem witness_MonitorFramesAndSeconds_2 : (framing .sync 6 (zeros 6)).framerUsed 0 = true ∧ (framing .sync 6 (zeros 6)).pmRuns 0 = true := by decide

theorem witness_CircuitsReserveAndPlay_1 : (open0 run0).allows .pf0 (Reg.circuit 4095) = true ∧ (open0 run0).circEnabled 4095 = false ∧ (0x80000000 : Word).getLsbD 31 = true := by decide

theorem witness_CircuitsReserveAndPlay_2 : (open0 (run0.setReg (Reg.circuit 0) 0x80000102)).allows .pf0 (Reg.circuit 0) = true ∧ (run0.setReg (Reg.circuit 0) 0x80000102).circEnabled 0 = true ∧ (0 : Word).getLsbD 31 = false := by decide

theorem witness_ClassifierConcludes : ∃ f, handing.frame 0 = some f ∧ f.stage = .arriving ∧ handing.passes f = true ∧ handing.pairInService f.pair = true := by decide

theorem witness_EnsignsChange : (open0 run0).allows .pf0 Reg.clsEnsignCmd = true := by decide

theorem witness_ClassifierAccesses_1 : (open0 run0).allows .pf0 Reg.clsAccCmd = true := by decide

theorem witness_ClassifierAccesses_2 : ({ run0 with cls := { run0.cls with acc := some { cmd := 1, store := 0, slot := 0, index := 0, data := [] } } } : State).cls.acc.isSome = true := by decide

theorem witness_ClassifierAccesses_3 : (open0 run0).allows .pf0 Reg.clsControl = true := by decide

set_option maxRecDepth 100000 in
theorem witness_ArithmeticWords_1 : (engaged (opc 0x08)).Runs 0 0x08 0 ctx0 frame0 (opc 0x08) := runs_of_b (by decide)

set_option maxRecDepth 100000 in
theorem witness_ArithmeticWords_2 : (engaged (opc 0x16)).Runs 0 0x16 0 ctx0 frame0 (opc 0x16) := runs_of_b (by decide)

set_option maxRecDepth 100000 in
theorem witness_ArithmeticWords_3 : (engaged (opc 0x18)).Runs 0 0x18 0 ctx0 frame0 (opc 0x18) := runs_of_b (by decide)

set_option maxRecDepth 100000 in
theorem witness_MovingAndComparingWords_1 : (engaged (opc 0x06)).Runs 0 0x06 0 ctx0 frame0 (opc 0x06) := runs_of_b (by decide)

set_option maxRecDepth 100000 in
theorem witness_MovingAndComparingWords_2 : (engaged (opc 0x0F)).Runs 0 0x0F 0 ctx0 frame0 (opc 0x0F) := runs_of_b (by decide)

set_option maxRecDepth 100000 in
theorem witness_MovingAndComparingWords_3 : (engaged (opc 0x01)).Runs 0 0x01 0 ctx0 frame0 (opc 0x01) := runs_of_b (by decide)

set_option maxRecDepth 100000 in
theorem witness_MovingAndComparingWords_4 : (engaged (BitVec.ofNat 64 (2 * 2 ^ 58 + 2816 * 2 ^ 37))).Runs 0 2 0 ctx0 frame0 (BitVec.ofNat 64 (2 * 2 ^ 58 + 2816 * 2 ^ 37)) := runs_of_b (by decide)

set_option maxRecDepth 100000 in
theorem witness_BranchingAndWritingWords_1 : (engaged (BitVec.ofNat 64 (0x20 * 2 ^ 58 + 5 * 2 ^ 30))).Runs 0 0x20 0 ctx0 frame0 (BitVec.ofNat 64 (0x20 * 2 ^ 58 + 5 * 2 ^ 30)) := runs_of_b (by decide)

set_option maxRecDepth 100000 in
theorem witness_BranchingAndWritingWords_2 : (engaged (opc 0x2C)).Runs 0 0x2C 0 ctx0 frame0 (opc 0x2C) := runs_of_b (by decide)

set_option maxRecDepth 100000 in
theorem witness_BranchingAndWritingWords_3 : (engaged (opc 0x3A)).Runs 0 0x3A 0 ctx0 frame0 (opc 0x3A) := runs_of_b (by decide)

set_option maxRecDepth 100000 in
theorem witness_BranchingAndWritingWords_4 : (engaged (opc 0x31)).Runs 0 0x31 0 ctx0 frame0 (opc 0x31) := runs_of_b (by decide)

set_option maxRecDepth 100000 in
theorem witness_BranchingAndWritingWords_5 : (engaged (opc 0x38)).Runs 0 0x38 0 ctx0 frame0 (opc 0x38) := runs_of_b (by decide)

set_option maxRecDepth 100000 in
theorem witness_BranchingAndWritingWords_6 : (engaged (opc 0x3C)).Runs 0 0x3C 0 ctx0 frame0 (opc 0x3C) := runs_of_b (by decide)

set_option maxRecDepth 100000 in
theorem witness_WordsThatFault_1 : (engaged (opc 0x07)).running? 0 = some (0, ctx0) ∧ (engaged (opc 0x07)).frame ctx0.frame = some frame0 ∧ ctx0.executed < 120 ∧
    (engaged (opc 0x07)).fetchFault 0 ctx0 = some 1 := by decide

theorem witness_WordsThatFault_2 : run0.running? 0 = none := by decide

set_option maxRecDepth 100000 in
theorem witness_WordsThatFault_3 : spent.running? 0 = some (0, { ctx0 with executed := 120 }) ∧ 120 ≤ ({ ctx0 with executed := 120 } : Ctx).executed := by decide

set_option maxRecDepth 100000 in
theorem witness_WordsThatFault_4 : (engaged (opc 0)).running? 0 = some (0, ctx0) ∧ (engaged (opc 0)).fetchFault 0 ctx0 = none ∧ AWord.op (((engaged (opc 0)).polder 0).word 0) ≠ 1 := by decide

theorem witness_WordsThatFault_5 : (opc 0x07).toNat / 2 ^ 58 ∈ [0x07] := by decide

theorem witness_WordsThatFault_6 : (BitVec.ofNat 64 (8 * 2 ^ 58 + 1)).toNat / 2 ^ 58 ∈ [0x08] ∧ (BitVec.ofNat 64 (8 * 2 ^ 58 + 1)).toNat % 2 ^ 46 ≠ 0 := by decide

set_option maxRecDepth 100000 in
theorem witness_LookupWords_1 : (engaged (opc 0x28)).Runs 0 0x28 0 ctx0 frame0 (opc 0x28) := runs_of_b (by decide)

set_option maxRecDepth 100000 in
theorem witness_LookupWords_2 : (engaged (opc 0x29)).Runs 0 0x29 0 ctx0 frame0 (opc 0x29) := runs_of_b (by decide)

set_option maxRecDepth 100000 in
theorem witness_LookupWords_3 : (engaged (opc 0x3E)).Runs 0 0x3E 0 ctx0 frame0 (opc 0x3E) := runs_of_b (by decide)

set_option maxRecDepth 100000 in
theorem witness_BindAndVerdictWords_1 : (engaged (opc 0x30)).Runs 0 0x30 0 ctx0 frame0 (opc 0x30) := runs_of_b (by decide)

set_option maxRecDepth 100000 in
theorem witness_BindAndVerdictWords_2 : (engaged (opc 0x34)).Runs 0 0x34 0 ctx0 frame0 (opc 0x34) := runs_of_b (by decide)

set_option maxRecDepth 100000 in
theorem witness_EnginesTakeFrames_1 : handed0.frame 0 = some { frame0 with stage := .handed } ∧ handed0.eligibleEngine 0 0 = true := by decide

set_option maxRecDepth 100000 in
theorem witness_EnginesTakeFrames_2 : (looked.hbm.reqs.find? (fun r => decide (r.engine = 0 ∧ r.ctx = 0) && r.granted && r.tag.isSome)).isSome = true ∧
    ((Tab.find (looked.engine 0).ctxs 0).bind (fun x => Tab.find x.tags 0)).isSome = true := by decide

set_option maxRecDepth 100000 in
theorem witness_EnginesTakeFrames_3 : (∀ c ∈ ((waiting0 .ready).engine 0).ctxs, c.2.cond ≠ .running ∧ c.2.cond ≠ .done) ∧
    (waiting0 .ready).oldestReady 0 = some (0, { ctx0 with cond := .ready }) ∧ (waiting0 .ready).frame 0 = some frame0 := by decide

set_option maxRecDepth 100000 in
theorem witness_EnginesTakeFrames_4 : Tab.find ((waiting0 .parked).engine 0).ctxs 0 = some { ctx0 with cond := .parked } ∧ (waiting0 .parked).frame 0 = some frame0 ∧
    (∀ r ∈ (waiting0 .parked).hbm.reqs, r.engine = 0 → r.ctx = 0 → r.tag = none → r.granted = true) := by decide

set_option maxRecDepth 100000 in
theorem witness_EngineStageEnds_1 : ((spent.setFrame 0 { frame0 with stage := .engine }).whereIs 0 = some (0, 0)) ∧ Tab.find (spent.engine 0).ctxs 0 = some { ctx0 with executed := 120 } ∧ (spent.setFrame 0 { frame0 with stage := .engine }).frame 0 = some { frame0 with stage := .engine } := by decide

set_option maxRecDepth 100000 in
theorem witness_EngineStageEnds_2 : (staged .engine .bypass).frame 0 = some { frame0 with stage := .engine, verdict := some .bypass, rx := .good } ∧ (staged .engine .bypass).whereIs 0 = none := by decide

set_option maxRecDepth 100000 in
theorem witness_EngineStageEnds_3 : (waiting0 .parked).whereIs 0 = some (0, 0) ∧ Tab.find ((waiting0 .parked).engine 0).ctxs 0 = some { ctx0 with cond := .parked } := by decide

set_option maxRecDepth 100000 in
theorem witness_EngineStageEnds_4 : (staged .held .bypass).frame 0 = some { frame0 with stage := .held, verdict := some .bypass, rx := .good } := by decide

set_option maxRecDepth 100000 in
theorem witness_FramesLeaveTheModule_1 : (undone .cipher none).frame 0 = some { frame0 with dec := true, stage := .cipher, verdict := some .decrypt, rx := .good, bind := some bind0, out := none } ∧
    (undone .cipher none).awaitsTurn 0 bind0 = false := by decide

set_option maxRecDepth 100000 in
theorem witness_FramesLeaveTheModule_2 : (staged .cipher .bypass).frame 0 = some { frame0 with stage := .cipher, verdict := some .bypass, rx := .good } ∧ frame0.dec = false := by decide

set_option maxRecDepth 100000 in
theorem witness_FramesLeaveTheModule_3 : (undone .decided (some { bytes := [], tagOk := true })).frame 0 = some { frame0 with dec := true, stage := .decided, verdict := some .decrypt, rx := .good, bind := some bind0, out := some { bytes := [], tagOk := true } } := by decide

theorem witness_PipesAndTheUserTest_1 : (open0 run0).allows .pf0 Reg.cphTestCtrl = true := by decide

theorem witness_PipesAndTheUserTest_2 : testing.cph.test.isSome = true := by decide

theorem witness_PoldersAndTheirStores_1 : (open0 run0).allows .pf0 Reg.pldAccCmd = true := by decide

theorem witness_PoldersAndTheirStores_2 : accessing.pldAcc.isSome = true := by decide

theorem witness_PoldersAndTheirStores_3 : (open0 run0).allows .pf0 Reg.pldCntIndex = true := by decide

theorem witness_PoldersAndTheirStores_4 : (open0 run0).reaches .pf0 Reg.pldArbMax = true ∧ (open0 run0).answers Reg.pldArbMax = true := by decide

theorem witness_LookupsLearnAndAnswerCommands_1 : (tabled.table 0).isSome = true := by decide

theorem witness_LookupsLearnAndAnswerCommands_2 : (open0 run0).allows .pf0 Reg.lkpAccCmd = true := by decide

theorem witness_LookupsLearnAndAnswerCommands_3 : tabled.lkp.cmd.isSome = true := by decide

theorem witness_LookupsLearnAndAnswerCommands_4 : (open0 run0).allows .pf0 Reg.lkpLqPop = true := by decide

theorem witness_ChannelCommandsTakeEffect_1 : (open0 run0).allows .pf0 Reg.chnCmd = true := by decide

theorem witness_ChannelCommandsTakeEffect_2 : ((chanCmd 1).chn.cmds[0]?.map (fun c => c.code)) = some 1 ∧ (chanCmd 1).chWaits 0 { code := 1, host := false, handle := 2 ^ 30, arg := 0, data := [], domOk := false, domGen := 0 } = false := by decide

theorem witness_KeysAndIndexesAreReleased_1 : 5 < 2 ^ 24 := by decide

theorem witness_KeysAndIndexesAreReleased_2 : (open0 run0).allows .pf0 Reg.chnNotePop = true := by decide

theorem witness_KeyCommandsTakeEffect_1 : (open0 run0).allows .pf0 Reg.keyCmd = true := by decide

theorem witness_KeyCommandsTakeEffect_2 : (keyCmd0 6).key.cmds[0]?.map (fun c => c.code) = some 6 := by decide

theorem witness_TheKeyUnitLooksAfterItself : (open0 run0).allows .pf0 Reg.keySlotSel = true := by decide

theorem witness_LeveeClockLogAndMonitors_1 : (open0 run0).allows .pf0 Reg.levCmd = true := by decide

theorem witness_LeveeClockLogAndMonitors_2 : levBusy.lev.cmd = some 1 := by decide

theorem witness_TamperSettingsTightenOrWait : (open0 run0).allows .pf0 (Reg.levTampLimits + 8 * 0 + 4) = true := by decide

theorem witness_UnlockExchangeAndDebugPort_1 : (open0 run0).allows .pf0 Reg.levUnlCtrl = true := by decide

theorem witness_UnlockExchangeAndDebugPort_2 : checked.lev.checking = some (zeros 48) := by decide

theorem witness_HbmStack_1 : 0x2A40000 ≤ 0x2A40000 := by decide

theorem witness_HbmStack_2 : 0x2A3FFFF < 0x2A40000 ∧ State.reset.hbm.st ≠ .active := by decide

theorem witness_HbmStack_3 : 0 < 0x2A40000 ∧ ({ run0 with hbm := { run0.hbm with st := .active } } : State).hbm.st = .active := by decide

theorem witness_EventsAndWardens_1 : (open0 run0).allows .pf0 Reg.evtAck = true := by decide

theorem witness_EventsAndWardens_2 : (open0 run0).allows .pf0 Reg.evtHistPop = true := by decide

theorem witness_EventsAndWardens_3 : (open0 run0).allows .pf0 Reg.wrdControl = true := by decide

theorem witness_PairProtection_1 : (open0 run0).allows .pf0 Reg.wrdPairCmd = true := by decide

theorem witness_PairProtection_2 : (open0 run0).allows .pf0 Reg.wrdPairCfg = true := by decide

theorem witness_PairProtection_3 : (open0 run0).allows .pf0 Reg.wrdFleet = true := by decide

theorem witness_LiveChange : (open0 run0).allows .pf0 Reg.idnApply = true := by decide

theorem witness_PerformanceMonitor_1 : (open0 run0).allows .pf0 Reg.pmuControl = true := by decide

theorem witness_PerformanceMonitor_2 : (open0 run0).allows .pf0 Reg.pmuRingCtrl = true := by decide

theorem witness_PerformanceMonitor_3 : (open0 run0).allows .pf0 Reg.pmuRingPop = true := by decide

theorem witness_PerformanceMonitor_4 : 1 % 4 ≠ 0 := by decide

theorem witness_PerformanceMonitor_5 : 0 % 4 = 0 ∧ 0 < 0x10000 := by decide

theorem witness_PerformanceMonitor_6 : run0.pmuCounter 0 < 2 ^ 48 := by decide

theorem witness_BusesAndRegisters_1 : busAddr .pf0 0x40000 = true ∧ State.reset.answers 0x40000 = false := by decide

theorem witness_BusesAndRegisters_2 : busAddr .pf0 Reg.evtMask = true ∧ (open0 run0).allows .pf0 Reg.evtMask = true ∧ (Reg.maskAt Reg.evtMask).stop = 0 ∧ (Reg.clears Reg.evtMask).all (fun y => !(0 : Word).getLsbD y.1) = true := by decide

theorem witness_BusesAndRegisters_3 : busAddr .steward 0 = true := by decide

theorem witness_BusesAndRegisters_4 : busAddr .pf0Bar2 0 = true := by decide

theorem witness_BusesAndRegisters_5 : busAddr .pf1 0x0E00000 = true := by decide

theorem witness_BusesAndRegisters_6 : 0 % 4 = 0 ∧ 0 < 4096 := by decide

theorem witness_StewardMailboxes_1 : (open0 run0).allows .pf0 Reg.stwDoorbell = true := by decide

theorem witness_StewardMailboxes_2 : flashed.flashOk = true := by decide

theorem witness_StewardMailboxes_3 : ({ run0 with key := { run0.key with digestPending := true, ak := some Cell.empty } } : State).key.digestPending = true ∧ ({ run0 with key := { run0.key with digestPending := true, ak := some Cell.empty } } : State).key.ak ≠ none := by decide

theorem witness_StewardMailboxes_4 : State.reset.key.ak = none := by decide

theorem witness_C4LatchOutlastsResets : (halted0 .porNAssert).evt.c4.isSome = true ∧ (halted0 .porNAssert).boot.state = .powerOk ∧ ∃ t, step (halted0 .porNAssert) = .next t := ⟨by decide, by decide, _, rfl⟩

end Sys2Proof.Tests
end

namespace Sys2Proof.Machine

/-! ## Which commands complete (00 R11)

Only five commands have operands that a step turns away: a register access, a configuration request and an observer access
by their address, and a scrub visit by its line. -/

/-- A meaning answers a next state. -/
def Answers (o : Out) : Prop := ∃ t, o = .next t

namespace Answers

theorem next (t : State) : Answers (.next t) := ⟨t, rfl⟩

theorem ite {c : Prop} [Decidable c] {a b : Out} (ha : Answers a) (hb : Answers b) : Answers (if c then a else b) := by
  split
  · exact ha
  · exact hb

theorem of_cond {c : Prop} [Decidable c] {a b : Out} (h : c) (ha : Answers a) : Answers (if c then a else b) := by
  rwa [if_pos h]

theorem of_not {c : Prop} [Decidable c] {a b : Out} (h : ¬ c) (hb : Answers b) : Answers (if c then a else b) := by
  rwa [if_neg h]

end Answers

/-- A word of an engine answers, whatever it does: a fault of a program is an end of the program (08 R324). -/
theorem State.runWord_answers (s : State) (e op : Nat) (sem : State → Nat → Ctx → Nat → Frame → BitVec 64 → State.WordEnd) :
    Answers (s.runWord e op sem) := by
  unfold State.runWord
  split
  · exact .next _
  · split
    · exact .next _
    · refine .ite (.next _) ?_
      split
      · exact .next _
      · refine .ite (.next _) ?_
        dsimp only
        split <;> exact .next _

theorem State.runPure_answers (s : State) (e op : Nat) (sem : Ctx → BitVec 64 → WordOut) : Answers (s.runPure e op sem) :=
  s.runWord_answers e op _

/-- The addresses a requester can name are those of its window. -/
theorem State.inWindow_eq_busAddr (r : Req) (a : Nat) : State.inWindow r a = busAddr r a := by
  cases r <;> rfl

/-- Every command whose operands lie within the ranges of the spec answers: those turned away by an operand, the action words,
the commands that look up what they act on, and the rest, which only test conditions. -/
theorem exec_answers (c : Instr) (s : State) (h : c.wf = true) : Answers (exec c s) := by
  cases c
  case hbmScrubLine line err collide =>
    exact .of_not (Nat.not_le.2 (of_decide_eq_true h)) (.ite (.next _) (.next _))
  case registerWrite r a be v => exact .of_cond (State.inWindow_eq_busAddr r a ▸ h) (.next _)
  case registerRead r a => exact .of_cond (State.inWindow_eq_busAddr r a ▸ h) (.next _)
  case observerAccess off w v => exact .of_cond (of_decide_eq_true h) (.next _)
  case pcieConfigRequest pf1 w a v be => exact .of_cond (of_decide_eq_true h) (.ite (.next _) (.ite (.next _) (.next _)))
  case feedAbsent f => exact .ite (.next _) (.ite (.next _) (.next _))
  case wStc | wLki | wLkw | wBind | wBindc | wVerd | wCnt | wTime | wLrn =>
    dsimp only [exec, execWStc, execWLki, execWLkw, execWBind, execWBindc, execWVerd, execWCnt, execWTime, execWLrn]
    exact State.runWord_answers _ _ _ _
  case wNop | wLdc | wMov | wLdi | wLdh | wSel | wAdd | wSub | wAnd | wOr | wXor | wShl | wShr | wCmp | wAddi | wSubi | wAndi
      | wOri | wXori | wShli | wShri | wCmpi | wCsum | wTst | wBr | wBbit | wBtab | wPat | wEmit =>
    dsimp only [exec, execWNop, execWLdc, execWMov, execWLdi, execWLdh, execWSel, execWAdd, execWSub, execWAnd, execWOr, execWXor, execWShl,
      execWShr, execWCmp, execWAddi, execWSubi, execWAndi, execWOri, execWXori, execWShli, execWShri, execWCmpi, execWCsum,
      execWTst, execWBr, execWBbit, execWBtab, execWPat, execWEmit]
    exact State.runPure_answers _ _ _ _
  case pulseEdge | captureEdge | capabilityWordAssembled | exchangeTimeout | markerSend | monitorRx | playoutEmit
      | feedSample | shedUp | imageAuthDone | keyUnsealDone | hbmTrainDone | enginesLoadDone | frameArrival | portFrameRx
      | classifierHandoff | learnReportApply | lkpCommandDone | dispatch | hbmRequestGrant | hbmResultArrive
      | contextResume | farBindAnswer | chnCommandDone | engineBudgetEnd | farHoldRelease | cacheWriteBack | rxDecision
      | frameDepart | cphTestDone | keyCommandDone | levCommandDone | unlockCheckDone | escalation | wardenLeaseLapse
      | wardenReportMissing | imgApply | imgApplyStepDone =>
    dsimp only [exec, execPulseEdge, execCaptureEdge, execCapabilityWordAssembled, execExchangeTimeout, execMarkerSend,
      execMonitorRx, execPlayoutEmit, execFeedSample, execShedUp, execImageAuthDone, execKeyUnsealDone, execHbmTrainDone,
      execEnginesLoadDone, execFrameArrival, execPortFrameRx, execClassifierHandoff, execLearnReportApply,
      execLkpCommandDone, execDispatch, execHbmRequestGrant, execHbmResultArrive, execContextResume, execFarBindAnswer,
      execChnCommandDone, execEngineBudgetEnd, execFarHoldRelease, execCacheWriteBack, execRxDecision, execFrameDepart,
      execCphTestDone, execKeyCommandDone, execLevCommandDone, execUnlockCheckDone, execEscalation, execWardenLeaseLapse,
      execWardenReportMissing, execImgApply, execImgApplyStepDone]
    repeat' split
    all_goals exact .next _
  all_goals
    repeat' refine Answers.ite ?_ ?_
    all_goals exact .next _

/-- Settles O9: each instruction's only refusal is of operands outside the ranges `Instr.wf` states. -/
theorem everyWellFormedCommandCompletes : Obligations.EveryWellFormedCommandCompletes :=
  fun c s h => exec_answers c s h

/-- Settles O10: each of the five commands tests its address before anything else. -/
theorem illFormedAddressesAreTurnedAway : Obligations.IllFormedAddressesAreTurnedAway := by
  refine ⟨fun r a be v s h => ?_, fun r a s h => ?_, fun pf1 w a v be s h => if_neg h, fun off w v s h => if_neg h,
    fun line e c s h => if_pos h⟩
  · exact if_neg (by simp [State.inWindow_eq_busAddr, h])
  · exact if_neg (by simp [State.inWindow_eq_busAddr, h])

/-! ## Resets (00 R18–R20) -/

/-- Filtering a table by key leaves the lookup of a kept key as it was. -/
theorem find_filter_key {α : Type} (p : Nat → Bool) (t : Tab α) (k : Nat) :
    Tab.find (t.filter (fun e => p e.1)) k = if p k then Tab.find t k else none := by
  induction t with
  | nil => simp
  | cons e r ih =>
    obtain ⟨j, v⟩ := e
    rw [List.filter_cons]
    by_cases hj : j = k
    · subst hj
      by_cases hp : p j = true
      · simp [hp, Tab.find]
      · simp only [Bool.not_eq_true] at hp
        simp [hp, ih]
    · by_cases hp : p j = true <;> simp [hp, Tab.find, hj, ih]

namespace State

/-- A requester's write that is allowed has its effect. -/
theorem wr_of_allows {s : State} {r : Req} {a : Nat} (h : s.allows r a = true) (f : State → State) : s.wr r a f = f s := by
  simp only [allows, Bool.and_eq_true] at h
  obtain ⟨⟨hr, ha⟩, ht⟩ := h
  simp [wr, letIn, hr, ha, ht]

/-! ### The register words a warm reset keeps -/

/-- What a register reads just after a warm reset, before bring-up starts again. -/
theorem reg_warmBase (s : State) (a : Nat) : s.warmBase.reg a =
    if a = Reg.idnResync then BitVec.ofNat 32 ((s.reg Reg.idnResync).toNat % 2 ^ 20)
    else if Reg.keptWarm a then s.reg a else Reg.resetOf a := by
  have e : s.warmBase.reg a = Tab.get Reg.resetOf s.warmRegs a := rfl
  rw [e, warmRegs, Tab.get_put]
  refine ite_congr rfl (fun _ => rfl) fun _ => ?_
  rw [Tab.get, find_filter_key]
  split
  · rfl
  · rfl

theorem keptWarm_idnResync : Reg.keptWarm Reg.idnResync = true := by decide

end State

/-- A LOCK in force stays in force over a reset: LOCK_DEFERRED takes its place (13 R499). -/
theorem State.levReset_locked (l : Lev) : (State.levReset l).locked = l.locked := by
  unfold State.levReset Lev.locked
  cases l.lock <;> cases l.lockDeferred <;> rfl

/-- What a reset of the endpoint leaves of the rest (00 R20). -/
theorem perstNAssert_only (s : State) (p : Pcie) (e : Evt) (m : Mbx) :
    State.Only [.pcie, .evt, .mbxPcie] s { s with pcie := p, evt := e, mbxPcie := m } := by
  intro x hx
  cases x
  case pcie | evt | mbxPcie => simp at hx
  all_goals rfl

/-- The parts of a state that the dropping of the frames in flight leaves alone. -/
theorem State.warmDrop_keeps (s : State) : s.warmDrop.wrd = s.wrd ∧ s.warmDrop.now = s.now ∧ s.warmDrop.clockOn = s.clockOn ∧
    s.warmDrop.pcie = s.pcie ∧ s.warmDrop.flash = s.flash ∧ s.warmDrop.lev = s.lev ∧ s.warmDrop.boot = s.boot := by
  have h := State.Only.of_still (State.warmDrop_still s)
  exact ⟨h .wrd (by decide), h .now (by decide), h .clockOn (by decide), h .pcie (by decide), h .flash (by decide), h .lev (by decide),
    h .boot (by decide)⟩

theorem State.warmBoot_imageFetch (s : State) (h : s.boot.state ≠ .powerOk) : s.warmBoot.state = .imageFetch := by
  unfold State.warmBoot
  rw [if_neg h]

/-- Settles O11: cold, warm and endpoint resets, one case for each command. -/
theorem resetsStartOver : Obligations.ResetsStartOver := by
  refine ⟨fun s => ?porN, fun s => ?feeds, fun r s h => ?warm, fun s => ?perst, fun s => rfl, fun s => ?refclk⟩
  case porN =>
    exact ⟨s.coldReset true, rfl, rfl, rfl, rfl, rfl, rfl, rfl, rfl, rfl, rfl, rfl, rfl, rfl, rfl, rfl, rfl, rfl, rfl, rfl,
      State.levReset_locked s.lev⟩
  case feeds =>
    exact ⟨_, rfl, rfl, rfl, rfl, rfl, rfl, rfl, rfl, rfl, rfl, rfl, rfl, rfl, rfl, rfl, rfl, rfl, rfl, rfl,
      State.levReset_locked s.lev⟩
  case warm =>
    obtain ⟨hwrd, hnow, hclk, hpcie, hflash, hlev, hboot⟩ := s.warmDrop_keeps
    refine ⟨s.warmReset.refreshWaits, congrArg _ (State.wr_of_allows h _), fun a => rfl, rfl, rfl, rfl, rfl, rfl, hwrd, hnow, hclk,
      (congrArg Pcie.cfg0 hpcie :), (congrArg Pcie.cfg1 hpcie :), rfl, rfl, rfl, rfl, rfl, hflash, (congrArg Lev.root hlev :),
      (congrArg Lev.minSv hlev :), fun hb => State.warmBoot_imageFetch _ (hboot ▸ hb), fun a hk ha => ?_, ?_, fun a hk => ?_⟩
    · exact (State.reg_warmBase _ a).trans (by rw [if_neg ha, if_pos hk])
    · exact (State.reg_warmBase _ _).trans (if_pos rfl)
    · have ha : a ≠ Reg.idnResync := fun e => by rw [e, State.keptWarm_idnResync] at hk; cases hk
      exact (State.reg_warmBase _ a).trans (by rw [if_neg ha, if_neg (by simp [hk])])
  case perst => exact ⟨_, rfl, perstNAssert_only _ _ _ _, rfl, rfl, rfl, rfl, rfl, rfl⟩
  case refclk =>
    refine ⟨_, rfl, fun x hx => ?_, rfl, rfl, fun h => by simp [h]⟩
    cases x
    case pwr | clockOn => simp at hx
    all_goals rfl

/-! ## Register reads (00 R12, R13; 17 R591) -/

namespace State

/-- A read that answers puts its value on the bus. -/
theorem rd_of_answers {s : State} {r : Req} {a : Nat} (hr : s.reaches r a = true) (ha : s.answers a = true) :
    s.rd r a = (s.readReg r a).2.answer (s.readReg r a).1 := by
  simp [rd, busRead, hr, ha]

theorem readReg_of_hidden {s : State} {a : Nat} (h : s.hidden a = true) (r : Req) : s.readReg r a = (0, s) := by
  simp [readReg, h]

theorem readReg_of_pair {s : State} {a v : Nat} (h : s.hidden a = false) (hv : s.pairValue a = some v) (r : Req) :
    s.readReg r a = (BitVec.ofNat 32 v, s.setLatch r (a + 4) (BitVec.ofNat 32 (v / 2 ^ 32))) := by
  simp [readReg, h, hv]

theorem readReg_of_high {s : State} {a : Nat} (h : s.hidden a = false) (hn : s.pairValue a = none) (hh : isHigh a = true)
    (r : Req) : s.readReg r a = (s.latchOf r a, s) := by
  simp [readReg, h, hn, hh]

theorem reqNo_lt (r : Req) : reqNo r < 4 := by cases r <;> decide

theorem latchOf_setLatch_same (s : State) (r : Req) (a : Nat) (v : Word) : (s.setLatch r a v).latchOf r a = v :=
  Tab.get_put_same _ _ _ _

theorem latchOf_setLatch_other (s : State) {r q : Req} {a b : Nat} (h : (b, reqNo q) ≠ (a, reqNo r)) (v : Word) :
    (s.setLatch r a v).latchOf q b = s.latchOf q b := by
  refine Tab.get_put_other _ _ (fun e => h ?_) _
  have := reqNo_lt r
  have := reqNo_lt q
  ext <;> simp only <;> omega

theorem setLatch_answer_only (s : State) (r : Req) (a : Nat) (v w : Word) : Only [.bus, .latch] s ((s.setLatch r a v).answer w) := by
  intro p hp
  cases p
  case bus | latch => simp at hp
  all_goals rfl

theorem answer_only (s : State) (w : Word) : Only [.bus] s (s.answer w) := by
  intro p hp
  cases p
  case bus => simp at hp
  all_goals rfl

end State

/-! ### The 64-bit counters of the Ethernet ports (05 R202) -/

section
variable (n : Fin 64) (k : Fin 16)

/-- The LO half of counter `k` of port window `n`: host ports 0-31, line ports from 32 on. -/
def Reg.portCounter : Nat := 0x0400040 + 0x400 * n.val + 8 * k.val

theorem Reg.counterOf_port {o : Nat} (ho : o < 8) : Reg.counterOf (Reg.portCounter n k + o) = some (Reg.portCounter n k) := by
  obtain ⟨n, hn⟩ := n
  obtain ⟨k, hk⟩ := k
  unfold Reg.counterOf Reg.counterWindows Reg.portCounter
  rw [List.findSome?_cons, if_pos (by simp only; omega)]
  simp only [Option.some.injEq]
  omega

theorem Reg.portCounter_bounds : 0x0400040 ≤ Reg.portCounter n k ∧ Reg.portCounter n k < 0x0410000 := by
  unfold Reg.portCounter
  omega

theorem State.pairValue_portCounter (s : State) : s.pairValue (Reg.portCounter n k) = some (s.counter (Reg.portCounter n k)).toNat := by
  have hb := Reg.portCounter_bounds n k
  have hw : State.storeWindow (Reg.portCounter n k) = false := decide_eq_false (by omega)
  have hc := Reg.counterOf_port n k (o := 0) (by omega)
  rw [Nat.add_zero] at hc
  unfold State.pairValue
  rw [if_neg (by omega), if_neg (by unfold Reg.hbmErrLo; omega), if_neg (by unfold Reg.timPulse; omega),
    if_neg (by unfold Reg.pmuCntLo; omega), hw, hc]
  simp

/-- The HI half is read through its latch alone. -/
theorem State.pairValue_portCounter_high (s : State) : s.pairValue (Reg.portCounter n k + 4) = none := by
  have hb := Reg.portCounter_bounds n k
  have hw : State.storeWindow (Reg.portCounter n k + 4) = false := decide_eq_false (by omega)
  unfold State.pairValue
  rw [if_neg (by omega), if_neg (by unfold Reg.hbmErrLo; omega), if_neg (by unfold Reg.timPulse; omega),
    if_neg (by unfold Reg.pmuCntLo; omega), hw, Reg.counterOf_port n k (by omega)]
  simp

theorem State.isHigh_portCounter : State.isHigh (Reg.portCounter n k + 4) = true := by
  unfold State.isHigh
  rw [Reg.counterOf_port n k (by omega)]
  simp

/-- Both halves of a counter lie in one window. -/
theorem State.hidden_portCounter_high (s : State) : s.hidden (Reg.portCounter n k + 4) = s.hidden (Reg.portCounter n k) := by
  have hb := Reg.portCounter_bounds n k
  have hp : (Reg.portCounter n k + 4) % 0x8000 / 0x400 = Reg.portCounter n k % 0x8000 / 0x400 := by unfold Reg.portCounter; omega
  have hl : 0x0408000 ≤ Reg.portCounter n k + 4 ↔ 0x0408000 ≤ Reg.portCounter n k := by unfold Reg.portCounter; omega
  have h8 : 8 ≤ (Reg.portCounter n k + 4) % 0x400 ↔ 8 ≤ Reg.portCounter n k % 0x400 := by unfold Reg.portCounter; omega
  unfold State.hidden
  rw [if_neg (by omega), if_pos (by omega), if_neg (by omega), if_pos (by omega), hp]
  simp only [hl, h8]

theorem Reg.portCounter_high_okAddr : Reg.okAddr (Reg.portCounter n k + 4) = true :=
  decide_eq_true (by unfold Reg.portCounter; omega)

end

/-- The requesters of BAR0's registers; PF0's other window and PF1's are not registers (19 R622, R623). -/
def Req.bar0 (r : Req) : Prop := r ≠ .pf1 ∧ r ≠ .pf0Bar2

theorem State.bar0_of_reaches {s : State} {r : Req} {a : Nat} (h : s.reaches r a = true) : r.bar0 := by
  cases r
  case pf1 | pf0Bar2 => cases h
  all_goals exact ⟨by decide, by decide⟩

theorem busAddr_bar0 {r : Req} (h : r.bar0) (a : Nat) : busAddr r a = Reg.okAddr a := by
  cases r
  case pf1 => exact absurd rfl h.1
  case pf0Bar2 => exact absurd rfl h.2
  all_goals rfl

theorem exec_registerRead_bar0 {r : Req} {a : Nat} (hr : r.bar0) (ha : Reg.okAddr a = true) (s : State) :
    exec (.registerRead r a) s = .next (s.rd r a) := by
  have h : exec (.registerRead r a) s = .next (s.read r a) :=
    if_pos (by rw [State.inWindow_eq_busAddr, busAddr_bar0 hr]; exact ha)
  rw [h]
  cases r
  case pf1 => exact absurd rfl hr.1
  case pf0Bar2 => exact absurd rfl hr.2
  all_goals rfl

/-- The HI half of a port's counter answers what its requester latched (17 R591). -/
theorem exec_registerRead_portCounter_high {r : Req} {n : Fin 64} {k : Fin 16} {s : State} (hr : s.reaches r (Reg.portCounter n k + 4) = true)
    (ha : s.answers (Reg.portCounter n k + 4) = true) (hh : s.hidden (Reg.portCounter n k) = false) :
    exec (.registerRead r (Reg.portCounter n k + 4)) s = .next (s.answer (s.latchOf r (Reg.portCounter n k + 4))) := by
  rw [exec_registerRead_bar0 (State.bar0_of_reaches hr) (Reg.portCounter_high_okAddr n k), State.rd_of_answers hr ha,
    State.readReg_of_high ((s.hidden_portCounter_high n k).trans hh) (s.pairValue_portCounter_high n k) (State.isHigh_portCounter n k)]

/-- Settles O26: the low half latches under the address of the high half, which a port's counter read finds again. -/
theorem halfwordsLatch : Obligations.HalfwordsLatch := by
  refine ⟨fun r a v s hr ha hv => ?_, fun r n k s => ⟨s.pairValue_portCounter n k, exec_registerRead_portCounter_high⟩⟩
  have he : exec (.counterLoRead r a) s = .next (s.rd r a) := if_pos (by rw [hv]; rfl)
  refine ⟨_, he, ?_⟩
  rw [State.rd_of_answers hr ha]
  cases hh : s.hidden a
  · rw [State.readReg_of_pair hh hv]
    exact ⟨⟨rfl, State.latchOf_setLatch_same _ _ _ _⟩, fun q b hb => State.latchOf_setLatch_other s hb _,
      State.setLatch_answer_only _ _ _ _ _⟩
  · rw [State.readReg_of_hidden hh]
    exact ⟨rfl, fun _ _ _ => rfl, (State.answer_only _ _).mono (by simp)⟩

/-! ## Accesses that do not answer (03 R91; 19 R624) -/

namespace State

theorem regField_one_iff (s : State) (a k : Nat) : s.regField a k 1 = 1 ↔ (s.reg a).getLsbD k = true := by
  unfold regField regN Bits.field
  rw [BitVec.getLsbD, Nat.testBit_eq_decide_div_mod_eq, decide_eq_true_iff, Nat.pow_one]

theorem getLsbD_or_two_pow (x : Word) {k : Nat} (h : k < 32) : (x ||| BitVec.ofNat 32 (2 ^ k)).getLsbD k = true := by
  rw [BitVec.getLsbD_or, BitVec.getLsbD_ofNat, Nat.testBit_two_pow_self]
  simp [h]

/-- A cause below C4 sets its bit. -/
theorem cause_regField (s : State) (a src cls unit : Nat) {bit : Nat} (hb : bit < 32) (hc : cls ≠ 4) (ha : a ≠ Reg.wrdEvent) :
    (s.cause a bit src cls unit).regField a bit 1 = 1 := by
  rw [regField_one_iff, cause_reg _ _ _ _ _ _ hc ha]
  exact getLsbD_or_two_pow _ hb

/-- An access is discarded with ACC_ERR, its bus left as `b`. -/
def AccErrs (b : Bus) (s t : State) : Prop :=
  t.bus = b ∧ t.regField Reg.idnStatus 31 1 = 1 ∧ (s.regField Reg.idnStatus 31 1 = 0 → Raised 252 s t) ∧
    Changes [.bus, .evt] (Reg.idnStatus :: Reg.idnEvent :: Reg.raiseWords) Reg.raiseCtrs s t

theorem accErr_of_set {s : State} (h : s.regField Reg.idnStatus 31 1 = 1) : s.accErr = s := if_pos h

theorem accErr_of_clear {s : State} (h : s.regField Reg.idnStatus 31 1 ≠ 1) :
    s.accErr = (s.orReg Reg.idnStatus 0x80000000).cause Reg.idnEvent 4 252 0 := if_neg h

theorem accErr_accErrs (s : State) : AccErrs s.bus s s.accErr := by
  by_cases h : s.regField Reg.idnStatus 31 1 = 1
  · rw [accErr_of_set h]
    exact ⟨rfl, h, fun h0 => by omega, Changes.refl _ _ _ s⟩
  · rw [accErr_of_clear h]
    have hc : Changes [.evt] (Reg.idnStatus :: Reg.idnEvent :: Reg.raiseWords) Reg.raiseCtrs s
        ((s.orReg Reg.idnStatus 0x80000000).cause Reg.idnEvent 4 252 0) :=
      ((orReg_changes s _ _).mono (by simp) (by simp) (by simp)).andThen (cause_changes _ _ _ _ _ _ (by decide)) (by simp)
        (by simp +contextual) (by simp)
    have hr : Raised 252 (s.orReg Reg.idnStatus 0x80000000) ((s.orReg Reg.idnStatus 0x80000000).cause Reg.idnEvent 4 252 0) :=
      cause_raised _ _ _ _ _ _ (by decide) (by decide)
    refine ⟨hc.parts .bus (by decide), ?_, fun _ => hr,
      hc.mono (by simp) (fun _ h => h) (fun _ h => h)⟩
    rw [regField_one_iff, (cause_changes _ Reg.idnEvent 4 252 0 0 (by decide)).regs _ (by decide), reg_orReg_same]
    exact getLsbD_or_two_pow _ (k := 31) (by decide)

theorem AccErrs.setBus {b : Bus} {s t : State} (h : AccErrs b s t) (c : Bus) : AccErrs c s { t with bus := c } := by
  obtain ⟨-, hflag, hraised, hch⟩ := h
  exact ⟨rfl, hflag, hraised, hch.trans (Changes.of (Only.bus (by simp) (Only.refl _ t)) rfl rfl)⟩

theorem accErr_bus (s : State) : s.accErr.bus = s.bus := s.accErr_accErrs.1

theorem accErr_answer (s : State) (v : Word) : AccErrs { s.bus with rdata := v } s (s.accErr.answer v) := by
  rw [← s.accErr_bus]
  exact s.accErr_accErrs.setBus _

/-! ## Register writes by a requester (00 R11; 03 R91, R92) -/

theorem wr_of_not_reaches {s : State} {r : Req} {a : Nat} (h : s.reaches r a = false) (f : State → State) : s.wr r a f = s := by
  simp [wr, h]

theorem wr_of_not_answers {s : State} {r : Req} {a : Nat} (hr : s.reaches r a = true) (ha : s.answers a = false) (f : State → State) :
    s.wr r a f = s.accErr := by
  simp [wr, letIn, hr, ha]

theorem wr_of_not_takes {s : State} {r : Req} {a : Nat} (hr : s.reaches r a = true) (ha : s.answers a = true) (ht : s.takes a = false)
    (f : State → State) : s.wr r a f = s := by
  simp [wr, letIn, hr, ha, ht]

end State

theorem exec_registerWrite_bar0 {r : Req} {a : Nat} (hr : r.bar0) (ha : Reg.okAddr a = true) (v : Word) (s : State) :
    exec (.registerWrite r a 15 v) s = .next (s.wr r a (fun s => s.regWrite a v)) := by
  have h : exec (.registerWrite r a 15 v) s = .next (s.write r a 15 v) :=
    if_pos (by rw [State.inWindow_eq_busAddr, busAddr_bar0 hr]; exact ha)
  rw [h]
  cases r
  case pf1 => exact absurd rfl hr.1
  case pf0Bar2 => exact absurd rfl hr.2
  all_goals rfl

/-- A write with partial byte enables is discarded (00 R11). -/
theorem exec_registerWrite_partial {r : Req} {a : Nat} {be : BitVec 4} (ha : busAddr r a = true) (hb : be ≠ 15) (v : Word) (s : State) :
    exec (.registerWrite r a be v) s = .next s := by
  have h : exec (.registerWrite r a be v) s = .next (s.write r a be v) := if_pos (by rw [State.inWindow_eq_busAddr]; exact ha)
  rw [h]
  exact congrArg _ (if_pos hb)

/-- A write that has no effect. -/
theorem registerWrite_discarded (r : Req) (a : Nat) (be : BitVec 4) (v : Word) (s : State) (ha : busAddr r a = true) (h1 : r ≠ .pf1)
    (h2 : r ≠ .pf0Bar2) (h : s.reaches r a = false ∨ s.answers a = false ∨ s.takes a = false ∨ be ≠ 15) :
    ∃ t, exec (.registerWrite r a be v) s = .next t ∧
      (if be = 15 ∧ s.reaches r a = true ∧ s.answers a = false then State.AccErrs s.bus s t else t = s) := by
  by_cases hb : be = 15
  · subst hb
    refine ⟨_, exec_registerWrite_bar0 ⟨h1, h2⟩ (busAddr_bar0 ⟨h1, h2⟩ a ▸ ha) v s, ?_⟩
    cases hr : s.reaches r a
    · rw [if_neg (by simp), State.wr_of_not_reaches hr]
    · cases hans : s.answers a
      · rw [if_pos ⟨rfl, rfl, rfl⟩, State.wr_of_not_answers hr hans]
        exact s.accErr_accErrs
      · have ht : s.takes a = false := by simpa [hr, hans] using h
        rw [if_neg (by simp), State.wr_of_not_takes hr hans ht]
  · exact ⟨s, exec_registerWrite_partial ha hb v s, by rw [if_neg (fun h => hb h.1)]⟩

/-! ## Plain writes (00 R13-R16; 17 R592) -/

/-- The registers a write of which is a command (00 R13). -/
def Reg.HasCommand (a : Nat) : Prop :=
  a ∈ [Reg.idnControl, Reg.idnApply, Reg.pwrControl, Reg.wrdControl, Reg.evtAck, Reg.evtHistPop, Reg.wrdPairCfg, Reg.wrdPairCmd,
      Reg.wrdFleet, Reg.levCmd, Reg.levUnlCtrl, Reg.keyCmd, Reg.keySlotSel, Reg.timSnap, Reg.timTsqPop, Reg.timCap + 8, Reg.timCap + 0x48, Reg.clsEnsignCmd,
      Reg.clsAccCmd, Reg.clsControl, Reg.lkpAccCmd, Reg.lkpLqPop, Reg.chnCmd, Reg.chnNotePop, Reg.cphTestCtrl, Reg.pmuControl, Reg.pmuRingCtrl, Reg.pmuRingPop,
      Reg.pldAccCmd, Reg.pldCntIndex, Reg.stwDoorbell, Reg.stwStatus] ∨ (Reg.evtPending ≤ a ∧ a < Reg.evtMask) ∨ (Reg.levTampLimits ≤ a ∧ a < Reg.levTampLimits + 40) ∨
    (Reg.timBase ≤ a ∧ a < Reg.timCap) ∨ (0x0500000 ≤ a ∧ a < 0x0508800 ∧ (a % 0x400 = 4 ∨ a % 0x400 = 8)) ∨ (Reg.stwReq ≤ a ∧ a < Reg.stwRsp)

namespace Reg

variable {a : Nat}

theorem maskAt_laneControl (h : isLane a = true) (ho : a % 0x400 = 0x10) : maskAt a = .ofStop 0x17 := by
  have hb := of_decide_eq_true h
  rw [maskAt, if_neg (by omega), if_neg (by omega), if_pos (by omega), maskLink, if_pos h, if_pos ho]

theorem maskAt_portControl (h : 0x0400000 ≤ a) (h' : a < 0x0410000) (ho : a % 0x400 = 8) : maskAt a = .ofStop 1 := by
  have hl : isLane a = false := decide_eq_false (by omega)
  rw [maskAt, if_neg (by omega), if_neg (by omega), if_pos (by omega), maskLink, hl, if_neg (by simp), if_pos (by omega), if_pos ho]

theorem maskAt_circuit (h : 0x0510000 ≤ a) (h' : a < 0x0520000) (ho : a % 16 = 0) :
    maskAt a = { rw := 0x80000000, sh := 0, stop := 0x1F733F3F, w1c := 0 } := by
  have hl : isLane a = false := decide_eq_false (by omega)
  rw [maskAt, if_neg (by omega), if_neg (by omega), if_pos (by omega), maskLink, hl, if_neg (by simp), if_neg (by omega),
    if_neg (by omega), if_pos (by omega), if_pos ho]

theorem maskAt_chnPolicy (h : chnPolicy ≤ a) (h' : a < chnPolicy + 128) : maskAt a = .ofStop all := by
  unfold chnPolicy at h h'
  rw [maskAt, if_neg (by omega), if_neg (by omega), if_neg (by omega)]
  unfold maskHigh clsAccAddr clsParity clsControl clsEvent clsAccData lkpAccTable lkpAccIndex lkpAccData lkpParity lkpControl lkpEvent
    chnCmdHandle chnCmdArg chnControl chnEvent chnData chnFault chnProfile chnPolicy
  repeat refine (if_neg (by omega)).trans ?_
  exact if_pos ⟨h, h'⟩

theorem Mask.sh_ite {c : Prop} [Decidable c] {x y : Mask} (hx : c → x.sh = 0) (hy : ¬c → y.sh = 0) : (if c then x else y).sh = 0 := by
  split
  · exact hx ‹_›
  · exact hy ‹_›

theorem maskLow_sh : (maskLow a).sh = 0 := by
  unfold maskLow
  repeat' refine Mask.sh_ite (fun _ => ?_) (fun _ => ?_)
  all_goals rfl

theorem maskTim_sh (h : (maskTim a).sh ≠ 0) : timBase ≤ a ∧ a < timPulse := by
  refine Decidable.byContradiction fun hn => h ?_
  unfold maskTim
  simp only [if_neg hn]
  repeat' refine Mask.sh_ite (fun _ => ?_) (fun _ => ?_)
  all_goals rfl

theorem maskLink_sh (h : (maskLink a).sh ≠ 0) : 0x0500000 ≤ a ∧ a < 0x0508800 ∧ a % 0x400 = 4 := by
  refine Decidable.byContradiction fun hn => h ?_
  unfold maskLink
  repeat' refine Mask.sh_ite (fun _ => ?_) (fun _ => ?_)
  any_goals rfl
  omega

/-- Of the blocks above the links only the channel profiles and the performance monitor have SH fields. -/
theorem maskHigh_sh (h : (maskHigh a).sh ≠ 0) : (chnProfile ≤ a ∧ a < chnPolicy - 0x200) ∨ a = pmuSampleCfg ∨ a = pmuSamplePeriod ∨
    (pmuCntCfg ≤ a ∧ a < pmuCntCfg + 2048) := by
  refine Decidable.byContradiction fun hn => h ?_
  simp only [not_or] at hn
  obtain ⟨h1, h2, h3, h4⟩ := hn
  unfold maskHigh
  simp only [if_neg h1, if_neg h2, if_neg h3, if_neg h4]
  repeat' refine Mask.sh_ite (fun _ => ?_) (fun _ => ?_)
  all_goals rfl

end Reg

namespace State

variable {s : State} {a : Nat} {v : Word}

/-! ### A write of a register without a command is a plain write -/

theorem writeLow_plain (h : ¬ Reg.HasCommand a) : s.writeLow a v = s.writePlain a v := by
  simp only [Reg.HasCommand, List.mem_cons, not_or] at h
  unfold writeLow
  simp only [h, if_false]

theorem writeTim_plain (h : ¬ Reg.HasCommand a) : s.writeTim a v = s.writePlain a v := by
  simp only [Reg.HasCommand, List.mem_cons, not_or] at h
  obtain ⟨hl, -, -, htim, -⟩ := h
  have hb : ¬ (Reg.timBase ≤ a ∧ a < Reg.timPulse ∧ (a - Reg.timBase) % 0x20 = 0x14) := fun ⟨h1, h2, _⟩ =>
    htim ⟨h1, Nat.lt_trans h2 (by decide)⟩
  have hp : ¬ (Reg.timPulse ≤ a ∧ a < Reg.timCap ∧ (a - Reg.timPulse) % 0x40 = 0) := fun ⟨h1, h2, _⟩ =>
    htim ⟨Nat.le_trans (by decide) h1, h2⟩
  unfold writeTim
  simp only [hl, hb, hp, if_false]

theorem writeLink_plain (h : ¬ Reg.HasCommand a) (hs : (Reg.maskAt a).stop = 0) : s.writeLink a v = s.writePlain a v := by
  simp only [Reg.HasCommand, not_or] at h
  obtain ⟨-, -, -, -, htrk, -⟩ := h
  have hlane : ¬ (Reg.isLane a ∧ a % 0x400 = 0x10) := fun ⟨h1, h2⟩ => by rw [Reg.maskAt_laneControl h1 h2] at hs; cases hs
  have hport : ¬ (0x0400000 ≤ a ∧ a < 0x0410000 ∧ a % 0x400 = 8) := fun ⟨h1, h2, h3⟩ => by
    rw [Reg.maskAt_portControl h1 h2 h3] at hs; cases hs
  have hcirc : ¬ (0x0510000 ≤ a ∧ a < 0x0520000 ∧ a % 16 = 0) := fun ⟨h1, h2, h3⟩ => by
    rw [Reg.maskAt_circuit h1 h2 h3] at hs; cases hs
  unfold writeLink
  rw [if_neg hlane, if_neg hport, if_neg (by omega), if_neg (by omega), if_neg hcirc]

theorem writeMid_plain (h : ¬ Reg.HasCommand a) (hs : (Reg.maskAt a).stop = 0) : s.writeMid a v = s.writePlain a v := by
  simp only [Reg.HasCommand, List.mem_cons, not_or] at h
  have hpol : ¬ (Reg.chnPolicy ≤ a ∧ a < Reg.chnPolicy + 128) := fun ⟨h1, h2⟩ => by
    rw [Reg.maskAt_chnPolicy h1 h2] at hs; cases hs
  unfold writeMid
  simp only [h, hpol, if_false]

theorem writeHigh_plain (h : ¬ Reg.HasCommand a) : s.writeHigh a v = s.writePlain a v := by
  simp only [Reg.HasCommand, List.mem_cons, not_or] at h
  unfold writeHigh
  simp only [h, if_false]

theorem writePlain_of_not_clears (hc : (Reg.clears a).all (fun y => !v.getLsbD y.1) = true) : s.writePlain a v = s.storeReg a v := by
  unfold writePlain
  cases hr : Reg.clears a with
  | none => rfl
  | some y =>
    rw [hr] at hc
    simp only [Option.all_some, Bool.not_eq_true'] at hc
    simp [hc]

theorem regWrite_of_hidden (h : s.hidden a = true) : s.regWrite a v = s := if_pos h

theorem regWrite_plain (hh : s.hidden a = false) (h : ¬ Reg.HasCommand a) (hs : (Reg.maskAt a).stop = 0)
    (hc : (Reg.clears a).all (fun y => !v.getLsbD y.1) = true) : s.regWrite a v = s.storeReg a v := by
  unfold regWrite
  rw [hh, if_neg (by simp), writeLow_plain h, writeTim_plain h, writeLink_plain h hs, writeMid_plain h hs, writeHigh_plain h,
    writePlain_of_not_clears hc]
  simp only [ite_self]

/-! ### What a plain write stores -/

/-- The word a write stores where no STOP field is in it: RW and SH bits as written, W1C bits cleared by 1. -/
def mergedWord (s : State) (a : Nat) (v : Word) : Word :=
  let m := Reg.maskAt a
  let take := BitVec.ofNat 32 (m.rw ||| m.sh)
  (s.reg a &&& ~~~take &&& ~~~(BitVec.ofNat 32 m.w1c &&& v)) ||| (BitVec.ofNat 32 (Reg.norm a v.toNat) &&& take)

theorem stopHeld_of_no_stop (hs : (Reg.maskAt a).stop = 0) : s.stopHeld a = 0 := by
  unfold stopHeld
  exact if_pos hs

theorem merged_of_no_stop (hs : (Reg.maskAt a).stop = 0) : s.merged a v = (s.mergedWord a v, false) := by
  simp [merged, mergedWord, stopHeld_of_no_stop hs, hs]

theorem getLsbD_mergedWord {k : Nat} (hk : k < 32) : (s.mergedWord a v).getLsbD k =
    if ((Reg.maskAt a).rw ||| (Reg.maskAt a).sh).testBit k then (Reg.norm a v.toNat).testBit k
    else if (Reg.maskAt a).w1c.testBit k then (s.reg a).getLsbD k && !v.getLsbD k else (s.reg a).getLsbD k := by
  simp only [mergedWord, BitVec.getLsbD_or, BitVec.getLsbD_and, BitVec.getLsbD_not, BitVec.getLsbD_ofNat, hk, decide_true, Bool.true_and]
  cases ((Reg.maskAt a).rw ||| (Reg.maskAt a).sh).testBit k <;> cases (Reg.maskAt a).w1c.testBit k <;> simp

theorem storeReg_rw (hs : (Reg.maskAt a).stop = 0) (hsh : (Reg.maskAt a).sh = 0) : s.storeReg a v = s.setReg a (s.mergedWord a v) := by
  simp [storeReg, merged_of_no_stop hs, hsh]

theorem storeReg_sh (hs : (Reg.maskAt a).stop = 0) (hsh : (Reg.maskAt a).sh ≠ 0) : s.storeReg a v = s.shadow a (s.mergedWord a v) := by
  simp [storeReg, merged_of_no_stop hs, hsh]

/-- Every SH register outside the time bases and the framers' settings, whose writes are commands, has a unit with a safe point. -/
theorem shUnit_of_sh (h : ¬ Reg.HasCommand a) (hsh : (Reg.maskAt a).sh ≠ 0) : shUnit a ≠ none := by
  simp only [Reg.HasCommand, not_or] at h
  obtain ⟨-, -, -, htim, htrk, -⟩ := h
  unfold Reg.timBase Reg.timCap at htim
  unfold Reg.maskAt at hsh
  split at hsh
  · exact absurd Reg.maskLow_sh hsh
  · split at hsh
    · have := Reg.maskTim_sh hsh
      unfold Reg.timBase Reg.timPulse at this
      omega
    · split at hsh
      · have := Reg.maskLink_sh hsh
        omega
      · have := Reg.maskHigh_sh hsh
        unfold Reg.chnProfile Reg.chnPolicy Reg.pmuSampleCfg Reg.pmuSamplePeriod Reg.pmuCntCfg at this
        unfold shUnit
        rw [if_neg (by omega), if_neg (by omega), if_neg (by omega)]
        split
        · simp
        · rw [if_pos (by omega)]
          simp

theorem inForce_lt (s : State) (a : Nat) : s.inForce a < 2 ^ 32 := by
  unfold inForce
  split
  · exact BitVec.isLt _
  · exact BitVec.isLt _

/-- A shadow written: the word is stored, the value in force stays, and the register waits for its safe point (17 R592). -/
theorem shadow_spec (hu : shUnit a ≠ none) (w : Word) : (s.shadow a w).reg a = w ∧ (s.shadow a w).inForce a = s.inForce a ∧
    (∃ e ∈ (s.shadow a w).live.waiting, e.addr = a ∧ e.released = !s.hold) ∧ Changes [.inforce, .live] [a] [] s (s.shadow a w) := by
  unfold shadow
  cases hx : shUnit a with
  | none => exact absurd hx hu
  | some u =>
    refine ⟨reg_setReg_same s a w, ?_, ⟨_, List.mem_append.2 (.inr List.mem_cons_self), rfl, rfl⟩, ?_⟩
    · simp only [inForce, Tab.find_ins_same]
      exact (BitVec.toNat_ofNat _ _).trans (Nat.mod_eq_of_lt (inForce_lt s a))
    · have h1 := (setReg_changes s a w).mono (qs := [.inforce, .live]) (by simp) (fun _ h => h) (fun _ h => h)
      exact h1.trans (Changes.of (by intro p hp; cases p <;> first | rfl | exact absurd (by decide) hp) rfl rfl)

end State

/-- A served write of a register without a command. -/
theorem registerWrite_plain (r : Req) (a : Nat) (v : Word) (s : State) (ha : busAddr r a = true) (h1 : r ≠ .pf1) (h2 : r ≠ .pf0Bar2)
    (hal : s.allows r a = true) (h : ¬ Reg.HasCommand a) (hs : (Reg.maskAt a).stop = 0)
    (hc : (Reg.clears a).all (fun y => !v.getLsbD y.1) = true) :
    ∃ t, exec (.registerWrite r a 15 v) s = .next t ∧
      (let m := Reg.maskAt a
       if s.hidden a then t = s
       else (∀ k < 32, (t.reg a).getLsbD k = if (m.rw ||| m.sh).testBit k then (Reg.norm a v.toNat).testBit k
           else if m.w1c.testBit k then (s.reg a).getLsbD k && !v.getLsbD k else (s.reg a).getLsbD k) ∧
         (if m.sh = 0 then State.Changes [] [a] [] s t
          else t.inForce a = s.inForce a ∧ (∃ e ∈ t.live.waiting, e.addr = a ∧ e.released = !s.hold) ∧
            State.Changes [.inforce, .live] [a] [] s t)) := by
  refine ⟨s.regWrite a v, (exec_registerWrite_bar0 ⟨h1, h2⟩ (busAddr_bar0 ⟨h1, h2⟩ a ▸ ha) v s).trans
    (congrArg _ (State.wr_of_allows hal _)), ?_⟩
  cases hh : s.hidden a
  · rw [State.regWrite_plain hh h hs hc, if_neg (by simp)]
    by_cases hsh : (Reg.maskAt a).sh = 0
    · rw [State.storeReg_rw hs hsh, if_pos hsh, State.reg_setReg_same]
      exact ⟨fun k hk => State.getLsbD_mergedWord hk, State.setReg_changes _ _ _⟩
    · rw [State.storeReg_sh hs hsh, if_neg hsh]
      obtain ⟨hreg, hforce, hwait, hch⟩ := State.shadow_spec (s := s) (State.shUnit_of_sh h hsh) (s.mergedWord a v)
      rw [hreg]
      exact ⟨fun k hk => State.getLsbD_mergedWord hk, hforce, hwait, hch⟩
  · rw [State.regWrite_of_hidden hh, if_pos rfl]

/-! ## Writes that are commands (00 R13) -/

section
variable {s : State} {v : Word}

/-- Outside the windows of lanes, ports and framers nothing is hidden. -/
theorem State.hidden_outside_links {a : Nat} (s : State) (h : a < 0x0200000 ∨ 0x0508800 ≤ a) : s.hidden a = false := by
  unfold State.hidden
  rw [if_neg (by omega), if_neg (by omega), if_neg (by omega)]

theorem State.regWrite_low {a : Nat} (h : a < 0x0100000) (s : State) (v : Word) : s.regWrite a v = s.writeLow a v := by
  rw [State.regWrite, State.hidden_outside_links s (by omega), if_neg (by simp), if_pos h]

theorem State.regWrite_tim {a : Nat} (h : 0x0100000 ≤ a) (h' : a < 0x0200000) (s : State) (v : Word) : s.regWrite a v = s.writeTim a v := by
  rw [State.regWrite, State.hidden_outside_links s (by omega), if_neg (by simp), if_neg (by omega), if_pos h']

theorem State.writeHigh_pmuRingCtrl (s : State) (v : Word) : s.writeHigh Reg.pmuRingCtrl v = s.ringEnable v := by
  unfold State.writeHigh
  rw [if_neg (by decide), if_neg (by decide), if_pos rfl]

theorem State.regWrite_mid {a : Nat} (h : 0x0600000 ≤ a) (h' : a < 0x0C00000) (s : State) (v : Word) : s.regWrite a v = s.writeMid a v := by
  rw [State.regWrite, State.hidden_outside_links s (by omega), if_neg (by simp), if_neg (by omega), if_neg (by omega), if_neg (by omega),
    if_pos h']

theorem State.regWrite_high {a : Nat} (h : 0x0C00000 ≤ a) (s : State) (v : Word) : s.regWrite a v = s.writeHigh a v := by
  rw [State.regWrite, State.hidden_outside_links s (by omega), if_neg (by simp), if_neg (by omega), if_neg (by omega), if_neg (by omega),
    if_neg (by omega)]

/-- A write of PF0 that is a command has the command's effect where it is allowed. -/
theorem exec_registerWrite_command {a : Nat} {f : State → State} {c : Instr} (ha : Reg.okAddr a = true) (hf : ∀ s, s.regWrite a v = f s)
    (hc : exec c s = .next (s.wr .pf0 a f)) : ∃ t, exec (.registerWrite .pf0 a 15 v) s = .next t ∧ exec c s = .next t := by
  have h : (fun s : State => s.regWrite a v) = f := funext hf
  exact ⟨_, exec_registerWrite_bar0 ⟨by decide, by decide⟩ ha v s, h ▸ hc⟩

theorem State.onBit_set {b : Nat} (h : v.getLsbD b = true) (f : State → State) (s : State) : s.onBit v b f = f s := if_pos h

end

/-! ## Register reads by a requester (00 R12; 03 R91) -/

namespace State

variable {s : State} {a : Nat}

theorem rd_of_not_reaches {r : Req} (h : s.reaches r a = false) : s.rd r a = s := by
  simp [rd, h]

theorem rd_of_not_answers {r : Req} (hr : s.reaches r a = true) (ha : s.answers a = false) : s.rd r a = s.accErr.answer 0xFFFFFFFF := by
  simp [rd, busRead, hr, ha]

theorem regValue_of_hidden (h : s.hidden a = true) : s.regValue a = 0 := if_pos h

/-- A read with no latch and no effect of its own. -/
theorem readReg_plain (hv : s.pairValue a = none) (hh : isHigh a = false) (hl : Reg.isLane a = false) (hp : a ≠ Reg.pldArbMax) (r : Req) :
    s.readReg r a = (s.regValue a, s) := by
  cases h : s.hidden a
  · simp [readReg, h, hv, hh, hl, hp]
  · rw [readReg_of_hidden h, regValue_of_hidden h]

/-- Reading PLD_ARB_MAX reloads it (08 R341). -/
theorem readReg_pldArbMax (r : Req) : s.readReg r Reg.pldArbMax = (s.regValue Reg.pldArbMax, { s with arbMax := 0 }) := by
  have h : s.hidden Reg.pldArbMax = false := hidden_outside_links s (by decide)
  have hv : s.pairValue Reg.pldArbMax = none := rfl
  have hh : isHigh Reg.pldArbMax = false := by decide
  have hl : Reg.isLane Reg.pldArbMax = false := by decide
  simp [readReg, h, hv, hh, hl]

theorem setLane_only (l : Nat) (v : Lane) : Only [.lanes, .latch, .arbMax] s (s.setLane l v) := by
  intro p hp
  cases p
  case lanes => simp at hp
  all_goals rfl

theorem setLatch_only (r : Req) (b : Nat) (v : Word) : Only [.lanes, .latch, .arbMax] s (s.setLatch r b v) := by
  intro p hp
  cases p
  case latch => simp at hp
  all_goals rfl

theorem arbMax_only (n : Nat) : Only [.lanes, .latch, .arbMax] s { s with arbMax := n } := by
  intro p hp
  cases p
  case arbMax => simp at hp
  all_goals rfl

/-- What a read may change: a minimum taken up anew, a latch, PLD_ARB_MAX. -/
theorem readReg_only (r : Req) : Only [.lanes, .latch, .arbMax] s (s.readReg r a).2 := by
  unfold readReg
  split
  · exact .refl _ s
  · split
    · exact setLatch_only _ _ _
    · split
      · exact .refl _ s
      · split
        · dsimp only
          split
          · exact setLane_only _ _
          · split
            · exact setLatch_only _ _ _
            · split <;> exact .refl _ s
        · split
          · exact arbMax_only _
          · exact .refl _ s

/-- IDN_ID (19 R626). -/
theorem regValue_idnId (h : s.reg 0 = 0) : s.regValue 0 = 0x06432F47 := by
  have hr : s.roBits 0 = 0x06432F47 := rfl
  unfold regValue
  rw [hidden_outside_links s (by decide), h, hr]
  decide

end State

/-- A read of a BAR0 register by any requester: unreached, unanswered, or the register's value. -/
theorem registerRead_spec (r : Req) (a : Nat) (s : State) (ha : busAddr r a = true) (h1 : r ≠ .pf1) (h2 : r ≠ .pf0Bar2) :
    ∃ t, exec (.registerRead r a) s = .next t ∧
      (if s.reaches r a = false then t = s
       else if s.answers a = false then State.AccErrs { s.bus with rdata := 0xFFFFFFFF } s t
       else (s.pairValue a = none → State.isHigh a = false → ¬ (0x0200000 ≤ a ∧ a < 0x0400000) → a ≠ Reg.pldArbMax →
           t = s.answer (s.regValue a)) ∧
         (a = 0 → s.reg 0 = 0 → t = s.answer 0x06432F47) ∧ (a = Reg.pldArbMax → t.bus = (s.answer (s.regValue a)).bus ∧ t.arbMax = 0) ∧
         State.Only [.lanes, .hostPorts, .linePorts, .latch, .bus, .arbMax] s t) := by
  refine ⟨_, exec_registerRead_bar0 ⟨h1, h2⟩ (busAddr_bar0 ⟨h1, h2⟩ a ▸ ha) s, ?_⟩
  cases hr : s.reaches r a
  · rw [if_pos rfl, State.rd_of_not_reaches hr]
  · rw [if_neg (by simp)]
    cases hans : s.answers a
    · rw [if_pos rfl, State.rd_of_not_answers hr hans]
      exact s.accErr_answer _
    · rw [if_neg (by simp), State.rd_of_answers hr hans]
      refine ⟨fun hv hh hl hp => ?_, fun h0 hreg => ?_, fun hp => ?_, ?_⟩
      · have hlane : Reg.isLane a = false := decide_eq_false (by omega)
        rw [State.readReg_plain hv hh hlane hp]
      · subst h0
        rw [State.readReg_plain (a := 0) rfl (by decide) (by decide) (by decide), State.regValue_idnId hreg]
      · subst hp
        rw [State.readReg_pldArbMax]
        exact ⟨rfl, rfl⟩
      · exact ((State.readReg_only r).mono (by decide)).trans ((State.answer_only _ _).mono (by decide))

/-! ## PF0's second window and PF1 (16 R560; 19 R622, R623) -/

namespace State

variable {s : State} {a : Nat}

theorem pf0Serves_eq_false : s.pf0Serves = false ↔ s.pcie.perst = true ∨ d3hot s.pcie.cfg0 = true := by
  show (!s.pcie.perst && !d3hot s.pcie.cfg0) = false ↔ _
  cases s.pcie.perst <;> simp

theorem bar2Answers_eq_false :
    s.bar2Answers = false ↔ s.running = false ∨ s.lev.locked = true ∨ s.vaultValid = false ∨ s.evt.c4.isSome = true := by
  unfold bar2Answers shut
  cases s.running <;> cases s.lev.locked <;> cases s.vaultValid <;> cases s.evt.c4 <;> simp

theorem bar2Read_eq (s : State) (a : Nat) : s.bar2Read a = if a < 0x1000 then Tab.get msixReset s.pcie.msix a
    else if 0x2000 ≤ a ∧ a < 0x2020 then BitVec.ofNat 32 (s.evt.pba.toNat / 2 ^ (8 * (a - 0x2000))) else 0 := by
  have h : ∀ x : Nat, BitVec.ofNat 32 (x % 2 ^ 32) = BitVec.ofNat 32 x := fun x => BitVec.eq_of_toNat_eq (by simp)
  unfold bar2Read Bits.field
  rw [h]

theorem bar2Read_bar2Write_same (h : a < 0x1000) (v : Word) : (s.bar2Write a v).bar2Read a = v &&& msixMask a := by
  unfold bar2Write
  rw [if_pos h]
  exact (if_pos h).trans (Tab.get_put_same _ _ _ _)

theorem bar2Read_bar2Write_other {b : Nat} (hb : b ≠ a) (v : Word) : (s.bar2Write a v).bar2Read b = s.bar2Read b := by
  unfold bar2Write
  split
  · rw [bar2Read_eq, bar2Read_eq]
    exact ite_congr rfl (fun _ => Tab.get_put_other _ _ hb _) fun _ => rfl
  · rfl

/-- A write of the window changes the MSI-X table only. -/
theorem bar2Write_msix (v : Word) : s.bar2Write a v = { s with pcie := { s.pcie with msix := (s.bar2Write a v).pcie.msix } } := by
  unfold bar2Write
  split <;> rfl

theorem bar2Write_of_ge (h : ¬ a < 0x1000) (v : Word) : s.bar2Write a v = s := if_neg h

end State

theorem exec_registerWrite_bar2 {a : Nat} (ha : busAddr .pf0Bar2 a = true) (v : Word) (s : State) :
    exec (.registerWrite .pf0Bar2 a 15 v) s =
      .next (if s.pf0Serves = false then s else if s.bar2Answers = false then s.accErr else s.bar2Write a v) :=
  if_pos ha

theorem exec_registerRead_bar2 {a : Nat} (ha : busAddr .pf0Bar2 a = true) (s : State) :
    exec (.registerRead .pf0Bar2 a) s = .next (if s.pf0Serves = false then s
      else if s.bar2Answers = false then s.accErr.answer 0xFFFFFFFF else s.answer (s.bar2Read a)) :=
  if_pos ha

/-- PF0's second window: the MSI-X table and the pending bits, served as long as PF0 answers. -/
theorem bar2Access_spec (a : Nat) (be : BitVec 4) (v : Word) (write : Bool) (s : State) (ha : busAddr .pf0Bar2 a = true) :
    ∃ t, exec (if write then .registerWrite .pf0Bar2 a be v else .registerRead .pf0Bar2 a) s = .next t ∧
      (if s.pcie.perst = true ∨ State.d3hot s.pcie.cfg0 = true ∨ (write = true ∧ be ≠ 15) then t = s
       else if s.running = false ∨ s.lev.locked = true ∨ s.vaultValid = false ∨ s.evt.c4.isSome = true then
         State.AccErrs (if write then s.bus else { s.bus with rdata := 0xFFFFFFFF }) s t
       else if write then
         (if a < 0x1000 then t.bar2Read a = v &&& (if a % 16 = 0 then 0xFFFFFFFC else if a % 16 = 12 then 1 else 0xFFFFFFFF) ∧
            (∀ b, b ≠ a → t.bar2Read b = s.bar2Read b) ∧ t = { s with pcie := { s.pcie with msix := t.pcie.msix } }
          else t = s)
       else t = s.answer (if a < 0x1000 then Tab.get State.msixReset s.pcie.msix a
         else if 0x2000 ≤ a ∧ a < 0x2020 then BitVec.ofNat 32 (s.evt.pba.toNat / 2 ^ (8 * (a - 0x2000))) else 0)) := by
  cases write
  case false =>
    refine ⟨_, exec_registerRead_bar2 ha s, ?_⟩
    simp only [Bool.false_eq_true, false_and, or_false, if_false, ← State.pf0Serves_eq_false, ← State.bar2Answers_eq_false, ← State.bar2Read_eq]
    split
    · rfl
    · split
      · exact s.accErr_answer _
      · rfl
  case true =>
    by_cases hb : be = 15
    · subst hb
      refine ⟨_, exec_registerWrite_bar2 ha v s, ?_⟩
      simp only [ne_eq, not_true_eq_false, and_false, or_false, if_true, ← State.pf0Serves_eq_false, ← State.bar2Answers_eq_false]
      split
      · rfl
      · split
        · exact s.accErr_accErrs
        · split
          · exact ⟨State.bar2Read_bar2Write_same ‹_› v, fun b hb => State.bar2Read_bar2Write_other hb v, State.bar2Write_msix v⟩
          · exact State.bar2Write_of_ge ‹_› v
    · exact ⟨s, exec_registerWrite_partial ha hb v s, by rw [if_pos (.inr (.inr ⟨rfl, hb⟩))]⟩

theorem exec_observerAccess {off : Nat} (h : off % 4 = 0 ∧ off < 0x10000) (write : Bool) (v : Word) (s : State) :
    exec (.observerAccess off write v) s = .next (s.observer off write) := if_pos h

theorem State.read_pf1 (s : State) (a : Nat) : s.read .pf1 a = s.observer (a - 0x0E00000) false := by
  unfold State.read
  rfl

theorem State.write_pf1 (s : State) (a : Nat) (v : Word) : s.write .pf1 a 15 v = s.observer (a - 0x0E00000) true := by
  unfold State.write
  rw [if_neg (by simp)]

/-- PF1's accesses are the observer's (18 R615). -/
theorem pf1Access_spec (a : Nat) (be : BitVec 4) (v : Word) (s : State) (ha : busAddr .pf1 a = true) :
    ∃ t u, exec (.registerWrite .pf1 a be v) s = .next t ∧
      (if be = 15 then exec (.observerAccess (a - 0x0E00000) true v) s = .next t else t = s) ∧
      exec (.registerRead .pf1 a) s = .next u ∧ exec (.observerAccess (a - 0x0E00000) false v) s = .next u := by
  obtain ⟨h4, hlo, hhi⟩ := of_decide_eq_true ha
  have hoff : (a - 0x0E00000) % 4 = 0 ∧ a - 0x0E00000 < 0x10000 := by omega
  have hread : exec (.registerRead .pf1 a) s = .next (s.read .pf1 a) := if_pos ha
  rw [State.read_pf1] at hread
  by_cases hb : be = 15
  · subst hb
    have hwrite : exec (.registerWrite .pf1 a 15 v) s = .next (s.write .pf1 a 15 v) := if_pos ha
    rw [State.write_pf1] at hwrite
    exact ⟨_, _, hwrite, by rw [if_pos rfl, exec_observerAccess hoff], hread, exec_observerAccess hoff _ _ _⟩
  · exact ⟨s, _, exec_registerWrite_partial ha hb v s, by rw [if_neg hb], hread, exec_observerAccess hoff _ _ _⟩

/-! ## PCIe configuration space and link (03 R93; 19 R620, R625, R636) -/

namespace PciCfg

theorem enabled_testBit : ∀ (be : BitVec 4) (k : Fin 32), (enabled be).testBit k = be.getLsbD (k / 8) := by decide

theorem norm_other {a : Nat} (h1 : a ≠ 0x44) (h2 : a ≠ 0x58) (old v : Nat) : norm a old v = v := by
  rw [norm, if_neg h1, if_neg h2]

/-- The bits of word `a` that a configuration write with byte enables `be` reaches. -/
def taken (pf1 : Bool) (a : Nat) (be : BitVec 4) : Word := BitVec.ofNat 32 (writable pf1 a &&& enabled be)

/-- The word a configuration write calls for. -/
def written (pf1 : Bool) (a : Nat) (be : BitVec 4) (old v : Word) : Word :=
  (old &&& ~~~taken pf1 a be) ||| (v &&& taken pf1 a be)

theorem getLsbD_written (pf1 : Bool) (a : Nat) (be : BitVec 4) (old v : Word) {k : Nat} (hk : k < 32) :
    (written pf1 a be old v).getLsbD k =
      if (writable pf1 a).testBit k = true ∧ be.getLsbD (k / 8) = true then v.getLsbD k else old.getLsbD k := by
  have he : (enabled be).testBit k = be.getLsbD (k / 8) := enabled_testBit be ⟨k, hk⟩
  simp only [written, taken, BitVec.getLsbD_or, BitVec.getLsbD_and, BitVec.getLsbD_not, BitVec.getLsbD_ofNat, hk, decide_true, Bool.true_and,
    Nat.testBit_and, he]
  cases (writable pf1 a).testBit k <;> cases be.getLsbD (k / 8) <;> simp

theorem mod_four_congr {x y : Word} (h : ∀ k < 2, x.getLsbD k = y.getLsbD k) : x.toNat % 4 = y.toNat % 4 := by
  refine Nat.eq_of_testBit_eq fun i => ?_
  rw [show 4 = 2 ^ 2 from rfl, Nat.testBit_mod_two_pow, Nat.testBit_mod_two_pow]
  by_cases hi : i < 2
  · exact congrArg _ (h i hi)
  · simp [hi]

/-- PowerState is written where byte 0 is enabled. -/
theorem written_powerState (pf1 : Bool) (be : BitVec 4) (old v : Word) :
    (written pf1 0x44 be old v).toNat % 4 = if be.getLsbD 0 then v.toNat % 4 else old.toNat % 4 := by
  have hw : ∀ k < 2, (writable pf1 0x44).testBit k = true := by decide +revert
  have hb : ∀ k < 2, (written pf1 0x44 be old v).getLsbD k = if be.getLsbD 0 = true then v.getLsbD k else old.getLsbD k := by
    intro k hk
    rw [getLsbD_written _ _ _ _ _ (by omega), show k / 8 = 0 by omega]
    simp [hw k hk]
  split
  · exact mod_four_congr fun k hk => by rw [hb k hk, if_pos ‹_›]
  · exact mod_four_congr fun k hk => by rw [hb k hk, if_neg ‹_›]

/-- The word stored: only D0 and D3hot are taken as PowerState, and of Max_Payload_Size 128 and 256 bytes. -/
def stored (pf1 : Bool) (a : Nat) (be : BitVec 4) (old v : Word) : Word :=
  BitVec.ofNat 32 (norm a old.toNat (written pf1 a be old v).toNat)

theorem stored_other {a : Nat} (h1 : a ≠ 0x44) (h2 : a ≠ 0x58) (pf1 : Bool) (be : BitVec 4) (old v : Word) :
    stored pf1 a be old v = written pf1 a be old v := by
  rw [stored, norm_other h1 h2, BitVec.ofNat_toNat, BitVec.setWidth_eq]

theorem stored_powerState (pf1 : Bool) (be : BitVec 4) (old v : Word) : (stored pf1 0x44 be old v).toNat % 4 =
    if be.getLsbD 0 = true ∧ (v.toNat % 4 = 0 ∨ v.toNat % 4 = 3) then v.toNat % 4 else old.toNat % 4 := by
  have hp := written_powerState pf1 be old v
  have hn : (stored pf1 0x44 be old v).toNat = if (written pf1 0x44 be old v).toNat % 4 = 0 ∨ (written pf1 0x44 be old v).toNat % 4 = 3
      then (written pf1 0x44 be old v).toNat else old.toNat := by
    rw [stored, norm, if_pos rfl, BitVec.toNat_ofNat]
    split
    · exact Nat.mod_eq_of_lt (BitVec.isLt _)
    · exact Nat.mod_eq_of_lt (BitVec.isLt _)
  rw [hn]
  by_cases hb : be.getLsbD 0 = true
  · rw [if_pos hb] at hp
    simp only [hb, true_and]
    split <;> split <;> omega
  · rw [if_neg hb] at hp
    have hf : ¬ (be.getLsbD 0 = true ∧ (v.toNat % 4 = 0 ∨ v.toNat % 4 = 3)) := fun h => hb h.1
    rw [if_neg hf]
    split <;> omega

end PciCfg

namespace State

variable {s : State} {pf1 : Bool} {a : Nat} {be : BitVec 4} {v : Word}

/-- A stored configuration word of a function. -/
def cfgWord (s : State) (pf1 : Bool) (a : Nat) : Word := Tab.get PciCfg.resetOf (s.cfgOf pf1) a

theorem cfgOf_setCfg (s : State) (pf1 : Bool) (t : Tab Word) : (s.setCfg pf1 t).cfgOf pf1 = t := by cases pf1 <;> rfl

theorem setCfg_only (s : State) (pf1 : Bool) (t : Tab Word) : Only [.bus, .pcie] s (s.setCfg pf1 t) := by
  intro p hp
  cases p
  case pcie => simp at hp
  all_goals cases pf1 <;> rfl

theorem d3hot_iff (cfg : Tab Word) : d3hot cfg = true ↔ (Tab.get PciCfg.resetOf cfg 0x44).toNat % 4 = 3 := by
  have h : Tab.get PciCfg.resetOf cfg 0x44 = Tab.get (fun _ => 0) cfg 0x44 := rfl
  rw [h, d3hot, decide_eq_true_iff]

/-- A write that takes a function from D3hot to D0 (19 R625). -/
def wakesCfg (s : State) (pf1 : Bool) (a : Nat) (be : BitVec 4) (v : Word) : Prop :=
  a = 0x44 ∧ d3hot (s.cfgOf pf1) = true ∧ be.getLsbD 0 = true ∧ v.toNat % 4 = 0

theorem cfgWrite_eq (s : State) (pf1 : Bool) (a : Nat) (v : Word) (be : BitVec 4) : s.cfgWrite pf1 a v be =
    if a = 0x44 ∧ d3hot (s.cfgOf pf1) = true ∧ (PciCfg.stored pf1 a be (s.cfgWord pf1 a) v).toNat % 4 = 0 then s.setCfg pf1 []
    else s.setCfg pf1 (Tab.put PciCfg.resetOf (s.cfgOf pf1) a (PciCfg.stored pf1 a be (s.cfgWord pf1 a) v)) := rfl

/-- The model's test for a D3hot to D0 move, in terms of the bits the request writes (log entry 28). -/
theorem cfgWrite_cond : (a = 0x44 ∧ d3hot (s.cfgOf pf1) = true ∧ (PciCfg.stored pf1 a be (s.cfgWord pf1 a) v).toNat % 4 = 0) ↔
    s.wakesCfg pf1 a be v := by
  refine and_congr_right fun ha => and_congr_right fun hd => ?_
  subst ha
  have hold : (s.cfgWord pf1 0x44).toNat % 4 = 3 := (d3hot_iff _).1 hd
  rw [PciCfg.stored_powerState]
  split
  · rename_i h
    exact ⟨fun h0 => ⟨h.1, h0⟩, fun h0 => h0.2⟩
  · rename_i h
    exact ⟨fun h0 => by omega, fun h0 => absurd ⟨h0.1, .inl h0.2⟩ h⟩

theorem cfgWrite_of_wakes (h : s.wakesCfg pf1 a be v) : s.cfgWrite pf1 a v be = s.setCfg pf1 [] := by
  rw [cfgWrite_eq, if_pos (cfgWrite_cond.2 h)]

theorem cfgWrite_of_not_wakes (h : ¬ s.wakesCfg pf1 a be v) : s.cfgWrite pf1 a v be =
    s.setCfg pf1 (Tab.put PciCfg.resetOf (s.cfgOf pf1) a (PciCfg.stored pf1 a be (s.cfgWord pf1 a) v)) := by
  rw [cfgWrite_eq, if_neg (fun g => h (cfgWrite_cond.1 g))]

theorem cfgWrite_setCfg : s.cfgWrite pf1 a v be = s.setCfg pf1 ((s.cfgWrite pf1 a v be).cfgOf pf1) := by
  by_cases h : s.wakesCfg pf1 a be v
  · rw [cfgWrite_of_wakes h, cfgOf_setCfg]
  · rw [cfgWrite_of_not_wakes h, cfgOf_setCfg]

theorem cfgWord_cfgWrite_same (h : ¬ s.wakesCfg pf1 a be v) :
    (s.cfgWrite pf1 a v be).cfgWord pf1 a = PciCfg.stored pf1 a be (s.cfgWord pf1 a) v := by
  rw [cfgWord, cfgWrite_of_not_wakes h, cfgOf_setCfg]
  exact Tab.get_put_same _ _ _ _

theorem cfgWord_cfgWrite_other (h : ¬ s.wakesCfg pf1 a be v) {b : Nat} (hb : b ≠ a) :
    (s.cfgWrite pf1 a v be).cfgWord pf1 b = s.cfgWord pf1 b := by
  rw [cfgWord, cfgWrite_of_not_wakes h, cfgOf_setCfg]
  exact Tab.get_put_other _ _ hb _

theorem cfgAnswers_eq_false : s.cfgAnswers = false ↔ s.pcie.perst = true ∨ s.boot.state = .powerOk := by
  unfold cfgAnswers
  cases s.pcie.perst <;> simp

/-- The identity words of a function (19 R620), where no stored bit lies over them. -/
theorem cfgRead_id (h : s.cfgWord pf1 0 = 0) : s.cfgRead pf1 0 = if pf1 then 0x64331F7A else 0x64321F7A := by
  have e : s.cfgRead pf1 0 = s.cfgWord pf1 0 ||| BitVec.ofNat 32 (PciCfg.fixed pf1 0 ||| 0) := by simp [cfgRead, cfgWord]
  rw [e, h]
  cases pf1 <;> decide

theorem cfgRead_class (h : s.cfgWord pf1 8 = 0) : s.cfgRead pf1 8 = if pf1 then 0x11010000 else 0x10800000 := by
  have e : s.cfgRead pf1 8 = s.cfgWord pf1 8 ||| BitVec.ofNat 32 (PciCfg.fixed pf1 8 ||| 0) := by simp [cfgRead, cfgWord]
  rw [e, h]
  cases pf1 <;> decide

end State

/-- A configuration request is answered, or not, by the state of bring-up and PERST_N; a write sets one word of one function (log entries 9 and 28). -/
theorem configRequest_spec (pf1 write : Bool) (a : Nat) (v : Word) (be : BitVec 4) (s : State) (h4 : a % 4 = 0) (hlt : a < 4096) :
    ∃ t, exec (.pcieConfigRequest pf1 write a v be) s = .next t ∧
      (if s.pcie.perst = true ∨ s.boot.state = .powerOk then t = s
       else if write then
         t = s.setCfg pf1 (t.cfgOf pf1) ∧
         (if a = 0x44 ∧ State.d3hot (s.cfgOf pf1) = true ∧ be.getLsbD 0 = true ∧ v.toNat % 4 = 0 then t.cfgOf pf1 = []
          else (∀ b, b ≠ a → t.cfgWord pf1 b = s.cfgWord pf1 b) ∧
            (a ≠ 0x44 → a ≠ 0x58 → ∀ k < 32, (t.cfgWord pf1 a).getLsbD k =
              if (PciCfg.writable pf1 a).testBit k = true ∧ be.getLsbD (k / 8) = true then v.getLsbD k else (s.cfgWord pf1 a).getLsbD k) ∧
            (a = 0x44 → be.getLsbD 0 = true → v.toNat % 4 = 3 → State.d3hot (t.cfgOf pf1) = true))
       else t = s.answer (s.cfgRead pf1 a) ∧
         (a = 0 → s.cfgWord pf1 0 = 0 → s.cfgRead pf1 a = if pf1 then 0x64331F7A else 0x64321F7A) ∧
         (a = 8 → s.cfgWord pf1 8 = 0 → s.cfgRead pf1 a = if pf1 then 0x11010000 else 0x10800000)) ∧
      State.Only [.bus, .pcie] s t := by
  have he : exec (.pcieConfigRequest pf1 write a v be) s = if s.cfgAnswers = false then .next s
      else if write then .next (s.cfgWrite pf1 a v be) else .next (s.answer (s.cfgRead pf1 a)) := if_pos ⟨h4, hlt⟩
  rw [he]
  by_cases hans : s.cfgAnswers = false
  · rw [if_pos hans]
    exact ⟨s, rfl, by rw [if_pos (State.cfgAnswers_eq_false.1 hans)], .refl _ s⟩
  · rw [if_neg hans]
    simp only [← State.cfgAnswers_eq_false, if_neg hans]
    cases write
    case false =>
      refine ⟨_, rfl, ⟨rfl, fun h0 hw => ?_, fun h8 hw => ?_⟩, (State.answer_only _ _).mono (by decide)⟩
      · rw [h0, State.cfgRead_id hw]
      · rw [h8, State.cfgRead_class hw]
    case true =>
      refine ⟨_, rfl, ⟨State.cfgWrite_setCfg, ?_⟩, ?_⟩
      · split
        case isTrue hw => rw [State.cfgWrite_of_wakes hw, State.cfgOf_setCfg]
        case isFalse hw =>
          refine ⟨fun b hb => State.cfgWord_cfgWrite_other hw hb, fun h1 h2 k hk => ?_, fun ha hb hv => ?_⟩
          · rw [State.cfgWord_cfgWrite_same hw, PciCfg.stored_other h1 h2, PciCfg.getLsbD_written _ _ _ _ _ hk]
          · subst ha
            refine (State.d3hot_iff _).2 ((congrArg (fun w : Word => w.toNat % 4) (State.cfgWord_cfgWrite_same hw)).trans ?_)
            rw [PciCfg.stored_powerState, if_pos ⟨hb, .inr hv⟩, hv]
      · rw [State.cfgWrite_setCfg]
        exact State.setCfg_only _ _ _

/-- The link as the endpoint reports it. -/
def State.withLink (s : State) (up : Bool) (w sp : Nat) : State :=
  { s with pcie := { s.pcie with up := up, width := if up then w else 0, speed := if up then sp else 0 } }

theorem State.linkChange_same {s : State} {up : Bool} (h : up = s.pcie.up) (w sp : Nat) : s.linkChange up w sp = s.withLink up w sp :=
  if_pos h

theorem State.linkChange_differs {s : State} {up : Bool} (h : up ≠ s.pcie.up) (w sp : Nat) :
    s.linkChange up w sp = (s.withLink up w sp).cause Reg.idnEvent 6 254 0 := if_neg h

/-- A link change is kept, and raised as event 254 when the link came up or went down. -/
theorem linkChange_spec (up : Bool) (w sp : Fin 16) (s : State) : ∃ t, exec (.pcieLinkChange up w sp) s = .next t ∧
      (if up = true ∧ ¬ ((w.val = 1 ∨ w.val = 2 ∨ w.val = 4) ∧ 1 ≤ sp.val ∧ sp.val ≤ 4) then t = s
       else t.pcie = { s.pcie with up := up, width := if up then w.val else 0, speed := if up then sp.val else 0 } ∧
         (up ≠ s.pcie.up → t.regField Reg.idnEvent 6 1 = 1 ∧ State.Raised 254 s t) ∧ (up = s.pcie.up → t.evt = s.evt)) ∧
      State.Changes [.pcie, .evt] (Reg.idnEvent :: Reg.raiseWords) Reg.raiseCtrs s t := by
  by_cases hc : up = true ∧ ¬ ((w.val = 1 ∨ w.val = 2 ∨ w.val = 4) ∧ 1 ≤ sp.val ∧ sp.val ≤ 4)
  · exact ⟨s, if_pos hc, by rw [if_pos hc], .refl _ _ _ s⟩
  · refine ⟨s.linkChange up w.val sp.val, if_neg hc, ?_⟩
    rw [if_neg hc]
    have hp : State.Changes [.pcie, .evt] (Reg.idnEvent :: Reg.raiseWords) Reg.raiseCtrs s (s.withLink up w.val sp.val) :=
      .of (.pcie (by decide) (.refl _ s)) rfl rfl
    by_cases hu : up = s.pcie.up
    · rw [State.linkChange_same hu]
      exact ⟨⟨rfl, fun h => absurd hu h, fun _ => rfl⟩, hp⟩
    · rw [State.linkChange_differs hu]
      have hch := State.cause_changes (s.withLink up w.val sp.val) Reg.idnEvent 6 254 0 0 (by decide)
      have hr : State.Raised 254 (s.withLink up w.val sp.val) ((s.withLink up w.val sp.val).cause Reg.idnEvent 6 254 0) :=
        State.cause_raised _ _ _ _ _ _ (by decide) (by decide)
      exact ⟨⟨hch.parts .pcie (by decide), fun _ => ⟨State.cause_regField _ _ _ _ _ (by decide) (by decide) (by decide), hr⟩,
        fun h => absurd h hu⟩, hp.andThen hch (by decide) (fun _ h => h) (fun _ h => h)⟩

/-! ## I²C (19 R634, R635) -/

namespace State

variable {s : State} {a n : Nat}

/-- The status of an access to `n` words from an address: 0, or why it is refused (19 R631, R635). -/
def i2cStatus (s : State) (a n : Nat) : Nat :=
  if a % 4 ≠ 0 ∨ ¬ ((a + 4 * n ≤ 0x100) ∨ (Reg.levUnlCtrl ≤ a ∧ a + 4 * n ≤ 0x00301E4)) then 0x46
  else if (List.range n).all (fun k => s.answers (a + 4 * k)) = true then 0
  else if s.evt.c4.isSome then 0x67 else if s.running = true ∨ s.lev.locked = true then 0x55 else 0x64

/-- The two windows of I²C, each to its end. -/
theorem i2cWindow_iff (hn : 1 ≤ n) : (i2cAddr a = false ∨ a % 4 ≠ 0 ∨ i2cEnd a < a + 4 * n) ↔
    (a % 4 ≠ 0 ∨ ¬ ((a + 4 * n ≤ 0x100) ∨ (Reg.levUnlCtrl ≤ a ∧ a + 4 * n ≤ 0x00301E4))) := by
  have h : i2cAddr a = false ↔ ¬ (a < 0x100 ∨ (Reg.levUnlCtrl ≤ a ∧ a < 0x00301E4)) := by
    rw [i2cAddr, isUnlock, ← Bool.decide_or, decide_eq_false_iff_not]
  rw [h]
  unfold i2cEnd Reg.levUnlCtrl
  split <;> omega

theorem i2cRefusal_eq (hn : 1 ≤ n) (s : State) : s.i2cRefusal a n = if s.i2cStatus a n = 0 then none else some (s.i2cStatus a n) := by
  unfold i2cRefusal i2cStatus
  simp only [i2cWindow_iff hn]
  split
  · rfl
  · split
    · rfl
    · split
      · rfl
      · split <;> rfl

theorem i2cRefusal_of_ok (hn : 1 ≤ n) (h : s.i2cStatus a n = 0) : s.i2cRefusal a n = none := by
  rw [i2cRefusal_eq hn, if_pos h]

theorem i2cRefusal_of_refused (hn : 1 ≤ n) (h : s.i2cStatus a n ≠ 0) : s.i2cRefusal a n = some (s.i2cStatus a n) := by
  rw [i2cRefusal_eq hn, if_neg h]

/-- What an access that is not refused names. -/
theorem of_i2cStatus (h : s.i2cStatus a n = 0) : a % 4 = 0 ∧ ((a + 4 * n ≤ 0x100) ∨ (Reg.levUnlCtrl ≤ a ∧ a + 4 * n ≤ 0x00301E4)) ∧
    ∀ k < n, s.answers (a + 4 * k) = true := by
  unfold i2cStatus at h
  split at h
  · cases h
  · rename_i hw
    split at h
    · rename_i hans
      exact ⟨by omega, by omega, fun k hk => List.all_eq_true.1 hans k (List.mem_range.2 hk)⟩
    · repeat' split at h
      all_goals cases h

/-! ### Registers read in turn -/

/-- A register of I²C's windows read: only a latch may change. -/
theorem readReg_i2c (h : a < 0x0200000) (s : State) : (∃ x, (s.readReg .i2c a).2 = { s with latch := x }) ∧
    (s.pairValue a = none → isHigh a = false → (s.readReg .i2c a).1 = s.regValue a) := by
  have hh : s.hidden a = false := hidden_outside_links s (.inl h)
  cases hv : s.pairValue a with
  | some v =>
    rw [readReg_of_pair hh hv]
    exact ⟨⟨_, rfl⟩, fun h => by cases h⟩
  | none =>
    cases hi : isHigh a with
    | true =>
      rw [readReg_of_high hh hv hi]
      exact ⟨⟨s.latch, rfl⟩, fun _ h => by cases h⟩
    | false =>
      have hl : Reg.isLane a = false := decide_eq_false (by omega)
      rw [readReg_plain hv hi hl (by unfold Reg.pldArbMax; omega)]
      exact ⟨⟨s.latch, rfl⟩, fun _ _ => rfl⟩

theorem beBytes_length (n v : Nat) : (Bits.beBytes n v).length = n := by
  have h : ∀ v, (Bits.leBytes n v).length = n := by
    induction n with
    | zero => intro v; rfl
    | succ n ih => intro v; simp [Bits.leBytes, ih]
  rw [Bits.beBytes, List.length_reverse, h]

theorem i2cWords_succ (s : State) (a n : Nat) : s.i2cWords a (n + 1) =
    (Bits.beBytes 4 (s.readReg .i2c a).1.toNat ++ ((s.readReg .i2c a).2.i2cWords (a + 4) n).1, ((s.readReg .i2c a).2.i2cWords (a + 4) n).2) :=
  rfl

/-- Registers below the lanes' read in turn: only latches change, and each register reads its value but where that is a half of a pair. -/
theorem i2cWords_spec (h : a + 4 * n ≤ 0x0200000) (s : State) : (s.i2cWords a n).1.length = 4 * n ∧
    (∃ x, (s.i2cWords a n).2 = { s with latch := x }) ∧
    ∀ k < n, s.pairValue (a + 4 * k) = none → isHigh (a + 4 * k) = false →
      ((s.i2cWords a n).1.drop (4 * k)).take 4 = Bits.beBytes 4 (s.regValue (a + 4 * k)).toNat := by
  induction n generalizing a s with
  | zero => exact ⟨rfl, ⟨s.latch, rfl⟩, fun k hk => absurd hk (Nat.not_lt_zero k)⟩
  | succ n ih =>
    obtain ⟨⟨x, hx⟩, hval⟩ := readReg_i2c (a := a) (by omega) s
    obtain ⟨hlen, ⟨y, hy⟩, hrest⟩ := ih (a := a + 4) (by omega) { s with latch := x }
    have hfirst := beBytes_length 4 (s.readReg .i2c a).1.toNat
    rw [i2cWords_succ, hx]
    refine ⟨by rw [List.length_append, hfirst, hlen]; omega, ⟨y, hy⟩, fun k hk hv hi => ?_⟩
    cases k with
    | zero =>
      rw [List.drop_zero, List.take_append_of_le_length (Nat.le_of_eq hfirst.symm), List.take_of_length_le (Nat.le_of_eq hfirst)]
      exact congrArg (fun w : Word => Bits.beBytes 4 w.toNat) (hval hv hi)
    | succ k =>
      have ha : a + 4 * (k + 1) = a + 4 + 4 * k := by omega
      rw [ha] at hv hi ⊢
      rw [show 4 * (k + 1) = (Bits.beBytes 4 (s.readReg .i2c a).1.toNat).length + 4 * k by omega, List.drop_length_add_append]
      exact hrest k (by omega) hv hi

/-! ### The commands -/

/-- A transaction discarded as I2C_PROTOCOL. -/
def Discards (s t : State) : Prop :=
  t.regField Reg.idnEvent 7 1 = 1 ∧ Raised 255 s t ∧ Changes [.evt] (Reg.idnEvent :: Reg.raiseWords) Reg.raiseCtrs s t

theorem i2cBad_discards (s : State) : Discards s s.i2cBad :=
  ⟨cause_regField _ _ _ _ _ (by decide) (by decide) (by decide), cause_raised _ _ _ _ _ _ (by decide) (by decide),
    cause_changes _ _ _ _ _ _ (by decide)⟩

end State

/-- An I2C READ is refused with a status, or reads the words one after another as a requester's reads (log entry 34). -/
theorem i2cRead_spec (a n : Nat) (s : State) : ∃ t, exec (.i2cRead a n) s = .next t ∧
      (if n = 0 ∨ 16 < n then State.Discards s t
       else if s.i2cStatus a n ≠ 0 then t = s.i2cAnswer (s.i2cStatus a n) []
       else t.bus.status = 0 ∧ t.bus.rdata = s.bus.rdata ∧ t.bus.bytes.length = 4 * n ∧
         (∀ k < n, s.pairValue (a + 4 * k) = none → State.isHigh (a + 4 * k) = false →
           (t.bus.bytes.drop (4 * k)).take 4 = Bits.beBytes 4 (s.regValue (a + 4 * k)).toNat) ∧ State.Only [.bus, .latch] s t) := by
  refine ⟨s.i2cRead a n, rfl, ?_⟩
  unfold State.i2cRead
  by_cases hn : n = 0 ∨ 16 < n
  · rw [if_pos hn, if_pos hn]
    exact s.i2cBad_discards
  · rw [if_neg hn, if_neg hn]
    by_cases hs : s.i2cStatus a n = 0
    · obtain ⟨-, hw, -⟩ := State.of_i2cStatus hs
      obtain ⟨hlen, ⟨x, hx⟩, hval⟩ := State.i2cWords_spec (a := a) (n := n) (by unfold Reg.levUnlCtrl at hw; omega) s
      rw [if_neg (not_not_intro hs), State.i2cRefusal_of_ok (by omega) hs]
      dsimp only
      rw [hx]
      refine ⟨rfl, rfl, hlen, hval, fun p hp => ?_⟩
      cases p
      case bus | latch => simp at hp
      all_goals rfl
    · rw [if_pos hs, State.i2cRefusal_of_refused (by omega) hs]

/-- An I2C WRITE is refused with a status, or acts as a requester's write (log entry 34). -/
theorem i2cWrite_spec (a : Nat) (v : Word) (s : State) : ∃ t, exec (.i2cWrite a v) s = .next t ∧
      (if s.i2cStatus a 1 ≠ 0 then t = s.i2cAnswer (s.i2cStatus a 1) []
       else ∃ u, exec (.registerWrite .i2c a 15 v) s = .next u ∧ t = u.i2cAnswer 0 []) := by
  refine ⟨s.i2cWrite a v, rfl, ?_⟩
  unfold State.i2cWrite
  by_cases hs : s.i2cStatus a 1 = 0
  · obtain ⟨h4, hw, hans⟩ := State.of_i2cStatus hs
    unfold Reg.levUnlCtrl at hw
    have hok : Reg.okAddr a = true := decide_eq_true (by omega)
    have hr : s.reaches .i2c a = true := by
      have h : State.i2cAddr a = true := by
        unfold State.i2cAddr State.isUnlock Reg.levUnlCtrl
        rw [← Bool.decide_or, decide_eq_true_iff]
        omega
      exact h
    have ha : s.answers a = true := hans 0 (by omega)
    rw [if_neg (not_not_intro hs), State.i2cRefusal_of_ok (by omega) hs]
    refine ⟨_, exec_registerWrite_bar0 ⟨by decide, by decide⟩ hok v s, ?_⟩
    cases ht : s.takes a
    · rw [State.wr_of_not_takes hr ha ht]
      rfl
    · rw [State.wr_of_allows (by simp [State.allows, hr, ha, ht])]
      rfl
  · rw [if_pos hs, State.i2cRefusal_of_refused (by omega) hs]

/-- A message padded to a mailbox's size begins with itself. -/
theorem take_sliceZ {msg : Bytes} {n : Nat} (h : msg.length ≤ n) : (Bits.sliceZ msg 0 n).take msg.length = msg := by
  unfold Bits.sliceZ Bits.slice
  rw [List.drop_zero, List.take_of_length_le h, List.take_left]

/-- A message is taken, refused as busy, or discarded with event 255. -/
theorem i2cMbxSend_spec (msg : Bytes) (s : State) : ∃ t, exec (.i2cMbxSend msg) s = .next t ∧
      (if msg.length < 16 ∨ 4096 < msg.length then State.Discards s t
       else if s.mbxI2c.busy then State.AccErrs { s.bus with status := 1, bytes := [] } s t
       else t = ({ s with mbxI2c := t.mbxI2c } : State).i2cAnswer 0 [] ∧ t.mbxI2c.busy = true ∧ t.mbxI2c.rspReady = false ∧
         t.mbxI2c.req.take msg.length = msg ∧ t.mbxI2c.answer = none) := by
  refine ⟨s.i2cSend msg, rfl, ?_⟩
  unfold State.i2cSend
  by_cases hn : msg.length < 16 ∨ 4096 < msg.length
  · rw [if_pos hn, if_pos hn]
    exact s.i2cBad_discards
  · rw [if_neg hn, if_neg hn]
    cases hb : s.mbxI2c.busy
    · rw [if_neg (by simp), if_neg (by simp)]
      exact ⟨rfl, rfl, rfl, take_sliceZ (by omega), rfl⟩
    · rw [if_pos rfl, if_pos rfl]
      rw [← s.accErr_bus]
      exact s.accErr_accErrs.setBus _

theorem i2cMbxRecv_spec (s : State) : exec .i2cMbxRecv s =
    .next (if s.mbxI2c.busy then s.i2cAnswer 1 [] else s.i2cAnswer 0 (if s.mbxI2c.rsp = [] then List.replicate 16 0 else s.mbxI2c.rsp)) := by
  have h : exec .i2cMbxRecv s = .next s.i2cRecv := rfl
  rw [h]
  unfold State.i2cRecv
  simp only [List.isEmpty_iff, Bits.zeros]

/-- Settles O57: one lemma for each kind of access; the registers and the commands it lists are checked one by one. -/
theorem busesAndRegisters : Obligations.BusesAndRegisters := by
  refine ⟨registerWrite_discarded, registerWrite_plain, ?masks, fun v s => ⟨?commands, fun hv => ?commandBits⟩, registerRead_spec,
    bar2Access_spec, pf1Access_spec, configRequest_spec, linkChange_spec, i2cRead_spec, i2cWrite_spec, i2cMbxSend_spec, i2cMbxRecv_spec,
    fun s => ⟨s.i2cBad, rfl, s.i2cBad_discards⟩⟩
  case masks => decide
  case commands =>
    simp only [List.forall_mem_cons, List.not_mem_nil, false_implies, implies_true, and_true]
    refine ⟨?_, ?_, ?_, ?_, ?_, ?_⟩
    iterate 3 exact exec_registerWrite_command (by decide) (fun s => (State.regWrite_low (by decide) s v).trans rfl) rfl
    · exact exec_registerWrite_command (by decide) (fun s => (State.regWrite_tim (by decide) (by decide) s v).trans rfl) rfl
    · exact exec_registerWrite_command (by decide) (fun s => (State.regWrite_high (by decide) s v).trans rfl) rfl
    · exact exec_registerWrite_command (by decide)
        (fun s => (State.regWrite_high (by decide) s v).trans (State.writeHigh_pmuRingCtrl s v)) rfl
  case commandBits =>
    simp only [List.forall_mem_cons, List.not_mem_nil, false_implies, implies_true, and_true]
    refine ⟨?_, ?_, ?_, ?_, ?_, ?_, ?_, ?_⟩
    iterate 3
      exact exec_registerWrite_command (by decide) (fun s => (State.regWrite_low (by decide) s v).trans (State.onBit_set hv _ s)) rfl
    · exact exec_registerWrite_command (by decide)
        (fun s => (State.regWrite_tim (by decide) (by decide) s v).trans (State.onBit_set hv _ s)) rfl
    iterate 2
      exact exec_registerWrite_command (by decide)
        (fun s => (State.regWrite_mid (by decide) (by decide) s v).trans (State.onBit_set hv _ s)) rfl
    iterate 2
      exact exec_registerWrite_command (by decide) (fun s => (State.regWrite_high (by decide) s v).trans (State.onBit_set hv _ s)) rfl

end Sys2Proof.Machine
